-- ==== Sys2Proof/Word.lean ====
section
/-! DEFINITION. Word.lean: the words the manual treats as bits, and the sparse map that holds numbered instances. -/

namespace Sys2Proof

/-- One byte, as the images, capsules, pages and host buffers of the manual are made of. -/
abbrev Byte := BitVec 8

/-- A 32-bit register (spec/00_scope.md, register descriptions). -/
abbrev Word := BitVec 32

/-- A 64-bit word: a register-port datum (R30), a trace record (FIJ-2). -/
abbrev DWord := BitVec 64

/-- The data of one memory-port beat (R25). -/
abbrev Beat := BitVec 512

/-- A sparse map from an instance number: keys strictly rising, and no entry equal to what an unlisted key reads as. -/
abbrev NMap (α : Type) := List (Nat × α)

end Sys2Proof
end

