-- ==== Sys2Proof/Media.lean ====
section
/-! DEFINITION. Media.lean: the records that the medium carries across a start (Tables PGM-4, XLT-1, HUP-3), which a
restoration reads back and State holds while the block runs. -/

namespace Sys2Proof.Machine

open Sys2Proof

/-- The metadata of one sector (Table CDC-2), its CRCs left out: they are computed when it is packed. -/
structure Meta where
  lba : Nat := 0xFFFFFFFFFFFF
  ns : Nat := 0
  kind : Nat := 1
  flags : Nat := 0
  wseq : Nat := 0
  epoch : Nat := 0
  node : Nat := 0
  deriving DecidableEq, Repr

/-- One sector of a unit: its metadata, its 4,096 user bytes, and the command it belongs to (none for pad). -/
structure Sector where
  info : Meta := {}
  data : List Byte := []
  arr : Option Nat := none
  /-- FIFO words of it are poisoned and cannot be read again: it is written as pad (Table MEM-2). -/
  pad : Bool := false
  deriving DecidableEq, Repr

/-- Where a program unit stands (R202 to R209). -/
inductive UnitState where
  | reading | filling | waitHwm | waitBand | ready | programming | readback | done | failed | abandoned
  deriving DecidableEq, Repr

/-- What a program unit belongs to. -/
inductive UnitFor where
  /-- Host data of ingest FIFO k. -/
  | fifo (k : Nat)
  /-- A relocation, fold or refresh of ring sg. -/
  | ring (sg : Nat)
  /-- A garbage collection of namespace ns. -/
  | gc (ns : Nat)
  /-- The parity unit of a row (R227). -/
  | parity
  /-- A unit copied into the spare of LUN l (R223). -/
  | copy (l : Nat)
  /-- Data restored from the hold-up zone (R346). -/
  | restore
  deriving DecidableEq, Repr

/-- One program unit (R165, R201). -/
structure PUnit where
  use : UnitFor := .restore
  cls : Nat := 4
  ns : Nat := 0
  sg : Nat := 0
  sb : Nat := 0
  member : Nat := 0
  row : Nat := 0
  lun : Nat := 0
  mpb : Nat := 0
  slc : Bool := false
  policy : Nat := 0
  arch : Bool := false
  sectors : List Sector := []
  st : UnitState := .ready
  since : Nat := 0
  sinceAge : Nat := 0
  encoded : Nat := 0
  copsDone : Nat := 0
  attempts : Nat := 0
  readsLeft : Nat := 0
  bandAsked : Bool := false
  /-- Whether the journal holds its PROG_DONE in a written page (R214). -/
  durable : Bool := false
  jseqDone : Option Nat := none
  /-- The error entry whose recovery this unit is (R295). -/
  eseq : Option Nat := none
  /-- Number of its first sector within the superblock, and the zone it is of. -/
  first : Nat := 0
  zone : Nat := 0
  /-- The JSEQ of the PROG_HWM that covers it (R215). -/
  waitJ : Nat := 0
  /-- Pantry address of the page being encoded, and pages handed to the scheduler. -/
  base : Nat := 0
  pagesOut : Nat := 0
  /-- A rewind has passed over it, and it keeps its copy (R222). -/
  kept : Bool := false
  /-- The RELEASE has been sent (R206), and has arrived. -/
  released : Bool := false
  /-- Its temperature has been found in the band as its programming began; ARCH_WAIT has elapsed with it waiting (R207). -/
  banded : Bool := false
  offBand : Bool := false
  /-- STEP_FALLBACK has counted it (R203); its first pulse count and its limit, taken when it started (R205). -/
  fellBack : Bool := false
  pulses : Nat × Nat := (1, 1)
  /-- PRM_PAN_WAIT has counted its wait for a slot. -/
  slotWait : Bool := false
  /-- Its page must be programmed again after PROTECT (Table PGM-7). -/
  again : Bool := false
  /-- Its data belongs to a zone that has been reset (R473). -/
  dead : Bool := false
  /-- A codeword of its read-back has failed (R204). -/
  bad : Bool := false
  /-- Its LUN is isolated: the row parity carries it (Table ORD-7). -/
  viaParity : Bool := false
  deriving DecidableEq, Repr

/-- One entry of the intent journal (Table PGM-4). -/
structure JEntry where
  jseq : Nat := 0
  typ : Nat := 0
  susp : Bool := false
  lun : Nat := 0
  unit : Nat := 0
  page : Nat := 0
  arg : Nat := 0
  deriving DecidableEq, Repr

/-- What a relocation does (R234). -/
inductive RelocKind where
  | gapMove | refresh | fold
  deriving DecidableEq, Repr

/-- The relocation record of a ring (R234). -/
structure Reloc where
  kind : RelocKind := .gapMove
  zl : Nat := 0
  src : Nat := 0
  dst : Nat := 0
  phase : Nat := 1
  unit : Nat := 0
  units : Nat := 0
  /-- The unit being copied, and the severity of a refresh. -/
  cur : Option Nat := none
  sev : Nat := 0
  deriving DecidableEq, Repr

/-- One ring: a stripe group of a ZONED namespace (R230 to R235). -/
structure Ring where
  w : Nat := 0
  gap : Nat := 0
  resets : Nat := 0
  moveQueued : Nat := 0
  /-- A write waits for an erased superblock of the ring (R141). -/
  waitErase : Bool := false
  waitOpen : Bool := false
  reloc : Option Reloc := none
  deriving DecidableEq, Repr

/-- What the wear and block manager records of a superblock (R182, R236, R243). -/
structure SbInfo where
  openStamp : Option Nat := none
  closeStamp : Option Nat := none
  progTemp : Option Int := none
  ew : Nat := 0
  /-- RANDOM pools: 0 free, 1 open, 2 full; the next unit; valid sectors. -/
  pool : Nat := 0
  nextUnit : Nat := 0
  valid : Nat := 0
  slc : Bool := false
  /-- Erased for its present life: its blocks may be programmed (R201, R212). -/
  erased : Bool := false
  /-- Members that the open superblock skips (R292). -/
  skip : List Nat := []
  deriving DecidableEq, Repr

/-- The state of a zone (R229). -/
inductive ZState where
  | empty | open_ | full
  deriving DecidableEq, Repr

/-- One zone: WP is an offset from the zone's start (Table CQ-3). -/
structure Zone where
  st : ZState := .empty
  wp : Nat := 0
  /-- Sectors drawn by the packer so far (R288). -/
  drawn : Nat := 0
  slc : Bool := false
  policy : Nat := 0
  zcap : Nat := 0
  foldPending : Bool := false
  /-- Members skipped (R228). -/
  skipped : List Nat := []
  /-- The data path of the partial unit: none, or FIFO k (R310). -/
  path : Option Nat := none
  /-- LBAs of the zone that pad occupies, as (start, length). -/
  pads : List (Nat × Nat) := []
  /-- A reset or finish not yet DURABLE: arrival number and the CHECKPOINT that will carry it. -/
  staged : Option Nat := none
  stagedAt : Nat := 0
  resetAt : Nat := 0
  deriving DecidableEq, Repr

/-- One FIFO word (Table DMA-4). -/
structure FWord where
  data : List Byte := []
  tag : Nat := 0
  c0 : Bool := false
  /-- Its pantry word is uncorrectable (Table MEM-2); requests that read it again and have not ended. -/
  sick : Bool := false
  asks : Nat := 0
  deriving DecidableEq, Repr

/-- A TRIM or zone record (R340): namespace, first LBA or zone, sectors or command, arrival number. -/
structure HupRec where
  ns : Nat := 0
  first : Nat := 0
  count : Nat := 0
  arr : Nat := 0
  zone : Bool := false
  deriving DecidableEq, Repr

/-- The words of one FIFO that a HOLDUP saved (Table HUP-3). -/
structure HupFifo where
  fifo : Nat := 0
  mark : Nat := 0
  wr : Nat := 0
  first : Nat := 0
  last : Nat := 0
  words : List FWord := []
  deriving DecidableEq, Repr

/-- A region as the manifest records it (Table HUP-3). -/
structure HupRegion where
  handle : Nat := 0
  addr : Nat := 0
  len : Nat := 0
  saved : Nat := 0
  first : Nat := 0
  bytes : List Byte := []
  deriving DecidableEq, Repr

/-- The HOLDUP manifest and the data it names (Table HUP-3), as restoration reads them. -/
structure Manifest where
  count : Nat := 0
  level : Nat := 0
  bound : Nat := 0
  sectors : Nat := 0
  outcome : Nat := 0
  eKtl : Nat := 0
  eSpl : Nat := 0
  time : Nat := 0
  fifos : List HupFifo := []
  units : List PUnit := []
  /-- Arrival number, SQ, CID, sectors, and whether its completion was written. -/
  cmds : List (Nat × Nat × Nat × Nat × Bool) := []
  recs : List HupRec := []
  regions : List HupRegion := []
  deriving DecidableEq, Repr

/-- One threshold-table entry (R181). -/
structure ThrEntry where
  base : List Int := [0, 0, 0, 0, 0, 0, 0]
  lastRow : Nat := 31
  conf : Nat := 0
  deriving DecidableEq, Repr

/-- What the read of a unit in a PROG_DONE to PROG_HWM range found (R219, R461): LUN, multi-plane block, unit row, and
whether every page of it read ERASED. -/
structure UnitScan where
  lun : Nat := 0
  mpb : Nat := 0
  row : Nat := 0
  erased : Bool := true
  deriving DecidableEq, Repr

/-- A sector found in a superblock programmed since the newest map checkpoint (R244). -/
structure FoundSector where
  ns : Nat := 0
  lba : Nat := 0
  wseq : Nat := 0
  psn : Nat := 0
  deriving DecidableEq, Repr

/-- What media-state restoration reads from the medium (R74, Table XLT-1): the newest CHECKPOINT's record, the journal pages
from it on, each entry with whether its ECRC is good, the unit reads of replay, the map checkpoint and the sectors found
since, the epoch and threshold records, and what the hold-up zone holds. -/
structure MediaImg where
  /-- LUN, block and page of the newest journal page. -/
  head : Nat × Nat × Nat := (0, 0, 0)
  openSb : NMap (Option Nat) := []
  rings : NMap Ring := []
  remap : NMap (List (Nat × Nat)) := []
  erases : NMap Nat := []
  zones : NMap Zone := []
  sbs : NMap SbInfo := []
  /-- Superblocks that reading finds programmed in SLC mode. -/
  slcSbs : List Nat := []
  retired : List (Nat × Nat) := []
  isol : NMap Word := []
  lost : List (Nat × Nat) := []
  ageMin : Nat := 0
  pages : List (List (JEntry × Bool)) := []
  scans : List UnitScan := []
  /-- The page maps, and the write sequence number behind each entry, a TRIM's included (R244). -/
  map : NMap Nat := []
  mapSeq : NMap Nat := []
  found : List FoundSector := []
  nextWseq : Nat := 1
  /-- Credential hashes by namespace (R408). -/
  creds : NMap (List Byte) := []
  /-- Host sectors written and sectors programmed. -/
  life : Nat × Nat := (0, 0)
  /-- The newest current epoch of any epoch record; none where there is no record. -/
  epoch : Option Nat := none
  table : NMap ThrEntry := []
  manifest : Option Manifest := none
  /-- Hold-up blocks that are not erased. -/
  hupDirty : List (Nat × Nat) := []
  deriving DecidableEq, Repr

end Sys2Proof.Machine
end

