-- ==== Sys2Proof/Syntax.lean ====
section
/-! DEFINITION. Syntax.lean: the commands that the block takes, one constructor for each row of spec/opcode_table.json. -/

namespace Sys2Proof


/-- The calibration set of one CE_n line, trained on its lowest present volume (R379): centre and deskew taps, eye widths in taps, VREF
in 0.5 % steps of VCCQ, two DFE weights a bit. What a signalling mode does not train is `none` or empty (R385). -/
structure CeSet where
  rdCentre : Nat := 32
  rdDeskew : List Nat := []
  rdEyes : List Nat := []
  wrLevel : Option Nat := none
  wrDeskew : List Nat := []
  wrEyes : List Nat := []
  vref : Option Int := none
  dfe : List Int := []
  deriving DecidableEq, Repr

/-- What one calibration run of a channel measures (R380, R381, R386): the sets of its CE_n lines, the delays of each delay line's 80
cells (empty where CELL_MEAS did not run), and the resistances in Ω of the 24 legs of the driver's and the ODT's two directions. -/
structure CalMeas where
  lines : List CeSet := []
  cells : List (List Nat) := []
  drvUp : List Nat := []
  drvDn : List Nat := []
  odtUp : List Nat := []
  odtDn : List Nat := []
  deriving DecidableEq, Repr

/-- A calibration set of a channel (Table CAL-1): its CE_n lines, the cells that each delay line runs with, the numbers of legs of driver up
and down and ODT up and down, and whether each lies within a tenth of its target. -/
structure CalSet where
  lines : List CeSet := []
  cells : List (List Nat) := []
  legs : List Int := []
  near : Bool := true
  deriving DecidableEq, Repr

/-- What REF_SEL and ADC_CAL measure (R382): the differences of the bandgap pairs 01, 02, 03, 12, 13, 23 in 0.01 %, the
offsets and gains of ADC0 and ADC1, and input 38's code. -/
structure RefMeas where
  diffs : List Nat := []
  ofs0 : Int := 0
  ofs1 : Int := 0
  gain0 : Nat := 0x8000
  gain1 : Nat := 0x8000
  i38 : Nat := 0
  deriving DecidableEq, Repr


/-- What the configuration flash answers in LOADING: the density that SFDP declares, in bytes (R52), the flash's contents as pieces at
rising offsets, an unlisted byte being 0xFF, and what a second and a third reading find where they find other bytes (R64). -/
structure FlashAns where
  density : Nat := 1048576
  bytes : List (Nat × List Byte) := []
  again : List (List (Nat × List Byte)) := []
  deriving DecidableEq, Repr


/-- What a decoder ends with (R174, R175): whether every check is satisfied, the 4,128 decided information bytes before
derandomising, the iterations run in all, and the unsatisfied checks. -/
structure DecodeRes where
  conv : Bool := false
  info : List Byte := []
  iters : Nat := 0
  unsat : Nat := 0
  deriving DecidableEq, Repr

/-- A copy of a volume's ONFI parameter page (R106): its CRC is good; the page size, the planes and the LUNs that it reports. -/
structure ParamPage where
  crcOk : Bool := true
  pageBytes : Nat := 0
  planes : Nat := 0
  luns : Nat := 0
  deriving DecidableEq, Repr

/-- What a volume answers during bring-up (Table CHN-2): its number 4·e + v, its READ ID bytes, the copies of its parameter page, and
whether ZQ calibration is reported failed. -/
structure VolAns where
  vol : Nat := 0
  id : List Byte := []
  params : List ParamPage := []
  zqFail : Bool := false
  deriving DecidableEq, Repr

/-- What the release of PO_RST_n meets: the memory whose self-test fails, and the auxiliary supply in mV (R51, R445). -/
structure PowerUp where
  bistFail : Option Nat
  vaux : Nat
  deriving DecidableEq, Repr

/-- What CFG_UPDATE_COMMIT reads back: its mailbox slot, and the bytes of the image that differ from what was programmed (R75). -/
structure ReadBack where
  slot : Nat
  differ : List (Nat × Byte)
  deriving DecidableEq, Repr

/-- What a channel's bring-up meets (Table CHN-2): the answers of its volumes, and the runs of its training, in order, with their rates in
MT/s; at a rate that is not listed it does not converge (R105 to R108). -/
structure BringUp where
  ch : Nat := 0
  vols : List VolAns := []
  trains : List (Nat × CalMeas) := []
  deriving DecidableEq, Repr


/-- The operations and events of spec/opcode_table.json, one constructor for each row. -/
inductive Instr where
  /-- PO_RST_ASSERT (R79). -/
  | poRstAssert
  /-- PO_RST_RELEASE (R51). -/
  | poRstRelease (straps : BitVec 6) (nodeId : BitVec 24) (up : PowerUp)
  /-- SYS_RST_ASSERT (R465). -/
  | sysRstAssert
  /-- SYS_RST_RELEASE (R51). -/
  | sysRstRelease (bistFail : Option Nat)
  /-- SYS_RST_DEFERRED_EFFECT (R44). -/
  | sysRstDeferredEffect
  /-- PFAIL_LATCH (R41). -/
  | pfailLatch
  /-- PF_SNS_TRIP (R447). -/
  | pfSnsTrip
  /-- BURST_WARN_ASSERT (R88). -/
  | burstWarnAssert
  /-- BURST_WARN_DEASSERT (R88). -/
  | burstWarnDeassert
  /-- EPOCH_SYNC_EDGE (R304). -/
  | epochSyncEdge
  /-- STAGE_FAULT_ASSERT (R336). -/
  | stageFaultAssert
  /-- STAGE_FAULT_DEASSERT (R336). -/
  | stageFaultDeassert
  /-- TACH_EDGE (R373). -/
  | tachEdge (j : Nat)
  /-- INPUT_STUCK_TIMEOUT (R98). -/
  | inputStuckTimeout (i : Nat)
  /-- INPUT_REARM_ELAPSED (R98). -/
  | inputRearmElapsed (i : Nat)
  /-- INPUT_FILTER_WRITE (R95). -/
  | inputFilterWrite (i : Nat) (v : Word)
  /-- REGISTER_WRITE (R30). -/
  | registerWrite (k : Nat) (hsel : BitVec 2) (data : DWord)
  /-- MP_CREDIT_RETURN (R24). -/
  | mpCreditReturn (port : Nat)
  /-- MP_READ_RESPONSE (R28). -/
  | mpReadResponse (port tag gen beat st : Nat) (spar : BitVec 64) (data : Beat)
  /-- MP_WRITE_ACK (R28). -/
  | mpWriteAck (port tag gen st : Nat)
  /-- MP_RESPONSE_TIMEOUT (R28). -/
  | mpResponseTimeout (port tag : Nat)
  /-- MP_REISSUE (R28). -/
  | mpReissue (port tag : Nat)
  /-- MP_PURPOSE_FAIL_END (R467). -/
  | mpPurposeFailEnd (id : Nat)
  /-- MP_PDREQ_RISE (R93). -/
  | mpPdreqRise (port : Nat)
  /-- MP_WITHDRAW_COMPLETE (R93). -/
  | mpWithdrawComplete (port : Nat)
  /-- MP_PDREQ_FALL (R93). -/
  | mpPdreqFall (port : Nat)
  /-- MP_WITHDRAW_TIMEOUT (R94). -/
  | mpWithdrawTimeout (port : Nat)
  /-- DRQ_EDGE (R312). -/
  | drqEdge (k : Nat)
  /-- SPL_STATUS_WORD (R37). -/
  | splStatusWord (w : Word)
  /-- SPL_STATUS_TIMEOUT (R38). -/
  | splStatusTimeout
  /-- BRAKE_REFRESH (R341). -/
  | brakeRefresh
  /-- LINK (R15). -/
  | link (g stream : Nat) (kind : Nat) (seq : Nat)
  /-- LINK_RESET (R16). -/
  | linkReset (g stream : Nat)
  /-- OP_REQ (R139). -/
  | opReq (g seq : Nat) (crc : BitVec 16)
  /-- OP_RESULT (R135). -/
  | opResult (g seq : Nat) (crc : BitVec 16)
  /-- WDATA (R324). -/
  | wdata (g seq : Nat) (crc : BitVec 16)
  /-- RDATA (R309). -/
  | rdata (g seq : Nat) (crc : BitVec 16)
  /-- CREDIT (R13). -/
  | credit (g : Nat) (up : Bool) (seq : Nat) (crc : BitVec 16)
  /-- FIFO_STATE (R13). -/
  | fifoState (g seq : Nat) (crc : BitVec 16)
  /-- RELEASE (R327). -/
  | release (g seq : Nat) (crc : BitVec 16)
  /-- EVENT (R13). -/
  | event (g seq : Nat) (crc : BitVec 16)
  /-- CTRL_REQ (R436). -/
  | ctrlReq (g seq : Nat) (crc : BitVec 16)
  /-- CTRL_RESP (R13). -/
  | ctrlResp (g seq : Nat) (crc : BitVec 16)
  /-- PATCH (R118). -/
  | patch (g seq : Nat) (crc : BitVec 16)
  /-- QUIESCE (R90). -/
  | quiesce (g : Nat) (up : Bool) (seq : Nat) (crc : BitVec 16)
  /-- HOLDUP_MESSAGE (R339). -/
  | holdupMessage (g : Nat) (up : Bool) (seq : Nat) (crc : BitVec 16)
  /-- STATS (R436). -/
  | stats (g seq : Nat) (crc : BitVec 16)
  /-- FAULT (R16). -/
  | fault (g : Nat) (up : Bool) (seq : Nat) (crc : BitVec 16)
  /-- MODE_REQ_NONE (R80). -/
  | modeReqNone (run : BitVec 4)
  /-- MODE_REQ_DORMANT (R82). -/
  | modeReqDormant (run : BitVec 4)
  /-- MODE_REQ_STANDBY (R79). -/
  | modeReqStandby (run : BitVec 4)
  /-- MODE_REQ_WARM (R79). -/
  | modeReqWarm (run : BitVec 4)
  /-- MODE_REQ_SERVE (R79). -/
  | modeReqServe (run : BitVec 4)
  /-- MODE_REQ_INGEST (R79). -/
  | modeReqIngest (run : BitVec 4)
  /-- MODE_REQ_DRAIN (R79). -/
  | modeReqDrain (run : BitVec 4)
  /-- MODE_REQ_MAINTAIN (R79). -/
  | modeReqMaintain (run : BitVec 4)
  /-- MODE_REQ_SAFE (R300). -/
  | modeReqSafe (run : BitVec 4)
  /-- MODE_REQ_FACTORY (R79). -/
  | modeReqFactory (run : BitVec 4)
  /-- WARM_IDLE_EXPIRY (R79). -/
  | warmIdleExpiry
  /-- STBY_IDLE_EXPIRY (R82). -/
  | stbyIdleExpiry
  /-- RUN_DRAIN_COMPLETE (R81). -/
  | runDrainComplete
  /-- DESCENT_COMPLETE (R466). -/
  | descentComplete
  /-- WAKE_COMPLETE (R87). -/
  | wakeComplete (bring : List BringUp) (fails : List Nat) (img : Machine.MediaImg)
  /-- MEDIA_RESTORE_COMPLETE (R346). -/
  | mediaRestoreComplete
  /-- CFG_WIP_POLL_TIMEOUT (R52). -/
  | cfgWipPollTimeout
  /-- CFG_LOAD_COMPLETE (R63). -/
  | cfgLoadComplete (ans : Option FlashAns)
  /-- PATCH_GO (R68). -/
  | patchGo (len : Nat)
  /-- CAPSULE_CHECK_COMPLETE (R70). -/
  | capsuleCheckComplete
  /-- PATCH_DONE (R72). -/
  | patchDone
  /-- PATCH_WAIT_EXPIRY (R72). -/
  | patchWaitExpiry
  /-- HK_RESET_COUNT_CLEAR (R77). -/
  | hkResetCountClear
  /-- GATE_REQUEST (R90). -/
  | gateRequest (g : Nat)
  /-- GATE_HANDSHAKE_COMPLETE (R90). -/
  | gateHandshakeComplete (g : Nat)
  /-- GATE_CLEAR (R91). -/
  | gateClear (g : Nat) (byHost : Bool)
  /-- GATE_FORCE (R92). -/
  | gateForce (g : Nat)
  /-- GATE_TIMEOUT (R92). -/
  | gateTimeout (g : Nat)
  /-- RB_RISE (R103). -/
  | rbRise (ch e : Nat)
  /-- NOP (R125). -/
  | uNop (ch : Nat)
  /-- CMD (R125). -/
  | uCmd (ch : Nat)
  /-- ADR (R125). -/
  | uAdr (ch : Nat)
  /-- DOUT (R125). -/
  | uDout (ch : Nat)
  /-- DIN (R125). -/
  | uDin (ch lun : Nat)
  /-- WAIT (R125). -/
  | uWait (ch : Nat)
  /-- POLL (R125). -/
  | uPoll (ch lun : Nat)
  /-- BR (R119). -/
  | uBr (ch : Nat)
  /-- BRC (R126). -/
  | uBrc (ch : Nat)
  /-- LDI (R125). -/
  | uLdi (ch : Nat)
  /-- LDP (R125). -/
  | uLdp (ch : Nat)
  /-- ADD (R125). -/
  | uAdd (ch : Nat)
  /-- AND (R125). -/
  | uAnd (ch : Nat)
  /-- SHL (R125). -/
  | uShl (ch : Nat)
  /-- SETF (R132). -/
  | uSetf (ch : Nat)
  /-- SEL (R125). -/
  | uSel (ch : Nat)
  /-- EVT (R125). -/
  | uEvt (ch : Nat)
  /-- YIELD (R128). -/
  | uYield (ch : Nat)
  /-- COMMIT (R129). -/
  | uCommit (ch : Nat)
  /-- END (R135). -/
  | uEnd (ch : Nat)
  /-- PHY (R125). -/
  | uPhy (ch : Nat) (res : Option Word)
  /-- NO_YIELD (R127). -/
  | noYield (ch : Nat)
  /-- BUS_TRANSFER_DONE (R124). -/
  | busTransferDone (ch : Nat) (bytes : List Byte)
  /-- YIELD_WAKE (R128). -/
  | yieldWake (ch lun : Nat)
  /-- ABORT_REQUEST (R130). -/
  | abortRequest (ch lun : Nat)
  /-- READ_PAGE (R134). -/
  | copReadPage (ch lun : Nat)
  /-- READ_MULTI (R134). -/
  | copReadMulti (ch lun : Nat)
  /-- CACHE_READ (R134). -/
  | copCacheRead (ch lun : Nat)
  /-- SOFT_READ (R134). -/
  | copSoftRead (ch lun : Nat)
  /-- PROGRAM (R134). -/
  | copProgram (ch lun : Nat)
  /-- PROGRAM_SLC (R134). -/
  | copProgramSlc (ch lun : Nat)
  /-- PROGRAM_STEP (R205). -/
  | copProgramStep (ch lun : Nat)
  /-- ERASE (R210). -/
  | copErase (ch lun : Nat)
  /-- SUSPEND (R134). -/
  | copSuspend (ch lun : Nat)
  /-- RESUME (R134). -/
  | copResume (ch lun : Nat)
  /-- READ_STATUS (R134). -/
  | copReadStatus (ch lun : Nat)
  /-- GET_FEAT (R134). -/
  | copGetFeat (ch lun : Nat)
  /-- SET_FEAT (R134). -/
  | copSetFeat (ch lun : Nat)
  /-- RESET_LUN (R134). -/
  | copResetLun (ch lun : Nat)
  /-- READ_ID (R134). -/
  | copReadId (ch lun : Nat)
  /-- READ_PARAM (R134). -/
  | copReadParam (ch lun : Nat)
  /-- ZQ_CAL (R134). -/
  | copZqCal (ch lun : Nat)
  /-- TRAIN (R384). -/
  | copTrain (ch lun : Nat)
  /-- RECOVER (R136). -/
  | copRecover (ch lun : Nat)
  /-- HARD_DECODE_DONE (R174). -/
  | hardDecodeDone (id : Nat) (r : DecodeRes)
  /-- SOFT_DECODE_DONE (R175). -/
  | softDecodeDone (id : Nat) (r : DecodeRes)
  /-- SOFT_PASS_ISSUE (R196). -/
  | softPassIssue
  /-- RECOVERY_ENTRY_FREE (R196). -/
  | recoveryEntryFree
  /-- PACKER_DRAW (R325). -/
  | packerDraw (k : Nat)
  /-- ENCODE_DONE (R173). -/
  | encodeDone (ch : Nat)
  /-- ARCH_BAND_POLL (R207). -/
  | archBandPoll (lun : Nat) (temp : BitVec 8)
  /-- ARCH_WAIT_EXPIRY (R207). -/
  | archWaitExpiry (unit : Nat)
  /-- ARCH_STALL_EXPIRY (R208). -/
  | archStallExpiry (unit : Nat)
  /-- ERROR_ENTRY_RESOLVE (R294). -/
  | errorEntryResolve (eseq : Nat)
  /-- EQ_ACK (R296). -/
  | eqAck (v : Word)
  /-- JRNL_INT_EXPIRY (R214). -/
  | jrnlIntExpiry
  /-- RELOCATION_START (R234). -/
  | relocationStart (sg : Nat)
  /-- RELOCATION_PHASE_END (R234). -/
  | relocationPhaseEnd (sg : Nat)
  /-- REFRESH_SCAN (R236). -/
  | refreshScan
  /-- GC_START (R243). -/
  | gcStart (ns : Nat)
  /-- MAP_CHECKPOINT (R244). -/
  | mapCheckpoint (ns : Nat)
  /-- ZONE_CHECKPOINT_TIMER (R272). -/
  | zoneCheckpointTimer
  /-- AGE_CLOCK_MINUTE (R188). -/
  | ageClockMinute
  /-- OFFTIME_WRITE (R188). -/
  | offtimeWrite (v : Word)
  /-- THRESHOLD_SWEEP (R190). -/
  | thresholdSweep (lun row k : Nat)
  /-- THRESHOLD_SAVE (R191). -/
  | thresholdSave
  /-- MC_INVALIDATE_LINE (R248). -/
  | mcInvalidateLine
  /-- MC_INVALIDATE_ALL (R248). -/
  | mcInvalidateAll
  /-- MC_WRITE_BACK_ALL (R248). -/
  | mcWriteBackAll
  /-- MC_ENABLE_CLEAR (R248). -/
  | mcEnableClear
  /-- MC_ENABLE_SET (R248). -/
  | mcEnableSet
  /-- SQ_DOORBELL (R252). -/
  | sqDoorbell (q : Nat) (v : Word)
  /-- CQ_DOORBELL (R252). -/
  | cqDoorbell (q : Nat) (v : Word)
  /-- SQ_FETCH (R257). -/
  | sqFetch
  /-- READ (R264). -/
  | read (arr : Nat)
  /-- WRITE (R266). -/
  | write (arr : Nat)
  /-- APPEND (R271). -/
  | append (arr : Nat)
  /-- FLUSH (R274). -/
  | flush (arr : Nat)
  /-- TRIM (R268). -/
  | trim (arr : Nat)
  /-- VERIFY (R267). -/
  | verify (arr : Nat)
  /-- ZONE_OPEN (R269). -/
  | zoneOpen (arr : Nat)
  /-- ZONE_FINISH (R272). -/
  | zoneFinish (arr : Nat)
  /-- ZONE_RESET (R272). -/
  | zoneReset (arr : Nat)
  /-- ZONE_REPORT (R273). -/
  | zoneReport (arr : Nat)
  /-- EPOCH_MARK (R275). -/
  | epochMark (arr : Nat)
  /-- EPOCH_COMMIT (R305). -/
  | epochCommit (arr : Nat)
  /-- CUSTODY_REGISTER (R277). -/
  | custodyRegister (arr : Nat)
  /-- CUSTODY_RELEASE (R278). -/
  | custodyRelease (arr : Nat)
  /-- COMPLETION_RELEASE (R290). -/
  | completionRelease (arr : Nat)
  /-- CQ_AGG_TIMER (R256). -/
  | cqAggTimer (q : Nat)
  /-- CQ_PEND_CLEAR (R256). -/
  | cqPendClear (hi : Bool) (mask : Word)
  /-- SQ_ENABLE (R251). -/
  | sqEnable (q : Nat)
  /-- CQ_ENABLE (R251). -/
  | cqEnable (q : Nat)
  /-- SQ_RESET (R281). -/
  | sqReset (q : Nat) (off : Bool)
  /-- SQ_RESET_COMPLETE (R281). -/
  | sqResetComplete (q : Nat)
  /-- CQ_RESET (R281). -/
  | cqReset (q : Nat) (off : Bool)
  /-- QUIESCE_REQUEST (R303). -/
  | quiesceRequest
  /-- QUIESCE_COMPLETE (R303). -/
  | quiesceComplete
  /-- QUIESCE_CLEAR (R303). -/
  | quiesceClear
  /-- EPOCH_SET_WRITE (R306). -/
  | epochSetWrite (v : Word)
  /-- DMA_BURST_ISSUE (R311). -/
  | dmaBurstIssue (port : Nat)
  /-- DMA_KICK (R320). -/
  | dmaKick (v : Word)
  /-- CTX_PAUSE (R321). -/
  | ctxPause (k : Nat)
  /-- PAUSE_COMPLETE (R321). -/
  | pauseComplete (k : Nat)
  /-- CTX_RESUME (R321). -/
  | ctxResume (k : Nat)
  /-- CTX_DISABLE (R322). -/
  | ctxDisable (k : Nat)
  /-- CTX_ENABLE (R322). -/
  | ctxEnable (k : Nat)
  /-- ENERGY_ESTIMATE (R334). -/
  | energyEstimate
  /-- KETTLE_HEALTH_CHECK (R337). -/
  | kettleHealthCheck
  /-- HEALTH_GO (R337). -/
  | healthGo
  /-- HEALTH_PHASE_END (R337). -/
  | healthPhaseEnd (timeout : Bool) (a b : Nat)
  /-- HOLDUP_ENERGY_CHECK (R342). -/
  | holdupEnergyCheck (usable committed : Nat)
  /-- HOLDUP_SAVE_COMPLETE (R339). -/
  | holdupSaveComplete (usedKtl usedSpl : Nat)
  /-- HOLDUP_DONE (R339). -/
  | holdupDone
  /-- RESTORE_GO (R348). -/
  | restoreGo
  /-- RESTORE_SKIP (R348). -/
  | restoreSkip
  /-- ADC_FRAME_START (R351). -/
  | adcFrameStart
  /-- ADC_CONVERSION_END (R352). -/
  | adcConversionEnd (adc entry raw : Nat)
  /-- ADC_OPEN_TEST (R353). -/
  | adcOpenTest (input raw : Nat)
  /-- LOOP_SAMPLE (R356). -/
  | loopSample (s wait : Nat) (dropped : Bool)
  /-- LOOP_OPEN (R362). -/
  | loopOpen (s : Nat)
  /-- LOOP_CLOSE (R364). -/
  | loopClose (s : Nat)
  /-- LOOP_TUNE (R371). -/
  | loopTune (s : Nat)
  /-- LOOP_COEFF_WRITE (R363). -/
  | loopCoeffWrite (v : Word)
  /-- LOOP_TRACE_CFG_WRITE (R370). -/
  | loopTraceCfgWrite (s : Nat) (v : Word)
  /-- ANALOG_TRIP (R369). -/
  | analogTrip
  /-- ANALOG_TRIP_RELEASE (R369). -/
  | analogTripRelease
  /-- DIE_TEMP_POLL (R354). -/
  | dieTempPoll (lun : Nat) (p1 : BitVec 8)
  /-- FAN_FAIL (R373). -/
  | fanFail (z : Nat)
  /-- CAL_INTERVAL_EXPIRY (R388). -/
  | calIntervalExpiry (ch : Nat)
  /-- CAL_REQ_RECAL (R388). -/
  | calReqRecal (ch : Nat) (all : Bool)
  /-- CAL_REQ_FULL (R380). -/
  | calReqFull (ch : Nat) (all : Bool)
  /-- CAL_REQ_CHECK (R388). -/
  | calReqCheck (ch : Nat) (all : Bool)
  /-- CAL_REQ_REF (R382). -/
  | calReqRef (m : RefMeas)
  /-- CAL_RUN_COMPLETE (R386). -/
  | calRunComplete (ch : Nat) (r : CalMeas)
  /-- CAL_APPLY_GAP (R390). -/
  | calApplyGap (ch : Nat)
  /-- CAL_FORCE_EXPIRY (R391). -/
  | calForceExpiry (ch : Nat)
  /-- SCRUB_READ (R401). -/
  | scrubRead (memid inst w kind : Nat)
  /-- MEM_LOG_CLEAR (R400). -/
  | memLogClear
  /-- SEC_LKEY_WRITE (R410). -/
  | secLkeyWrite (v : Word)
  /-- SEC_KEY_WRITE (R410). -/
  | secKeyWrite (v : Word)
  /-- SEC_CMD_WRITE (R410). -/
  | secCmdWrite (v : Word)
  /-- SEC_OPERAND_WRITE (R410). -/
  | secOperandWrite (which : Nat) (v : Word)
  /-- SEC_SEQUENCE_TIMEOUT (R411). -/
  | secSequenceTimeout
  /-- RAISE (R406). -/
  | raise
  /-- LOWER (R414). -/
  | lower
  /-- LOWER_ACCEPTED (R415). -/
  | lowerAccepted
  /-- SANITIZE_COMPLETE (R415). -/
  | sanitizeComplete
  /-- NS_SETKEY (R408). -/
  | nsSetkey
  /-- NS_UNLOCK (R408). -/
  | nsUnlock
  /-- NS_LOCK (R409). -/
  | nsLock
  /-- OTP_KEYHASH (R412). -/
  | otpKeyhash
  /-- OTP_CAPKEY (R412). -/
  | otpCapkey
  /-- OTP_SIGREQ (R412). -/
  | otpSigreq
  /-- OTP_FLOOR (R412). -/
  | otpFloor
  /-- REG_WRITE (R413). -/
  | regWrite
  /-- HK_LOAD_UPDATE (R421). -/
  | hkLoadUpdate (load : Nat)
  /-- HK_SHED_STEP (R421). -/
  | hkShedStep
  /-- HK_WATCHDOG_EXPIRY (R427). -/
  | hkWatchdogExpiry (poison : Bool)
  /-- MAILBOX_DOORBELL (R423). -/
  | mailboxDoorbell (v : Word)
  /-- MAILBOX_SLOT_FREE (R423). -/
  | mailboxSlotFree (mask : Word)
  /-- ECHO (R425). -/
  | echo (slot : Nat)
  /-- HK_INFO (R425). -/
  | hkInfo (slot : Nat)
  /-- CFG_UPDATE_BEGIN (R75). -/
  | cfgUpdateBegin (slot : Nat)
  /-- CFG_UPDATE_DATA (R75). -/
  | cfgUpdateData (slot : Nat)
  /-- CFG_UPDATE_COMMIT (R75). -/
  | cfgUpdateCommit (back : ReadBack)
  /-- CFG_UPDATE_ABORT (R424). -/
  | cfgUpdateAbort (slot : Nat)
  /-- CFG_READ_SECTION (R65). -/
  | cfgReadSection (slot : Nat)
  /-- STAT_ERASE (R425). -/
  | statErase (slot : Nat)
  /-- STAT_WEAR (R425). -/
  | statWear (slot : Nat)
  /-- STAT_THRESHOLD (R425). -/
  | statThreshold (slot : Nat)
  /-- STAT_DIE_TEMPS (R425). -/
  | statDieTemps (slot : Nat)
  /-- STAT_ZONE (R425). -/
  | statZone (slot : Nat)
  /-- STAT_LIFE (R425). -/
  | statLife (slot : Nat)
  /-- BB_LIST (R425). -/
  | bbList (slot : Nat)
  /-- BB_RETIRE (R425). -/
  | bbRetire (slot : Nat)
  /-- REFRESH_REQ (R425). -/
  | refreshReq (slot : Nat)
  /-- FIJ_CTL_WRITE (R431). -/
  | fijCtlWrite (v : Word)
  /-- DBG_TRACE_ENABLE (R433). -/
  | dbgTraceEnable (v : Word)
  /-- REGISTER_READ (R6). -/
  | registerRead (k : Nat) (hsel : BitVec 2)
  /-- UNGATE_COMPLETE (R91). -/
  | ungateComplete (g : Nat) (fails : List Nat) (bring : List BringUp)
  /-- SPI_SEQUENCER_DONE (R76). -/
  | spiSequencerDone (ok : Bool)
  /-- OTP_PROGRAM_DONE (R406). -/
  | otpProgramDone
  deriving DecidableEq, Repr

end Sys2Proof
end

