-- ==== Sys2Proof/Decode.lean ====
section
/-! DEFINITION. Decode.lean: the command that a word spells by the bits of spec/opcode_table.json. No row of the table has bits:
the block's commands are accesses, messages and events, and none is an instruction word. The microwords that its sequencers run
(Table SEQ-8) are data of the block, read in Machine/Seq.lean. -/

namespace Sys2Proof

/-- The command that a word of nbits bits spells: none, since no row of the table gives bits. -/
def decodeTableWord (_nbits _w : Nat) : Option Instr := none

end Sys2Proof
end

