-- ==== Sys2Proof/Machine/Bits.lean ====
section
/-! DEFINITION. Machine/Bits.lean: the bit-serial codes of the manual: CRC-32C (R53), CRC-16 (R14), the randomiser's
LFSR (R166) and the check bits of the internal memories (R393). -/

namespace Sys2Proof.Machine

open Sys2Proof

/-- The bits of a byte, the least significant first. -/
def byteBits (b : Byte) : List Bool := (List.range 8).map fun i => b.getLsbD i

/-- The byte whose bits are bs, the first in bit 0. -/
def bitsByte (bs : List Bool) : Byte :=
  BitVec.ofNat 8 ((bs.zip (List.range 8)).foldl (fun a p => a + (if p.1 then 2 ^ p.2 else 0)) 0)

/-- The even parity bit of a byte. -/
def byteParity (b : Byte) : Bool := (byteBits b).foldl xor false

/-- Even parity, bit k covering byte k (R25). -/
def parityOf (bs : List Byte) : BitVec 64 :=
  BitVec.ofNat 64 ((bs.zip (List.range 64)).foldl (fun a p => a + (if byteParity p.1 then 2 ^ p.2 else 0)) 0)

/-- One bit of CRC-32C, reflected: 0x82F63B78 is 0x1EDC6F41 with its bits reversed. -/
def crc32cBit (c : Word) : Word := if c.getLsbD 0 then (c >>> 1) ^^^ 0x82F63B78#32 else c >>> 1

/-- CRC-32C (R53). -/
def crc32c (bs : List Byte) : Word :=
  (bs.foldl (fun c b => Nat.repeat crc32cBit 8 (c ^^^ b.setWidth 32)) 0xFFFFFFFF#32) ^^^ 0xFFFFFFFF#32

/-- One bit of the CRC-16 of R14. -/
def crc16Bit (c : BitVec 16) : BitVec 16 := if c.getLsbD 15 then (c <<< 1) ^^^ 0x1021#16 else c <<< 1

/-- CRC-16: polynomial 0x1021, initial 0xFFFF, no reflection, no final XOR (R14). -/
def crc16 (bs : List Byte) : BitVec 16 :=
  bs.foldl (fun c b => Nat.repeat crc16Bit 8 (c ^^^ BitVec.shiftLeft (b.setWidth 16) 8)) 0xFFFF#16

/-- One step of the randomiser's LFSR: the output bit and the next state (R166). -/
def lfsrStep (s : BitVec 32) : Bool × BitVec 32 :=
  let fb := ((s.getLsbD 31 ^^ s.getLsbD 21) ^^ s.getLsbD 1) ^^ s.getLsbD 0
  (s.getLsbD 31, (s <<< 1) ||| (if fb then 1#32 else 0#32))

/-- The next n output bits, first bit first, and the state after them. -/
def lfsrBits : Nat → BitVec 32 → List Bool × BitVec 32
  | 0, s => ([], s)
  | n + 1, s =>
    let (b, s1) := lfsrStep s
    let (bs, s2) := lfsrBits n s1
    (b :: bs, s2)

/-- The number whose bits are bs, the first in bit 0. -/
def bitsNat : List Bool → Nat
  | [] => 0
  | b :: bs => (if b then 1 else 0) + 2 * bitsNat bs

/-- The data XORed with the stream of the LFSR from state s (R166). -/
def randomise : List Byte → BitVec 32 → List Byte
  | [], _ => []
  | b :: bs, s =>
    let (k, s1) := lfsrBits 8 s
    (b ^^^ bitsByte k) :: randomise bs s1

/-- The remainder of d(x)·x¹⁴ by g(x) = 0x4377, the bits of d taken from the highest power (R393). -/
def bchRem (bits : List Bool) : BitVec 14 :=
  bits.foldl (fun r b =>
    let top := r.getLsbD 13 ^^ b
    (r <<< 1) ^^^ (if top then 0x0377#14 else 0#14)) 0#14

/-- The fifteen check bits of a 64-bit word (R393). -/
def decTedCheck (d : DWord) : BitVec 15 :=
  let c := bchRem ((List.range 64).map fun i => d.getLsbD (63 - i))
  let par := (List.range 64).foldl (fun p i => p ^^ d.getLsbD i) false ^^
    (List.range 14).foldl (fun p i => p ^^ c.getLsbD i) false
  c.setWidth 15 ||| (if par then 0x4000#15 else 0#15)

end Sys2Proof.Machine
end

