-- ==== Sys2Proof/Config.lean ====
section
/-! DEFINITION. Config.lean: the values and functions that the manual leaves open or takes from outside it. None has a
body that a proof could see. -/

namespace Sys2Proof

/-- A free value: what stands where the manual leaves a value undefined. The argument is a counter of the state. -/
opaque Config.freeValue : Nat → Nat

/-- Which neighbour a result takes that its format cannot hold exactly, where the manual states no rounding: true the
upper one. The arguments are the numerator and the denominator. -/
opaque Config.roundUp : Int → Nat → Bool

/-- The payload of a hatch message whose layout the manual does not give (R14): message type and SEQ. -/
opaque Config.msgPayload : Nat → Nat → List (BitVec 8)

/-- The microwords of the control-store ROM at addresses where no routine of Machine/Rom.lean stands (R117). -/
opaque Config.rom : Nat → BitVec 32

/-- The pantry line that holds word i of ingest FIFO k, which the manual does not give (R323). -/
opaque Config.fifoLine : Nat → Nat → Nat

/-- What a word of a memory without a stated layout holds (Table MEM-1): the memory, the instance and the address of the word. -/
opaque Config.wordHolds : Nat → Nat → Nat → Nat

/-- The ONFI value of a profile's time field, in the field's unit, where the profile gives zero: the field's offset and TMODE (R109). -/
opaque Config.onfiTime : Nat → Nat → Nat

/-- The vendor root key hash, SHA-384, in ROM (Table BOT-10). -/
opaque Config.vendorRootKeyHash : List (BitVec 8)

/-- The housekeeper's ROM version, which HK_INFO returns (Table HK-3). -/
opaque Config.hkRomVersion : BitVec 32

/-- SHA-384 (R62, R70): a standard named by the manual and not restated there. -/
opaque Config.sha384 : List (BitVec 8) → List (BitVec 8)

/-- ECDSA P-384 over a digest: key, r, s and digest (R62). -/
opaque Config.ecdsaOk : List (BitVec 8) → List (BitVec 8) → List (BitVec 8) → List (BitVec 8) → Bool

/-- AES-256-GCM (R69, R70): key, nonce, additional data, ciphertext and tag; the plaintext where the tag is valid. -/
opaque Config.gcmOpen : List (BitVec 8) → List (BitVec 8) → List (BitVec 8) → List (BitVec 8) → List (BitVec 8) →
  Option (List (BitVec 8))

end Sys2Proof
end

