-- ==== Sys2Proof/Machine/RegMap.lean ====
section
/-! DEFINITION. Machine/RegMap.lean: every register of the register window (spec/22_address_map.md Tables MAP-1, MAP-3
and MAP-4), with its offset, its fields, their access types (spec/00_scope.md R4) and their reset values, as the
field tables of the chapters give them. -/

namespace Sys2Proof.Machine

/-- The registers of Tables MAP-3 and MAP-4; an array of registers is one name, its instances numbered from 0. -/
inductive Reg where
  | glbId | glbIssue | glbMode | glbStrap | glbNodeId | glbEvtStat | glbEvtMask | glbEvtSrc | glbMpCfg | glbMpStat 
  | cfgLoadStat | cfgLoadGen | cfgLoadSerial | cfgPatchAddrLo | cfgPatchAddrHi | cfgPatchCtrl | cfgPatchStat 
  | pwrModeReq | pwrIdle | pwrGate | pwrPdCfg | clkStat | pwrIncfg | pwrInstat | secLevel | secKey | secLkey 
  | secCmd | secAddr | secData0 | secData1 | secGo | secStat | secNslock | secSancfg | secSan | secOtp 
  | cqSqbaseLo | cqSqbaseHi | cqSqcfg | cqSqstat | cqCqbaseLo | cqCqbaseHi | cqCqcfg | cqCqstat | cqPendlo 
  | cqPendhi | cqErr | cqSqdb | cqCqdb | ordEqstat | ordEqsel | ordEqword | ordEqack | ordHold | ordQuiesce 
  | ordEpoch | ordEpochDur | ordEpochSet | ordEpochStat | ordIsol | dmaCtxcfg | dmaCtxctl | dmaChainLo 
  | dmaChainHi | dmaCtxstat | dmaCurLo | dmaCurHi | dmaRem | dmaKick | dmaOvfLo | dmaOvfHi | fifoCfg | fifoWm 
  | fifoStat | fifoPkt | fifoCnt | fifoOvrLo | fifoOvrHi | xltMcctl | xltMcaddr | xltMcstat | xltMccnt 
  | xltRingsel | xltRing0 | xltRing1 | wearCfg | wearRq | wearFold | wearSpare | schModecfg | schC0cfg | schC0cnt 
  | schC0max | schLapse | schSusp | schProfok | cdcCfg | cdcFill | cdcPool | cdcHcnt | cdcHfail | cdcSoft 
  | cdcChecks | cdcCbits | cdcUtil | rrcCfg | rrcTiming | rrcEw | rrcCorrsel | rrcCorr0 | rrcCorr1 | rrcAge 
  | rrcOfftime | rrcOut0 | rrcOut1 | rrcOcc | rrcWait | rrcEwcnt | rrcSweep | pgmArch | pgmVcfg | pgmVthr 
  | pgmStep | pgmStat | pgmPcnt | pgmVcnt | pgmPulse | pgmEcnt | pgmAcnt | pgmJrnl | hupStat | hupEst | hupBound 
  | hupKtl | hupEsr | hupCfg | hupRestore | hupLastt | hupLastb | hupLaste | hupLasts | loopCtl | loopStat 
  | loopOvr | loopDly | loopIo | loopTune | loopTres | loopTrcfg | loopCsel | loopCdata | loopTrsel | loopTrdata 
  | loopTrip | loopSum | adcFrame | adcData | adcCfg | adcStat | thmZsp | thmZstat | thmPoll | thmCht | thmTach 
  | thmPwm | calCfg | calReq | calCnt | calRef | calAdc | calChstat | calChres | memStat | memEvt | memCnt 
  | memLap | memLogsel | memLogw0 | memLogw1 | memLogclr | hkLoad | hkCfg | hkThrottle | hkWdstat | hkMbdb 
  | hkMbstat | hkMbdone | hkMbW | fijCtl | fijPt | fijArg | fijCnt | dbgTrcfg | dbgTrsel | dbgTrdataLo 
  | dbgTrdataHi | dbgTrlost | dbgHmsg | hatchLinkStat | panLayout | panSlots | panWait | chnCfg | chnStat 
  | chnVolstat | chnErr | seqStat | seqPatch | seqFault | seqFaultinfo | seqIndet | seqRecsel | seqRec | seqUtil 
  deriving DecidableEq, Repr

/-- The access types of Table SCO-3. -/
inductive Access where
  | ro | rw | w1c | w1s | rc | wo | rwl
  deriving DecidableEq, Repr

/-- One row of a field table: bits [hi:lo] and the access type. -/
structure FieldRow where
  hi : Nat
  lo : Nat
  acc : Access
  deriving DecidableEq, Repr

/-- A field of a register, as the rest of the model names it: the register and its bits [hi:lo]. -/
structure FRef where
  reg : Reg
  hi : Nat
  lo : Nat
  deriving DecidableEq, Repr

/-- Offset, spacing and number of a register's instances. -/
structure RegPlace where
  base : Nat
  stride : Nat
  count : Nat
  deriving DecidableEq, Repr

/-- Where a register stands in the window (Tables MAP-3 and MAP-4). -/
def Reg.place : Reg → RegPlace
  | .glbId => ⟨0x0, 0x0, 1⟩
  | .glbIssue => ⟨0x4, 0x0, 1⟩
  | .glbMode => ⟨0x10, 0x0, 1⟩
  | .glbStrap => ⟨0x100, 0x0, 1⟩
  | .glbNodeId => ⟨0x104, 0x0, 1⟩
  | .glbEvtStat => ⟨0x110, 0x0, 1⟩
  | .glbEvtMask => ⟨0x114, 0x0, 1⟩
  | .glbEvtSrc => ⟨0x118, 0x0, 1⟩
  | .glbMpCfg => ⟨0x120, 0x0, 1⟩
  | .glbMpStat => ⟨0x130, 0x4, 8⟩
  | .cfgLoadStat => ⟨0x10000, 0x0, 1⟩
  | .cfgLoadGen => ⟨0x10004, 0x0, 1⟩
  | .cfgLoadSerial => ⟨0x10008, 0x0, 1⟩
  | .cfgPatchAddrLo => ⟨0x10010, 0x0, 1⟩
  | .cfgPatchAddrHi => ⟨0x10014, 0x0, 1⟩
  | .cfgPatchCtrl => ⟨0x10018, 0x0, 1⟩
  | .cfgPatchStat => ⟨0x10020, 0x0, 1⟩
  | .pwrModeReq => ⟨0x20000, 0x0, 1⟩
  | .pwrIdle => ⟨0x20004, 0x0, 1⟩
  | .pwrGate => ⟨0x20010, 0x0, 1⟩
  | .pwrPdCfg => ⟨0x20014, 0x0, 1⟩
  | .clkStat => ⟨0x20020, 0x0, 1⟩
  | .pwrIncfg => ⟨0x20100, 0x4, 13⟩
  | .pwrInstat => ⟨0x20140, 0x4, 13⟩
  | .secLevel => ⟨0x30000, 0x0, 1⟩
  | .secKey => ⟨0x30004, 0x0, 1⟩
  | .secLkey => ⟨0x30008, 0x0, 1⟩
  | .secCmd => ⟨0x3000c, 0x0, 1⟩
  | .secAddr => ⟨0x30010, 0x0, 1⟩
  | .secData0 => ⟨0x30014, 0x0, 1⟩
  | .secData1 => ⟨0x30018, 0x0, 1⟩
  | .secGo => ⟨0x3001c, 0x0, 1⟩
  | .secStat => ⟨0x30020, 0x0, 1⟩
  | .secNslock => ⟨0x30024, 0x0, 1⟩
  | .secSancfg => ⟨0x30030, 0x0, 1⟩
  | .secSan => ⟨0x30034, 0x0, 1⟩
  | .secOtp => ⟨0x30040, 0x0, 1⟩
  | .cqSqbaseLo => ⟨0x40000, 0x20, 64⟩
  | .cqSqbaseHi => ⟨0x40004, 0x20, 64⟩
  | .cqSqcfg => ⟨0x40008, 0x20, 64⟩
  | .cqSqstat => ⟨0x4000c, 0x20, 64⟩
  | .cqCqbaseLo => ⟨0x41000, 0x20, 64⟩
  | .cqCqbaseHi => ⟨0x41004, 0x20, 64⟩
  | .cqCqcfg => ⟨0x41008, 0x20, 64⟩
  | .cqCqstat => ⟨0x4100c, 0x20, 64⟩
  | .cqPendlo => ⟨0x42000, 0x0, 1⟩
  | .cqPendhi => ⟨0x42004, 0x0, 1⟩
  | .cqErr => ⟨0x42010, 0x0, 1⟩
  | .cqSqdb => ⟨0x48000, 0x8, 64⟩
  | .cqCqdb => ⟨0x48004, 0x8, 64⟩
  | .ordEqstat => ⟨0x50000, 0x0, 1⟩
  | .ordEqsel => ⟨0x50004, 0x0, 1⟩
  | .ordEqword => ⟨0x50008, 0x4, 4⟩
  | .ordEqack => ⟨0x50018, 0x0, 1⟩
  | .ordHold => ⟨0x50020, 0x0, 1⟩
  | .ordQuiesce => ⟨0x50028, 0x0, 1⟩
  | .ordEpoch => ⟨0x50030, 0x0, 1⟩
  | .ordEpochDur => ⟨0x50034, 0x0, 1⟩
  | .ordEpochSet => ⟨0x50038, 0x0, 1⟩
  | .ordEpochStat => ⟨0x5003c, 0x0, 1⟩
  | .ordIsol => ⟨0x50100, 0x4, 64⟩
  | .dmaCtxcfg => ⟨0x60000, 0x20, 64⟩
  | .dmaCtxctl => ⟨0x60004, 0x20, 64⟩
  | .dmaChainLo => ⟨0x60008, 0x20, 64⟩
  | .dmaChainHi => ⟨0x6000c, 0x20, 64⟩
  | .dmaCtxstat => ⟨0x60010, 0x20, 64⟩
  | .dmaCurLo => ⟨0x60014, 0x20, 64⟩
  | .dmaCurHi => ⟨0x60018, 0x20, 64⟩
  | .dmaRem => ⟨0x6001c, 0x20, 64⟩
  | .dmaKick => ⟨0x61000, 0x0, 1⟩
  | .dmaOvfLo => ⟨0x61010, 0x0, 1⟩
  | .dmaOvfHi => ⟨0x61014, 0x0, 1⟩
  | .fifoCfg => ⟨0x70000, 0x20, 64⟩
  | .fifoWm => ⟨0x70004, 0x20, 64⟩
  | .fifoStat => ⟨0x70008, 0x20, 64⟩
  | .fifoPkt => ⟨0x7000c, 0x20, 64⟩
  | .fifoCnt => ⟨0x70010, 0x20, 64⟩
  | .fifoOvrLo => ⟨0x71000, 0x0, 1⟩
  | .fifoOvrHi => ⟨0x71004, 0x0, 1⟩
  | .xltMcctl => ⟨0x80000, 0x0, 1⟩
  | .xltMcaddr => ⟨0x80004, 0x0, 1⟩
  | .xltMcstat => ⟨0x80008, 0x0, 1⟩
  | .xltMccnt => ⟨0x8000c, 0x0, 1⟩
  | .xltRingsel => ⟨0x80020, 0x0, 1⟩
  | .xltRing0 => ⟨0x80024, 0x0, 1⟩
  | .xltRing1 => ⟨0x80028, 0x0, 1⟩
  | .wearCfg => ⟨0x90000, 0x0, 1⟩
  | .wearRq => ⟨0x90004, 0x0, 1⟩
  | .wearFold => ⟨0x90008, 0x0, 1⟩
  | .wearSpare => ⟨0x9000c, 0x0, 1⟩
  | .schModecfg => ⟨0xa0000, 0x4, 4⟩
  | .schC0cfg => ⟨0xa0010, 0x0, 1⟩
  | .schC0cnt => ⟨0xa0020, 0x0, 1⟩
  | .schC0max => ⟨0xa0024, 0x0, 1⟩
  | .schLapse => ⟨0xa0028, 0x0, 1⟩
  | .schSusp => ⟨0xa002c, 0x0, 1⟩
  | .schProfok => ⟨0xa0030, 0x0, 1⟩
  | .cdcCfg => ⟨0xb0000, 0x0, 1⟩
  | .cdcFill => ⟨0xb0004, 0x0, 1⟩
  | .cdcPool => ⟨0xb0008, 0x0, 1⟩
  | .cdcHcnt => ⟨0xb0010, 0x0, 1⟩
  | .cdcHfail => ⟨0xb0014, 0x0, 1⟩
  | .cdcSoft => ⟨0xb0018, 0x0, 1⟩
  | .cdcChecks => ⟨0xb001c, 0x0, 1⟩
  | .cdcCbits => ⟨0xb0020, 0x0, 1⟩
  | .cdcUtil => ⟨0xb0024, 0x0, 1⟩
  | .rrcCfg => ⟨0xc0000, 0x0, 1⟩
  | .rrcTiming => ⟨0xc0004, 0x0, 1⟩
  | .rrcEw => ⟨0xc0010, 0x4, 5⟩
  | .rrcCorrsel => ⟨0xc0030, 0x0, 1⟩
  | .rrcCorr0 => ⟨0xc0034, 0x0, 1⟩
  | .rrcCorr1 => ⟨0xc0038, 0x0, 1⟩
  | .rrcAge => ⟨0xc0040, 0x0, 1⟩
  | .rrcOfftime => ⟨0xc0044, 0x0, 1⟩
  | .rrcOut0 => ⟨0xc0050, 0x0, 1⟩
  | .rrcOut1 => ⟨0xc0054, 0x0, 1⟩
  | .rrcOcc => ⟨0xc0058, 0x0, 1⟩
  | .rrcWait => ⟨0xc005c, 0x0, 1⟩
  | .rrcEwcnt => ⟨0xc0060, 0x0, 1⟩
  | .rrcSweep => ⟨0xc0064, 0x0, 1⟩
  | .pgmArch => ⟨0xd0000, 0x0, 1⟩
  | .pgmVcfg => ⟨0xd0004, 0x0, 1⟩
  | .pgmVthr => ⟨0xd0010, 0x4, 5⟩
  | .pgmStep => ⟨0xd0030, 0x4, 8⟩
  | .pgmStat => ⟨0xd0050, 0x0, 1⟩
  | .pgmPcnt => ⟨0xd0054, 0x0, 1⟩
  | .pgmVcnt => ⟨0xd0058, 0x0, 1⟩
  | .pgmPulse => ⟨0xd005c, 0x0, 1⟩
  | .pgmEcnt => ⟨0xd0060, 0x0, 1⟩
  | .pgmAcnt => ⟨0xd0064, 0x0, 1⟩
  | .pgmJrnl => ⟨0xd0068, 0x0, 1⟩
  | .hupStat => ⟨0xe0000, 0x0, 1⟩
  | .hupEst => ⟨0xe0004, 0x0, 1⟩
  | .hupBound => ⟨0xe0008, 0x0, 1⟩
  | .hupKtl => ⟨0xe000c, 0x0, 1⟩
  | .hupEsr => ⟨0xe0010, 0x0, 1⟩
  | .hupCfg => ⟨0xe0014, 0x0, 1⟩
  | .hupRestore => ⟨0xe0018, 0x0, 1⟩
  | .hupLastt => ⟨0xe0020, 0x0, 1⟩
  | .hupLastb => ⟨0xe0024, 0x0, 1⟩
  | .hupLaste => ⟨0xe0028, 0x0, 1⟩
  | .hupLasts => ⟨0xe002c, 0x0, 1⟩
  | .loopCtl => ⟨0xf0000, 0x40, 16⟩
  | .loopStat => ⟨0xf0004, 0x40, 16⟩
  | .loopOvr => ⟨0xf0008, 0x40, 16⟩
  | .loopDly => ⟨0xf000c, 0x40, 16⟩
  | .loopIo => ⟨0xf0010, 0x40, 16⟩
  | .loopTune => ⟨0xf0014, 0x40, 16⟩
  | .loopTres => ⟨0xf0018, 0x40, 16⟩
  | .loopTrcfg => ⟨0xf001c, 0x40, 16⟩
  | .loopCsel => ⟨0xf0400, 0x0, 1⟩
  | .loopCdata => ⟨0xf0404, 0x0, 1⟩
  | .loopTrsel => ⟨0xf0408, 0x0, 1⟩
  | .loopTrdata => ⟨0xf040c, 0x0, 1⟩
  | .loopTrip => ⟨0xf0410, 0x0, 1⟩
  | .loopSum => ⟨0xf0414, 0x0, 1⟩
  | .adcFrame => ⟨0x100000, 0x4, 40⟩
  | .adcData => ⟨0x100100, 0x4, 40⟩
  | .adcCfg => ⟨0x100200, 0x4, 40⟩
  | .adcStat => ⟨0x100300, 0x0, 1⟩
  | .thmZsp => ⟨0x108000, 0x10, 12⟩
  | .thmZstat => ⟨0x108004, 0x10, 12⟩
  | .thmPoll => ⟨0x108300, 0x0, 1⟩
  | .thmCht => ⟨0x108400, 0x4, 64⟩
  | .thmTach => ⟨0x108500, 0x4, 8⟩
  | .thmPwm => ⟨0x108600, 0x4, 24⟩
  | .calCfg => ⟨0x110000, 0x0, 1⟩
  | .calReq => ⟨0x110004, 0x0, 1⟩
  | .calCnt => ⟨0x110010, 0x0, 1⟩
  | .calRef => ⟨0x110020, 0x0, 1⟩
  | .calAdc => ⟨0x110030, 0x4, 2⟩
  | .calChstat => ⟨0x110100, 0x4, 64⟩
  | .calChres => ⟨0x110200, 0x4, 64⟩
  | .memStat => ⟨0x120000, 0x0, 1⟩
  | .memEvt => ⟨0x120004, 0x0, 1⟩
  | .memCnt => ⟨0x120100, 0x4, 12⟩
  | .memLap => ⟨0x120200, 0x4, 12⟩
  | .memLogsel => ⟨0x120300, 0x0, 1⟩
  | .memLogw0 => ⟨0x120304, 0x0, 1⟩
  | .memLogw1 => ⟨0x120308, 0x0, 1⟩
  | .memLogclr => ⟨0x12030c, 0x0, 1⟩
  | .hkLoad => ⟨0x130000, 0x0, 1⟩
  | .hkCfg => ⟨0x130004, 0x0, 1⟩
  | .hkThrottle => ⟨0x130008, 0x0, 1⟩
  | .hkWdstat => ⟨0x13000c, 0x0, 1⟩
  | .hkMbdb => ⟨0x130010, 0x0, 1⟩
  | .hkMbstat => ⟨0x130014, 0x0, 1⟩
  | .hkMbdone => ⟨0x130018, 0x0, 1⟩
  | .hkMbW => ⟨0x131000, 0x4, 256⟩
  | .fijCtl => ⟨0x140000, 0x0, 1⟩
  | .fijPt => ⟨0x140010, 0x10, 4⟩
  | .fijArg => ⟨0x140014, 0x10, 4⟩
  | .fijCnt => ⟨0x140018, 0x10, 4⟩
  | .dbgTrcfg => ⟨0x141000, 0x0, 1⟩
  | .dbgTrsel => ⟨0x141004, 0x0, 1⟩
  | .dbgTrdataLo => ⟨0x141008, 0x0, 1⟩
  | .dbgTrdataHi => ⟨0x14100c, 0x0, 1⟩
  | .dbgTrlost => ⟨0x141010, 0x0, 1⟩
  | .dbgHmsg => ⟨0x141100, 0x4, 8⟩
  | .hatchLinkStat => ⟨0x150000, 0x10, 8⟩
  | .panLayout => ⟨0x160000, 0x0, 1⟩
  | .panSlots => ⟨0x160004, 0x0, 1⟩
  | .panWait => ⟨0x160008, 0x0, 1⟩
  | .chnCfg => ⟨0x200000, 0x8000, 64⟩
  | .chnStat => ⟨0x200004, 0x8000, 64⟩
  | .chnVolstat => ⟨0x200008, 0x8000, 64⟩
  | .chnErr => ⟨0x20000c, 0x8000, 64⟩
  | .seqStat => ⟨0x201000, 0x8000, 64⟩
  | .seqPatch => ⟨0x201004, 0x8000, 64⟩
  | .seqFault => ⟨0x201008, 0x8000, 64⟩
  | .seqFaultinfo => ⟨0x20100c, 0x8000, 64⟩
  | .seqIndet => ⟨0x201010, 0x8000, 64⟩
  | .seqRecsel => ⟨0x201014, 0x8000, 64⟩
  | .seqRec => ⟨0x201018, 0x8000, 64⟩
  | .seqUtil => ⟨0x20101c, 0x8000, 64⟩

/-- The rows of a register's field table, reserved bits left out (they read zero, R5). -/
def Reg.fields : Reg → List FieldRow
  | .glbId => [⟨31, 16, .ro⟩, ⟨7, 0, .ro⟩]
  | .glbIssue => [⟨15, 8, .ro⟩, ⟨7, 0, .ro⟩]
  | .glbMode => [⟨21, 20, .ro⟩, ⟨19, 19, .ro⟩, ⟨15, 8, .ro⟩, ⟨7, 4, .ro⟩, ⟨3, 0, .ro⟩]
  | .glbStrap => [⟨5, 0, .ro⟩]
  | .glbNodeId => [⟨23, 0, .ro⟩]
  | .glbEvtStat => [⟨15, 0, .ro⟩]
  | .glbEvtMask => [⟨15, 0, .rw⟩]
  | .glbEvtSrc => [⟨2, 2, .w1c⟩, ⟨1, 1, .w1c⟩, ⟨0, 0, .w1c⟩]
  | .glbMpCfg => [⟨23, 16, .rw⟩, ⟨11, 8, .rw⟩, ⟨7, 4, .rw⟩, ⟨3, 0, .rw⟩]
  | .glbMpStat => [⟨31, 31, .ro⟩, ⟨30, 30, .w1c⟩, ⟨29, 24, .rc⟩, ⟨23, 16, .rc⟩, ⟨15, 0, .rc⟩]
  | .cfgLoadStat => [⟨31, 31, .ro⟩, ⟨30, 30, .ro⟩, ⟨29, 29, .ro⟩, ⟨28, 28, .ro⟩, ⟨23, 16, .ro⟩]
  | .cfgLoadGen => [⟨31, 0, .ro⟩]
  | .cfgLoadSerial => [⟨31, 0, .ro⟩]
  | .cfgPatchAddrLo => [⟨31, 6, .rw⟩]
  | .cfgPatchAddrHi => [⟨15, 0, .rw⟩]
  | .cfgPatchCtrl => [⟨31, 31, .wo⟩, ⟨30, 30, .wo⟩, ⟨18, 0, .wo⟩]
  | .cfgPatchStat => [⟨31, 31, .ro⟩, ⟨30, 30, .ro⟩, ⟨29, 29, .ro⟩, ⟨28, 28, .ro⟩, ⟨15, 8, .ro⟩, ⟨7, 0, .ro⟩]
  | .pwrModeReq => [⟨7, 4, .rw⟩, ⟨3, 0, .wo⟩]
  | .pwrIdle => [⟨31, 16, .rw⟩, ⟨15, 0, .rw⟩]
  | .pwrGate => [⟨23, 16, .wo⟩, ⟨15, 8, .rw⟩, ⟨7, 0, .rw⟩]
  | .pwrPdCfg => [⟨31, 16, .rw⟩, ⟨15, 0, .rw⟩]
  | .clkStat => [⟨15, 8, .ro⟩, ⟨1, 1, .ro⟩, ⟨0, 0, .ro⟩]
  | .pwrIncfg => [⟨31, 24, .rw⟩, ⟨23, 8, .rw⟩, ⟨7, 0, .rw⟩]
  | .pwrInstat => [⟨31, 31, .ro⟩, ⟨30, 30, .ro⟩, ⟨29, 29, .w1c⟩, ⟨15, 0, .rc⟩]
  | .secLevel => [⟨31, 31, .ro⟩, ⟨30, 30, .ro⟩, ⟨21, 16, .ro⟩, ⟨10, 8, .ro⟩, ⟨1, 0, .ro⟩]
  | .secKey => [⟨31, 0, .wo⟩]
  | .secLkey => [⟨31, 0, .wo⟩]
  | .secCmd => [⟨7, 0, .wo⟩]
  | .secAddr => [⟨31, 0, .wo⟩]
  | .secData0 => [⟨31, 0, .wo⟩]
  | .secData1 => [⟨31, 0, .wo⟩]
  | .secGo => [⟨0, 0, .wo⟩]
  | .secStat => [⟨31, 29, .ro⟩, ⟨28, 28, .ro⟩, ⟨23, 16, .ro⟩, ⟨15, 8, .rc⟩]
  | .secNslock => [⟨31, 16, .ro⟩, ⟨15, 0, .ro⟩]
  | .secSancfg => [⟨5, 0, .rwl⟩]
  | .secSan => [⟨31, 31, .ro⟩, ⟨30, 24, .ro⟩, ⟨15, 0, .ro⟩]
  | .secOtp => [⟨31, 31, .ro⟩, ⟨30, 30, .ro⟩, ⟨29, 29, .ro⟩, ⟨15, 0, .ro⟩]
  | .cqSqbaseLo => [⟨31, 12, .rw⟩]
  | .cqSqbaseHi => [⟨15, 0, .rw⟩]
  | .cqSqcfg => [⟨31, 31, .rw⟩, ⟨30, 30, .w1s⟩, ⟨29, 29, .rw⟩, ⟨21, 16, .rw⟩, ⟨15, 0, .rw⟩]
  | .cqSqstat => [⟨31, 31, .ro⟩, ⟨30, 30, .ro⟩, ⟨26, 16, .ro⟩, ⟨15, 0, .ro⟩]
  | .cqCqbaseLo => [⟨31, 12, .rw⟩]
  | .cqCqbaseHi => [⟨15, 0, .rw⟩]
  | .cqCqcfg => [⟨31, 31, .rw⟩, ⟨30, 30, .w1s⟩, ⟨29, 27, .rw⟩, ⟨26, 24, .rw⟩, ⟨23, 16, .rw⟩, ⟨15, 0, .rw⟩]
  | .cqCqstat => [⟨31, 31, .ro⟩, ⟨30, 30, .ro⟩, ⟨16, 16, .ro⟩, ⟨15, 0, .ro⟩]
  | .cqPendlo => [⟨31, 0, .w1c⟩]
  | .cqPendhi => [⟨31, 0, .w1c⟩]
  | .cqErr => [⟨31, 31, .w1c⟩, ⟨30, 30, .w1c⟩, ⟨29, 29, .ro⟩, ⟨5, 0, .ro⟩]
  | .cqSqdb => [⟨15, 0, .wo⟩]
  | .cqCqdb => [⟨15, 0, .wo⟩]
  | .ordEqstat => [⟨31, 31, .w1c⟩, ⟨30, 30, .w1c⟩, ⟨29, 29, .w1c⟩, ⟨23, 16, .rc⟩, ⟨14, 8, .ro⟩, ⟨6, 0, .ro⟩]
  | .ordEqsel => [⟨5, 0, .rw⟩]
  | .ordEqword => [⟨31, 0, .ro⟩]
  | .ordEqack => [⟨31, 0, .wo⟩]
  | .ordHold => [⟨31, 31, .ro⟩, ⟨29, 16, .rc⟩, ⟨13, 0, .ro⟩]
  | .ordQuiesce => [⟨31, 31, .ro⟩, ⟨0, 0, .rw⟩]
  | .ordEpoch => [⟨31, 0, .ro⟩]
  | .ordEpochDur => [⟨31, 0, .ro⟩]
  | .ordEpochSet => [⟨31, 0, .wo⟩]
  | .ordEpochStat => [⟨1, 1, .w1c⟩, ⟨0, 0, .w1c⟩]
  | .ordIsol => [⟨31, 0, .ro⟩]
  | .dmaCtxcfg => [⟨31, 31, .rw⟩, ⟨30, 30, .rw⟩, ⟨29, 29, .rw⟩, ⟨28, 28, .rw⟩, ⟨27, 26, .rw⟩, ⟨15, 0, .rw⟩]
  | .dmaCtxctl => [⟨31, 31, .rw⟩]
  | .dmaChainLo => [⟨31, 5, .rw⟩]
  | .dmaChainHi => [⟨15, 0, .rw⟩]
  | .dmaCtxstat => [⟨31, 29, .ro⟩, ⟨28, 28, .ro⟩, ⟨27, 27, .w1c⟩, ⟨26, 26, .w1c⟩, ⟨25, 25, .w1c⟩, ⟨22, 16, .ro⟩, ⟨7, 0, .ro⟩]
  | .dmaCurLo => [⟨31, 0, .ro⟩]
  | .dmaCurHi => [⟨15, 0, .ro⟩]
  | .dmaRem => [⟨23, 0, .ro⟩]
  | .dmaKick => [⟨5, 0, .wo⟩]
  | .dmaOvfLo => [⟨31, 0, .ro⟩]
  | .dmaOvfHi => [⟨31, 0, .ro⟩]
  | .fifoCfg => [⟨19, 16, .rw⟩, ⟨15, 15, .rw⟩, ⟨13, 12, .rw⟩, ⟨8, 0, .ro⟩]
  | .fifoWm => [⟨31, 16, .rw⟩, ⟨15, 0, .rw⟩]
  | .fifoStat => [⟨31, 31, .ro⟩, ⟨30, 30, .w1c⟩, ⟨29, 29, .ro⟩, ⟨18, 0, .ro⟩]
  | .fifoPkt => [⟨31, 16, .ro⟩, ⟨15, 8, .ro⟩]
  | .fifoCnt => [⟨31, 16, .rc⟩, ⟨15, 8, .rc⟩, ⟨7, 0, .rc⟩]
  | .fifoOvrLo => [⟨31, 0, .ro⟩]
  | .fifoOvrHi => [⟨31, 0, .ro⟩]
  | .xltMcctl => [⟨31, 31, .rw⟩, ⟨1, 0, .wo⟩]
  | .xltMcaddr => [⟨31, 0, .rw⟩]
  | .xltMcstat => [⟨31, 31, .ro⟩, ⟨16, 0, .ro⟩]
  | .xltMccnt => [⟨31, 16, .rc⟩, ⟨15, 8, .rc⟩, ⟨7, 0, .rc⟩]
  | .xltRingsel => [⟨7, 0, .rw⟩]
  | .xltRing0 => [⟨31, 16, .ro⟩, ⟨15, 0, .ro⟩]
  | .xltRing1 => [⟨31, 30, .ro⟩, ⟨29, 28, .ro⟩, ⟨27, 27, .ro⟩, ⟨15, 0, .ro⟩]
  | .wearCfg => [⟨31, 16, .rw⟩, ⟨15, 8, .rw⟩, ⟨7, 0, .rw⟩]
  | .wearRq => [⟨22, 16, .ro⟩, ⟨15, 8, .rc⟩, ⟨7, 0, .rc⟩]
  | .wearFold => [⟨31, 16, .ro⟩, ⟨15, 0, .rc⟩]
  | .wearSpare => [⟨31, 31, .ro⟩, ⟨23, 16, .rc⟩, ⟨15, 0, .ro⟩]
  | .schModecfg => [⟨31, 28, .rw⟩, ⟨27, 24, .rw⟩, ⟨23, 20, .rw⟩, ⟨19, 16, .rw⟩, ⟨15, 14, .rw⟩, ⟨11, 9, .rw⟩, ⟨8, 8, .ro⟩, ⟨0, 0, .rw⟩]
  | .schC0cfg => [⟨0, 0, .rw⟩]
  | .schC0cnt => [⟨31, 16, .rc⟩, ⟨15, 0, .rc⟩]
  | .schC0max => [⟨31, 16, .rc⟩, ⟨15, 0, .rc⟩]
  | .schLapse => [⟨9, 0, .w1c⟩]
  | .schSusp => [⟨31, 16, .rc⟩, ⟨15, 8, .rc⟩, ⟨7, 0, .rc⟩]
  | .schProfok => [⟨15, 8, .ro⟩, ⟨7, 0, .ro⟩]
  | .cdcCfg => [⟨23, 16, .rw⟩, ⟨15, 8, .rw⟩, ⟨7, 0, .rw⟩]
  | .cdcFill => [⟨31, 0, .rw⟩]
  | .cdcPool => [⟨31, 26, .ro⟩, ⟨25, 22, .ro⟩, ⟨15, 7, .ro⟩, ⟨6, 0, .ro⟩]
  | .cdcHcnt => [⟨31, 0, .rc⟩]
  | .cdcHfail => [⟨31, 16, .rc⟩, ⟨15, 0, .rc⟩]
  | .cdcSoft => [⟨31, 16, .rc⟩, ⟨15, 0, .rc⟩]
  | .cdcChecks => [⟨31, 16, .rc⟩, ⟨15, 8, .rc⟩, ⟨7, 0, .rc⟩]
  | .cdcCbits => [⟨31, 0, .rc⟩]
  | .cdcUtil => [⟨31, 16, .rc⟩, ⟨15, 0, .rc⟩]
  | .rrcCfg => [⟨31, 24, .rw⟩, ⟨23, 16, .rw⟩, ⟨11, 10, .rw⟩, ⟨9, 8, .rw⟩, ⟨7, 6, .rw⟩, ⟨5, 5, .rw⟩, ⟨4, 4, .rw⟩]
  | .rrcTiming => [⟨31, 16, .rw⟩, ⟨15, 0, .rw⟩]
  | .rrcEw => [⟨15, 0, .rw⟩]
  | .rrcCorrsel => [⟨7, 5, .rw⟩, ⟨4, 4, .rw⟩, ⟨2, 0, .rw⟩]
  | .rrcCorr0 => [⟨31, 24, .rw⟩, ⟨23, 16, .rw⟩, ⟨15, 8, .rw⟩, ⟨7, 0, .rw⟩]
  | .rrcCorr1 => [⟨31, 24, .rw⟩, ⟨23, 16, .rw⟩, ⟨15, 8, .rw⟩, ⟨7, 0, .rw⟩]
  | .rrcAge => [⟨31, 0, .ro⟩]
  | .rrcOfftime => [⟨19, 0, .wo⟩]
  | .rrcOut0 => [⟨31, 16, .rc⟩, ⟨15, 0, .rc⟩]
  | .rrcOut1 => [⟨31, 16, .rc⟩, ⟨15, 0, .rc⟩]
  | .rrcOcc => [⟨26, 16, .rc⟩, ⟨10, 0, .ro⟩]
  | .rrcWait => [⟨31, 16, .rc⟩, ⟨15, 0, .rc⟩]
  | .rrcEwcnt => [⟨31, 16, .rc⟩, ⟨15, 0, .rc⟩]
  | .rrcSweep => [⟨31, 16, .rc⟩, ⟨15, 0, .rc⟩]
  | .pgmArch => [⟨31, 24, .rw⟩, ⟨23, 16, .rw⟩, ⟨15, 0, .rw⟩]
  | .pgmVcfg => [⟨31, 24, .rw⟩, ⟨23, 16, .rw⟩, ⟨15, 12, .rw⟩, ⟨11, 8, .rw⟩, ⟨4, 4, .rw⟩, ⟨3, 0, .rw⟩]
  | .pgmVthr => [⟨15, 0, .rw⟩]
  | .pgmStep => [⟨4, 0, .rw⟩]
  | .pgmStat => [⟨2, 2, .w1c⟩, ⟨1, 1, .w1c⟩, ⟨0, 0, .w1c⟩]
  | .pgmPcnt => [⟨31, 8, .rc⟩, ⟨7, 0, .rc⟩]
  | .pgmVcnt => [⟨31, 16, .rc⟩, ⟨15, 8, .rc⟩, ⟨7, 0, .rc⟩]
  | .pgmPulse => [⟨31, 0, .rc⟩]
  | .pgmEcnt => [⟨31, 16, .rc⟩, ⟨15, 8, .rc⟩, ⟨7, 0, .rc⟩]
  | .pgmAcnt => [⟨31, 16, .rc⟩, ⟨15, 8, .rc⟩, ⟨7, 0, .ro⟩]
  | .pgmJrnl => [⟨31, 0, .ro⟩]
  | .hupStat => [⟨31, 31, .ro⟩, ⟨30, 30, .ro⟩, ⟨29, 29, .ro⟩, ⟨28, 28, .ro⟩, ⟨27, 27, .ro⟩, ⟨26, 26, .w1c⟩, ⟨25, 25, .w1c⟩, ⟨24, 24, .w1c⟩, ⟨23, 23, .w1c⟩, ⟨22, 22, .w1c⟩, ⟨21, 20, .ro⟩, ⟨7, 0, .rc⟩]
  | .hupEst => [⟨31, 16, .ro⟩, ⟨15, 0, .ro⟩]
  | .hupBound => [⟨24, 0, .ro⟩]
  | .hupKtl => [⟨31, 16, .ro⟩, ⟨15, 0, .ro⟩]
  | .hupEsr => [⟨31, 16, .ro⟩, ⟨15, 0, .ro⟩]
  | .hupCfg => [⟨31, 31, .wo⟩, ⟨30, 30, .rw⟩, ⟨29, 29, .rw⟩]
  | .hupRestore => [⟨31, 31, .wo⟩, ⟨30, 30, .wo⟩, ⟨29, 29, .ro⟩, ⟨6, 0, .ro⟩]
  | .hupLastt => [⟨31, 0, .ro⟩]
  | .hupLastb => [⟨31, 0, .ro⟩]
  | .hupLaste => [⟨31, 16, .ro⟩, ⟨15, 0, .ro⟩]
  | .hupLasts => [⟨31, 24, .ro⟩, ⟨17, 16, .ro⟩, ⟨6, 0, .ro⟩]
  | .loopCtl => [⟨31, 29, .wo⟩]
  | .loopStat => [⟨31, 29, .ro⟩, ⟨28, 28, .w1c⟩, ⟨27, 27, .w1c⟩, ⟨26, 26, .w1c⟩, ⟨25, 25, .w1c⟩, ⟨24, 23, .ro⟩, ⟨22, 22, .w1c⟩, ⟨21, 21, .w1c⟩, ⟨20, 20, .w1c⟩, ⟨11, 0, .w1c⟩]
  | .loopOvr => [⟨31, 16, .rc⟩, ⟨3, 0, .ro⟩]
  | .loopDly => [⟨31, 16, .rc⟩, ⟨15, 0, .ro⟩]
  | .loopIo => [⟨31, 16, .ro⟩, ⟨15, 0, .ro⟩]
  | .loopTune => [⟨31, 16, .rw⟩, ⟨15, 0, .rw⟩]
  | .loopTres => [⟨31, 16, .ro⟩, ⟨15, 0, .ro⟩]
  | .loopTrcfg => [⟨31, 31, .ro⟩, ⟨25, 24, .rw⟩, ⟨23, 16, .rw⟩, ⟨15, 0, .rw⟩]
  | .loopCsel => [⟨11, 8, .rw⟩, ⟨5, 0, .rw⟩]
  | .loopCdata => [⟨15, 0, .rw⟩]
  | .loopTrsel => [⟨15, 12, .rw⟩, ⟨11, 10, .rw⟩, ⟨9, 0, .rw⟩]
  | .loopTrdata => [⟨15, 0, .ro⟩]
  | .loopTrip => [⟨29, 16, .rw⟩, ⟨13, 0, .rw⟩]
  | .loopSum => [⟨15, 0, .ro⟩]
  | .adcFrame => [⟨5, 0, .rw⟩]
  | .adcData => [⟨31, 16, .ro⟩, ⟨15, 15, .ro⟩, ⟨13, 0, .ro⟩]
  | .adcCfg => [⟨4, 4, .rw⟩, ⟨3, 0, .rw⟩]
  | .adcStat => [⟨31, 31, .ro⟩, ⟨30, 30, .ro⟩]
  | .thmZsp => [⟨31, 24, .rw⟩, ⟨23, 16, .rw⟩, ⟨15, 8, .ro⟩]
  | .thmZstat => [⟨31, 31, .ro⟩, ⟨30, 30, .w1c⟩, ⟨29, 29, .w1c⟩, ⟨28, 28, .ro⟩, ⟨15, 0, .ro⟩]
  | .thmPoll => [⟨31, 16, .rw⟩, ⟨15, 0, .rc⟩]
  | .thmCht => [⟨31, 24, .ro⟩, ⟨15, 8, .ro⟩, ⟨7, 0, .ro⟩]
  | .thmTach => [⟨31, 16, .ro⟩]
  | .thmPwm => [⟨31, 31, .rw⟩, ⟨27, 24, .rw⟩, ⟨15, 0, .rw⟩]
  | .calCfg => [⟨31, 24, .rw⟩, ⟨15, 0, .rw⟩]
  | .calReq => [⟨9, 8, .wo⟩, ⟨7, 7, .wo⟩, ⟨6, 6, .wo⟩, ⟨5, 0, .wo⟩]
  | .calCnt => [⟨31, 24, .rc⟩, ⟨23, 16, .rc⟩, ⟨15, 8, .rc⟩, ⟨7, 0, .rc⟩]
  | .calRef => [⟨31, 31, .w1c⟩, ⟨19, 18, .ro⟩, ⟨17, 16, .ro⟩, ⟨15, 0, .ro⟩]
  | .calAdc => [⟨31, 16, .ro⟩, ⟨15, 0, .ro⟩]
  | .calChstat => [⟨31, 31, .ro⟩, ⟨30, 30, .ro⟩, ⟨29, 29, .ro⟩, ⟨23, 16, .ro⟩, ⟨15, 0, .rc⟩]
  | .calChres => [⟨31, 26, .ro⟩, ⟨25, 21, .ro⟩, ⟨20, 16, .ro⟩, ⟨15, 11, .ro⟩]
  | .memStat => [⟨31, 31, .ro⟩, ⟨30, 30, .ro⟩, ⟨3, 0, .ro⟩]
  | .memEvt => [⟨31, 31, .w1c⟩, ⟨30, 30, .w1c⟩, ⟨7, 0, .rc⟩]
  | .memCnt => [⟨31, 16, .rc⟩, ⟨15, 0, .rc⟩]
  | .memLap => [⟨31, 16, .rc⟩, ⟨15, 0, .ro⟩]
  | .memLogsel => [⟨4, 0, .rw⟩]
  | .memLogw0 => [⟨31, 28, .ro⟩, ⟨27, 26, .ro⟩, ⟨25, 20, .ro⟩, ⟨7, 0, .ro⟩]
  | .memLogw1 => [⟨31, 0, .ro⟩]
  | .memLogclr => [⟨0, 0, .wo⟩]
  | .hkLoad => [⟨23, 16, .rc⟩, ⟨10, 8, .ro⟩, ⟨7, 0, .ro⟩]
  | .hkCfg => [⟨23, 16, .ro⟩, ⟨15, 8, .rw⟩, ⟨7, 0, .rw⟩]
  | .hkThrottle => [⟨31, 31, .rw⟩, ⟨30, 30, .ro⟩, ⟨23, 16, .rw⟩, ⟨15, 0, .rw⟩]
  | .hkWdstat => [⟨31, 30, .ro⟩, ⟨29, 29, .ro⟩, ⟨7, 0, .rc⟩]
  | .hkMbdb => [⟨3, 0, .wo⟩]
  | .hkMbstat => [⟨31, 0, .ro⟩]
  | .hkMbdone => [⟨23, 16, .rc⟩, ⟨15, 0, .w1c⟩]
  | .hkMbW => [⟨31, 0, .rw⟩]
  | .fijCtl => [⟨31, 31, .rwl⟩, ⟨30, 30, .ro⟩, ⟨29, 29, .ro⟩, ⟨15, 0, .rw⟩]
  | .fijPt => [⟨31, 30, .rw⟩, ⟨29, 29, .w1s⟩, ⟨28, 28, .rw⟩, ⟨23, 16, .rw⟩, ⟨15, 0, .rw⟩]
  | .fijArg => [⟨11, 0, .rw⟩]
  | .fijCnt => [⟨31, 0, .rc⟩]
  | .dbgTrcfg => [⟨31, 31, .rw⟩, ⟨30, 30, .rw⟩, ⟨29, 29, .ro⟩, ⟨13, 13, .rw⟩, ⟨12, 8, .rw⟩, ⟨5, 0, .rw⟩]
  | .dbgTrsel => [⟨28, 16, .ro⟩, ⟨11, 0, .rw⟩]
  | .dbgTrdataLo => [⟨31, 0, .ro⟩]
  | .dbgTrdataHi => [⟨31, 0, .ro⟩]
  | .dbgTrlost => [⟨31, 0, .rc⟩]
  | .dbgHmsg => [⟨31, 16, .rc⟩, ⟨15, 0, .rc⟩]
  | .hatchLinkStat => [⟨31, 31, .ro⟩, ⟨30, 30, .ro⟩, ⟨29, 29, .w1c⟩, ⟨23, 16, .rc⟩, ⟨15, 0, .rc⟩]
  | .panLayout => [⟨29, 20, .ro⟩, ⟨19, 10, .ro⟩, ⟨9, 0, .ro⟩]
  | .panSlots => [⟨31, 16, .ro⟩, ⟨15, 0, .ro⟩]
  | .panWait => [⟨31, 16, .rc⟩, ⟨15, 0, .rc⟩]
  | .chnCfg => [⟨31, 16, .rw⟩, ⟨11, 8, .rw⟩, ⟨7, 4, .rw⟩, ⟨3, 0, .rw⟩]
  | .chnStat => [⟨31, 31, .ro⟩, ⟨30, 30, .ro⟩, ⟨29, 29, .ro⟩, ⟨28, 28, .ro⟩, ⟨27, 26, .ro⟩, ⟨15, 0, .ro⟩]
  | .chnVolstat => [⟨31, 16, .ro⟩, ⟨15, 0, .ro⟩]
  | .chnErr => [⟨31, 24, .rc⟩, ⟨23, 16, .rc⟩, ⟨15, 8, .rc⟩, ⟨7, 0, .rc⟩]
  | .seqStat => [⟨31, 31, .ro⟩, ⟨30, 30, .ro⟩, ⟨29, 29, .ro⟩, ⟨27, 21, .ro⟩, ⟨20, 16, .ro⟩, ⟨12, 0, .ro⟩]
  | .seqPatch => [⟨26, 16, .ro⟩, ⟨5, 0, .ro⟩]
  | .seqFault => [⟨7, 7, .w1c⟩, ⟨6, 6, .w1c⟩, ⟨5, 5, .w1c⟩, ⟨4, 4, .w1c⟩, ⟨3, 3, .w1c⟩, ⟨2, 2, .w1c⟩, ⟨1, 1, .w1c⟩, ⟨0, 0, .w1c⟩]
  | .seqFaultinfo => [⟨20, 16, .ro⟩, ⟨12, 0, .ro⟩]
  | .seqIndet => [⟨31, 0, .ro⟩]
  | .seqRecsel => [⟨10, 10, .rw⟩, ⟨9, 5, .rw⟩, ⟨4, 0, .rw⟩]
  | .seqRec => [⟨31, 0, .ro⟩]
  | .seqUtil => [⟨31, 0, .rc⟩]

/-- The constant part of a register's reset value, the same for each instance. A field whose reset is a source of R438
(sampled, OTP, restored, a section of the configuration image) is zero here until it is given. -/
def Reg.resetConst : Reg → Nat
  | .glbId => 0x504d0000
  | .glbIssue => 0x4202
  | .glbMode => 0x2
  | .glbEvtMask => 0xffff
  | .glbMpCfg => 0x320400
  | .pwrModeReq => 0x60
  | .pwrPdCfg => 0x3e803e8
  | .secNslock => 0xffff
  | .secSancfg => 0x8
  | .cqCqstat => 0x10000
  | .xltMcctl => 0x80000000
  | .wearCfg => 0x641004
  | .schModecfg => 0x100
  | .cdcCfg => 0x145808
  | .rrcCfg => 0x40b70
  | .rrcTiming => 0xa80018
  | .pgmArch => 0x3c287530
  | .pgmVcfg => 0x18010808
  | .pgmStep => 0x8
  | .loopTune => 0x10000040
  | .loopTrip => 0x3fff0080
  | .adcCfg => 0x4
  | .thmCht => 0xff000000
  | .calAdc => 0x80000000
  | .hkCfg => 0x5a46
  | .hkThrottle => 0x5f0100
  | .fijCtl => 0xace1
  | .fijPt => 0x10000000
  | .fijArg => 0x1
  | .panWait => 0xffff0000
  | .chnCfg => 0x2
  | .glbStrap | .glbNodeId | .glbEvtStat | .glbEvtSrc | .glbMpStat | .cfgLoadStat
  | .cfgLoadGen | .cfgLoadSerial | .cfgPatchAddrLo | .cfgPatchAddrHi | .cfgPatchCtrl | .cfgPatchStat
  | .pwrIdle | .pwrGate | .clkStat | .pwrIncfg | .pwrInstat | .secLevel
  | .secKey | .secLkey | .secCmd | .secAddr | .secData0 | .secData1
  | .secGo | .secStat | .secSan | .secOtp | .cqSqbaseLo | .cqSqbaseHi
  | .cqSqcfg | .cqSqstat | .cqCqbaseLo | .cqCqbaseHi | .cqCqcfg | .cqPendlo
  | .cqPendhi | .cqErr | .cqSqdb | .cqCqdb | .ordEqstat | .ordEqsel
  | .ordEqword | .ordEqack | .ordHold | .ordQuiesce | .ordEpoch | .ordEpochDur
  | .ordEpochSet | .ordEpochStat | .ordIsol | .dmaCtxcfg | .dmaCtxctl | .dmaChainLo
  | .dmaChainHi | .dmaCtxstat | .dmaCurLo | .dmaCurHi | .dmaRem | .dmaKick
  | .dmaOvfLo | .dmaOvfHi | .fifoCfg | .fifoWm | .fifoStat | .fifoPkt
  | .fifoCnt | .fifoOvrLo | .fifoOvrHi | .xltMcaddr | .xltMcstat | .xltMccnt
  | .xltRingsel | .xltRing0 | .xltRing1 | .wearRq | .wearFold | .wearSpare
  | .schC0cfg | .schC0cnt | .schC0max | .schLapse | .schSusp | .schProfok
  | .cdcFill | .cdcPool | .cdcHcnt | .cdcHfail | .cdcSoft | .cdcChecks
  | .cdcCbits | .cdcUtil | .rrcEw | .rrcCorrsel | .rrcCorr0 | .rrcCorr1
  | .rrcAge | .rrcOfftime | .rrcOut0 | .rrcOut1 | .rrcOcc | .rrcWait
  | .rrcEwcnt | .rrcSweep | .pgmVthr | .pgmStat | .pgmPcnt | .pgmVcnt
  | .pgmPulse | .pgmEcnt | .pgmAcnt | .pgmJrnl | .hupStat | .hupEst
  | .hupBound | .hupKtl | .hupEsr | .hupCfg | .hupRestore | .hupLastt
  | .hupLastb | .hupLaste | .hupLasts | .loopCtl | .loopStat | .loopOvr
  | .loopDly | .loopIo | .loopTres | .loopTrcfg | .loopCsel | .loopCdata
  | .loopTrsel | .loopTrdata | .loopSum | .adcFrame | .adcData | .adcStat
  | .thmZsp | .thmZstat | .thmPoll | .thmTach | .thmPwm | .calCfg
  | .calReq | .calCnt | .calRef | .calChstat | .calChres | .memStat
  | .memEvt | .memCnt | .memLap | .memLogsel | .memLogw0 | .memLogw1
  | .memLogclr | .hkLoad | .hkWdstat | .hkMbdb | .hkMbstat | .hkMbdone
  | .hkMbW | .fijCnt | .dbgTrcfg | .dbgTrsel | .dbgTrdataLo | .dbgTrdataHi
  | .dbgTrlost | .dbgHmsg | .hatchLinkStat | .panLayout | .panSlots | .chnStat
  | .chnVolstat | .chnErr | .seqStat | .seqPatch | .seqFault | .seqFaultinfo
  | .seqIndet | .seqRecsel | .seqRec | .seqUtil => 0

/-- Part 0 of the list of every register. -/
def Reg.part0 : List Reg := [
   .glbId, .glbIssue, .glbMode, .glbStrap, .glbNodeId, .glbEvtStat, .glbEvtMask, .glbEvtSrc,
   .glbMpCfg, .glbMpStat, .cfgLoadStat, .cfgLoadGen, .cfgLoadSerial, .cfgPatchAddrLo, .cfgPatchAddrHi, .cfgPatchCtrl,
   .cfgPatchStat, .pwrModeReq, .pwrIdle, .pwrGate, .pwrPdCfg, .clkStat, .pwrIncfg, .pwrInstat,
   .secLevel, .secKey, .secLkey, .secCmd, .secAddr, .secData0, .secData1, .secGo,
   .secStat, .secNslock, .secSancfg, .secSan, .secOtp, .cqSqbaseLo, .cqSqbaseHi, .cqSqcfg]

/-- Part 1 of the list of every register. -/
def Reg.part1 : List Reg := [
   .cqSqstat, .cqCqbaseLo, .cqCqbaseHi, .cqCqcfg, .cqCqstat, .cqPendlo, .cqPendhi, .cqErr,
   .cqSqdb, .cqCqdb, .ordEqstat, .ordEqsel, .ordEqword, .ordEqack, .ordHold, .ordQuiesce,
   .ordEpoch, .ordEpochDur, .ordEpochSet, .ordEpochStat, .ordIsol, .dmaCtxcfg, .dmaCtxctl, .dmaChainLo,
   .dmaChainHi, .dmaCtxstat, .dmaCurLo, .dmaCurHi, .dmaRem, .dmaKick, .dmaOvfLo, .dmaOvfHi,
   .fifoCfg, .fifoWm, .fifoStat, .fifoPkt, .fifoCnt, .fifoOvrLo, .fifoOvrHi, .xltMcctl]

/-- Part 2 of the list of every register. -/
def Reg.part2 : List Reg := [
   .xltMcaddr, .xltMcstat, .xltMccnt, .xltRingsel, .xltRing0, .xltRing1, .wearCfg, .wearRq,
   .wearFold, .wearSpare, .schModecfg, .schC0cfg, .schC0cnt, .schC0max, .schLapse, .schSusp,
   .schProfok, .cdcCfg, .cdcFill, .cdcPool, .cdcHcnt, .cdcHfail, .cdcSoft, .cdcChecks,
   .cdcCbits, .cdcUtil, .rrcCfg, .rrcTiming, .rrcEw, .rrcCorrsel, .rrcCorr0, .rrcCorr1,
   .rrcAge, .rrcOfftime, .rrcOut0, .rrcOut1, .rrcOcc, .rrcWait, .rrcEwcnt, .rrcSweep]

/-- Part 3 of the list of every register. -/
def Reg.part3 : List Reg := [
   .pgmArch, .pgmVcfg, .pgmVthr, .pgmStep, .pgmStat, .pgmPcnt, .pgmVcnt, .pgmPulse,
   .pgmEcnt, .pgmAcnt, .pgmJrnl, .hupStat, .hupEst, .hupBound, .hupKtl, .hupEsr,
   .hupCfg, .hupRestore, .hupLastt, .hupLastb, .hupLaste, .hupLasts, .loopCtl, .loopStat,
   .loopOvr, .loopDly, .loopIo, .loopTune, .loopTres, .loopTrcfg, .loopCsel, .loopCdata,
   .loopTrsel, .loopTrdata, .loopTrip, .loopSum, .adcFrame, .adcData, .adcCfg, .adcStat]

/-- Part 4 of the list of every register. -/
def Reg.part4 : List Reg := [
   .thmZsp, .thmZstat, .thmPoll, .thmCht, .thmTach, .thmPwm, .calCfg, .calReq,
   .calCnt, .calRef, .calAdc, .calChstat, .calChres, .memStat, .memEvt, .memCnt,
   .memLap, .memLogsel, .memLogw0, .memLogw1, .memLogclr, .hkLoad, .hkCfg, .hkThrottle,
   .hkWdstat, .hkMbdb, .hkMbstat, .hkMbdone, .hkMbW, .fijCtl, .fijPt, .fijArg,
   .fijCnt, .dbgTrcfg, .dbgTrsel, .dbgTrdataLo, .dbgTrdataHi, .dbgTrlost, .dbgHmsg, .hatchLinkStat]

/-- Part 5 of the list of every register. -/
def Reg.part5 : List Reg := [
   .panLayout, .panSlots, .panWait, .chnCfg, .chnStat, .chnVolstat, .chnErr, .seqStat,
   .seqPatch, .seqFault, .seqFaultinfo, .seqIndet, .seqRecsel, .seqRec, .seqUtil]

/-- Every register, in the order of the window. -/
def Reg.all : List Reg :=
  Reg.part0 ++ Reg.part1 ++ Reg.part2 ++ Reg.part3 ++ Reg.part4 ++ Reg.part5

end Sys2Proof.Machine
end

