-- ==== Sys2Proof/Machine/Fields.lean ====
section
/-! DEFINITION. Machine/Fields.lean: a name for each register field the model reads or writes, with the bits the field
tables of spec/ give it. F.<register>_<FIELD> is the field <FIELD> of that register. -/

namespace Sys2Proof.Machine

abbrev F.glbId_BLOCK : FRef := ⟨.glbId, 31, 16⟩
abbrev F.glbId_CHANNELS : FRef := ⟨.glbId, 7, 0⟩
abbrev F.glbIssue_LETTER : FRef := ⟨.glbIssue, 15, 8⟩
abbrev F.glbIssue_STEP : FRef := ⟨.glbIssue, 7, 0⟩
abbrev F.glbMode_RESULT : FRef := ⟨.glbMode, 21, 20⟩
abbrev F.glbMode_TRANSIT : FRef := ⟨.glbMode, 19, 19⟩
abbrev F.glbMode_CAUSE : FRef := ⟨.glbMode, 15, 8⟩
abbrev F.glbMode_PREV : FRef := ⟨.glbMode, 7, 4⟩
abbrev F.glbMode_MODE : FRef := ⟨.glbMode, 3, 0⟩
abbrev F.glbStrap_STRAP : FRef := ⟨.glbStrap, 5, 0⟩
abbrev F.glbNodeId_NODE : FRef := ⟨.glbNodeId, 23, 0⟩
abbrev F.glbEvtStat_PEND : FRef := ⟨.glbEvtStat, 15, 0⟩
abbrev F.glbEvtMask_MASK : FRef := ⟨.glbEvtMask, 15, 0⟩
abbrev F.glbEvtSrc_SAFE_ENTRY : FRef := ⟨.glbEvtSrc, 2, 2⟩
abbrev F.glbEvtSrc_WAKE_DONE : FRef := ⟨.glbEvtSrc, 1, 1⟩
abbrev F.glbEvtSrc_MODE_CHG : FRef := ⟨.glbEvtSrc, 0, 0⟩
abbrev F.glbMpCfg_TIMEOUT : FRef := ⟨.glbMpCfg, 23, 16⟩
abbrev F.glbMpCfg_RETRY_MAX : FRef := ⟨.glbMpCfg, 11, 8⟩
abbrev F.glbMpCfg_MPW_EN : FRef := ⟨.glbMpCfg, 7, 4⟩
abbrev F.glbMpCfg_MPR_EN : FRef := ⟨.glbMpCfg, 3, 0⟩
abbrev F.glbMpStat_WITHDRAWN : FRef := ⟨.glbMpStat, 31, 31⟩
abbrev F.glbMpStat_FAILED : FRef := ⟨.glbMpStat, 30, 30⟩
abbrev F.glbMpStat_STALE : FRef := ⟨.glbMpStat, 29, 24⟩
abbrev F.glbMpStat_TIMEOUTS : FRef := ⟨.glbMpStat, 23, 16⟩
abbrev F.glbMpStat_REISSUES : FRef := ⟨.glbMpStat, 15, 0⟩
abbrev F.cfgLoadStat_DONE : FRef := ⟨.cfgLoadStat, 31, 31⟩
abbrev F.cfgLoadStat_FAILED : FRef := ⟨.cfgLoadStat, 30, 30⟩
abbrev F.cfgLoadStat_FALLBACK : FRef := ⟨.cfgLoadStat, 29, 29⟩
abbrev F.cfgLoadStat_SLOT : FRef := ⟨.cfgLoadStat, 28, 28⟩
abbrev F.cfgLoadStat_CAUSE : FRef := ⟨.cfgLoadStat, 23, 16⟩
abbrev F.cfgLoadGen_GEN : FRef := ⟨.cfgLoadGen, 31, 0⟩
abbrev F.cfgLoadSerial_GEN : FRef := ⟨.cfgLoadSerial, 31, 0⟩
abbrev F.cfgPatchAddrLo_ADDR : FRef := ⟨.cfgPatchAddrLo, 31, 6⟩
abbrev F.cfgPatchAddrHi_ADDR : FRef := ⟨.cfgPatchAddrHi, 15, 0⟩
abbrev F.cfgPatchCtrl_GO : FRef := ⟨.cfgPatchCtrl, 31, 31⟩
abbrev F.cfgPatchCtrl_DONE : FRef := ⟨.cfgPatchCtrl, 30, 30⟩
abbrev F.cfgPatchCtrl_LEN : FRef := ⟨.cfgPatchCtrl, 18, 0⟩
abbrev F.cfgPatchStat_BUSY : FRef := ⟨.cfgPatchStat, 31, 31⟩
abbrev F.cfgPatchStat_SEQ_OK : FRef := ⟨.cfgPatchStat, 30, 30⟩
abbrev F.cfgPatchStat_HK_OK : FRef := ⟨.cfgPatchStat, 29, 29⟩
abbrev F.cfgPatchStat_MISSING : FRef := ⟨.cfgPatchStat, 28, 28⟩
abbrev F.cfgPatchStat_COUNT : FRef := ⟨.cfgPatchStat, 15, 8⟩
abbrev F.cfgPatchStat_RESULT : FRef := ⟨.cfgPatchStat, 7, 0⟩
abbrev F.pwrModeReq_RUN : FRef := ⟨.pwrModeReq, 7, 4⟩
abbrev F.pwrModeReq_REQ : FRef := ⟨.pwrModeReq, 3, 0⟩
abbrev F.pwrIdle_STBY_IDLE : FRef := ⟨.pwrIdle, 31, 16⟩
abbrev F.pwrIdle_WARM_IDLE : FRef := ⟨.pwrIdle, 15, 0⟩
abbrev F.pwrGate_FORCE : FRef := ⟨.pwrGate, 23, 16⟩
abbrev F.pwrGate_AUTO_UNGATE : FRef := ⟨.pwrGate, 15, 8⟩
abbrev F.pwrGate_REQ : FRef := ⟨.pwrGate, 7, 0⟩
abbrev F.pwrPdCfg_MP_TIMEOUT : FRef := ⟨.pwrPdCfg, 31, 16⟩
abbrev F.pwrPdCfg_GRP_TIMEOUT : FRef := ⟨.pwrPdCfg, 15, 0⟩
abbrev F.clkStat_GRP_CLK : FRef := ⟨.clkStat, 15, 8⟩
abbrev F.clkStat_AO_SRC : FRef := ⟨.clkStat, 1, 1⟩
abbrev F.clkStat_PLL_LOCK : FRef := ⟨.clkStat, 0, 0⟩
abbrev F.pwrIncfg_STUCK_T : FRef := ⟨.pwrIncfg, 31, 24⟩
abbrev F.pwrIncfg_REARM : FRef := ⟨.pwrIncfg, 23, 8⟩
abbrev F.pwrIncfg_FILTER : FRef := ⟨.pwrIncfg, 7, 0⟩
abbrev F.pwrInstat_LEVEL : FRef := ⟨.pwrInstat, 31, 31⟩
abbrev F.pwrInstat_MASKED : FRef := ⟨.pwrInstat, 30, 30⟩
abbrev F.pwrInstat_STUCK : FRef := ⟨.pwrInstat, 29, 29⟩
abbrev F.pwrInstat_DROPPED : FRef := ⟨.pwrInstat, 15, 0⟩
abbrev F.secLevel_PENDING : FRef := ⟨.secLevel, 31, 31⟩
abbrev F.secLevel_LOG_FULL : FRef := ⟨.secLevel, 30, 30⟩
abbrev F.secLevel_ENTRIES : FRef := ⟨.secLevel, 21, 16⟩
abbrev F.secLevel_PL3_SLOTS : FRef := ⟨.secLevel, 10, 8⟩
abbrev F.secLevel_LEVEL : FRef := ⟨.secLevel, 1, 0⟩
abbrev F.secKey_KEY : FRef := ⟨.secKey, 31, 0⟩
abbrev F.secLkey_KEY : FRef := ⟨.secLkey, 31, 0⟩
abbrev F.secCmd_OP : FRef := ⟨.secCmd, 7, 0⟩
abbrev F.secAddr_VALUE : FRef := ⟨.secAddr, 31, 0⟩
abbrev F.secData0_VALUE : FRef := ⟨.secData0, 31, 0⟩
abbrev F.secData1_VALUE : FRef := ⟨.secData1, 31, 0⟩
abbrev F.secGo_GO : FRef := ⟨.secGo, 0, 0⟩
abbrev F.secStat_STATE : FRef := ⟨.secStat, 31, 29⟩
abbrev F.secStat_LK_LOCK : FRef := ⟨.secStat, 28, 28⟩
abbrev F.secStat_RESULT : FRef := ⟨.secStat, 23, 16⟩
abbrev F.secStat_RELOCKS : FRef := ⟨.secStat, 15, 8⟩
abbrev F.secNslock_KEYED : FRef := ⟨.secNslock, 31, 16⟩
abbrev F.secNslock_LOCKED : FRef := ⟨.secNslock, 15, 0⟩
abbrev F.secSancfg_PAR : FRef := ⟨.secSancfg, 5, 0⟩
abbrev F.secSan_RUNNING : FRef := ⟨.secSan, 31, 31⟩
abbrev F.secSan_DONE_PCT : FRef := ⟨.secSan, 30, 24⟩
abbrev F.secSan_NOT_ERASED : FRef := ⟨.secSan, 15, 0⟩
abbrev F.secOtp_KEYHASH : FRef := ⟨.secOtp, 31, 31⟩
abbrev F.secOtp_CAPKEY : FRef := ⟨.secOtp, 30, 30⟩
abbrev F.secOtp_SIG_REQ : FRef := ⟨.secOtp, 29, 29⟩
abbrev F.secOtp_PATCH_FLOOR : FRef := ⟨.secOtp, 15, 0⟩
abbrev F.cqSqbaseLo_ADDR : FRef := ⟨.cqSqbaseLo, 31, 12⟩
abbrev F.cqSqbaseHi_ADDR : FRef := ⟨.cqSqbaseHi, 15, 0⟩
abbrev F.cqSqcfg_EN : FRef := ⟨.cqSqcfg, 31, 31⟩
abbrev F.cqSqcfg_RST : FRef := ⟨.cqSqcfg, 30, 30⟩
abbrev F.cqSqcfg_C0_EN : FRef := ⟨.cqSqcfg, 29, 29⟩
abbrev F.cqSqcfg_CQID : FRef := ⟨.cqSqcfg, 21, 16⟩
abbrev F.cqSqcfg_SIZE : FRef := ⟨.cqSqcfg, 15, 0⟩
abbrev F.cqSqstat_ACTIVE : FRef := ⟨.cqSqstat, 31, 31⟩
abbrev F.cqSqstat_STOPPED : FRef := ⟨.cqSqstat, 30, 30⟩
abbrev F.cqSqstat_INFLIGHT : FRef := ⟨.cqSqstat, 26, 16⟩
abbrev F.cqSqstat_HEAD : FRef := ⟨.cqSqstat, 15, 0⟩
abbrev F.cqCqbaseLo_ADDR : FRef := ⟨.cqCqbaseLo, 31, 12⟩
abbrev F.cqCqbaseHi_ADDR : FRef := ⟨.cqCqbaseHi, 15, 0⟩
abbrev F.cqCqcfg_EN : FRef := ⟨.cqCqcfg, 31, 31⟩
abbrev F.cqCqcfg_RST : FRef := ⟨.cqCqcfg, 30, 30⟩
abbrev F.cqCqcfg_LINE : FRef := ⟨.cqCqcfg, 29, 27⟩
abbrev F.cqCqcfg_AGG_N : FRef := ⟨.cqCqcfg, 26, 24⟩
abbrev F.cqCqcfg_AGG_T : FRef := ⟨.cqCqcfg, 23, 16⟩
abbrev F.cqCqcfg_SIZE : FRef := ⟨.cqCqcfg, 15, 0⟩
abbrev F.cqCqstat_ACTIVE : FRef := ⟨.cqCqstat, 31, 31⟩
abbrev F.cqCqstat_FULL : FRef := ⟨.cqCqstat, 30, 30⟩
abbrev F.cqCqstat_PHASE : FRef := ⟨.cqCqstat, 16, 16⟩
abbrev F.cqCqstat_TAIL : FRef := ⟨.cqCqstat, 15, 0⟩
abbrev F.cqPendlo_PEND : FRef := ⟨.cqPendlo, 31, 0⟩
abbrev F.cqPendhi_PEND : FRef := ⟨.cqPendhi, 31, 0⟩
abbrev F.cqErr_DBERR : FRef := ⟨.cqErr, 31, 31⟩
abbrev F.cqErr_CFGERR : FRef := ⟨.cqErr, 30, 30⟩
abbrev F.cqErr_CQ : FRef := ⟨.cqErr, 29, 29⟩
abbrev F.cqErr_QNUM : FRef := ⟨.cqErr, 5, 0⟩
abbrev F.cqSqdb_TAIL : FRef := ⟨.cqSqdb, 15, 0⟩
abbrev F.cqCqdb_HEAD : FRef := ⟨.cqCqdb, 15, 0⟩
abbrev F.ordEqstat_NEW : FRef := ⟨.ordEqstat, 31, 31⟩
abbrev F.ordEqstat_OVERFLOW : FRef := ⟨.ordEqstat, 30, 30⟩
abbrev F.ordEqstat_ACKERR : FRef := ⟨.ordEqstat, 29, 29⟩
abbrev F.ordEqstat_DROPPED : FRef := ⟨.ordEqstat, 23, 16⟩
abbrev F.ordEqstat_OPEN : FRef := ⟨.ordEqstat, 14, 8⟩
abbrev F.ordEqstat_COUNT : FRef := ⟨.ordEqstat, 6, 0⟩
abbrev F.ordEqsel_INDEX : FRef := ⟨.ordEqsel, 5, 0⟩
abbrev F.ordEqword_DATA : FRef := ⟨.ordEqword, 31, 0⟩
abbrev F.ordEqack_ESEQ : FRef := ⟨.ordEqack, 31, 0⟩
abbrev F.ordHold_HAS_CUSTODY : FRef := ⟨.ordHold, 31, 31⟩
abbrev F.ordHold_PEAK : FRef := ⟨.ordHold, 29, 16⟩
abbrev F.ordHold_HELD : FRef := ⟨.ordHold, 13, 0⟩
abbrev F.ordQuiesce_READY : FRef := ⟨.ordQuiesce, 31, 31⟩
abbrev F.ordQuiesce_REQ : FRef := ⟨.ordQuiesce, 0, 0⟩
abbrev F.ordEpoch_EPOCH : FRef := ⟨.ordEpoch, 31, 0⟩
abbrev F.ordEpochDur_EPOCH : FRef := ⟨.ordEpochDur, 31, 0⟩
abbrev F.ordEpochSet_EPOCH : FRef := ⟨.ordEpochSet, 31, 0⟩
abbrev F.ordEpochStat_SETERR : FRef := ⟨.ordEpochStat, 1, 1⟩
abbrev F.ordEpochStat_RESYNC : FRef := ⟨.ordEpochStat, 0, 0⟩
abbrev F.ordIsol_ISOL : FRef := ⟨.ordIsol, 31, 0⟩
abbrev F.dmaCtxcfg_EN : FRef := ⟨.dmaCtxcfg, 31, 31⟩
abbrev F.dmaCtxcfg_KIND : FRef := ⟨.dmaCtxcfg, 30, 30⟩
abbrev F.dmaCtxcfg_PACE : FRef := ⟨.dmaCtxcfg, 29, 29⟩
abbrev F.dmaCtxcfg_TW_EV : FRef := ⟨.dmaCtxcfg, 28, 28⟩
abbrev F.dmaCtxcfg_PRIO : FRef := ⟨.dmaCtxcfg, 27, 26⟩
abbrev F.dmaCtxcfg_QUANTUM : FRef := ⟨.dmaCtxcfg, 15, 0⟩
abbrev F.dmaCtxctl_PAUSE : FRef := ⟨.dmaCtxctl, 31, 31⟩
abbrev F.dmaChainLo_ADDR : FRef := ⟨.dmaChainLo, 31, 5⟩
abbrev F.dmaChainHi_ADDR : FRef := ⟨.dmaChainHi, 15, 0⟩
abbrev F.dmaCtxstat_STATE : FRef := ⟨.dmaCtxstat, 31, 29⟩
abbrev F.dmaCtxstat_KICK_PEND : FRef := ⟨.dmaCtxstat, 28, 28⟩
abbrev F.dmaCtxstat_REQ_OVERFLOW : FRef := ⟨.dmaCtxstat, 27, 27⟩
abbrev F.dmaCtxstat_TAIL_EV : FRef := ⟨.dmaCtxstat, 26, 26⟩
abbrev F.dmaCtxstat_CHAIN_ERR : FRef := ⟨.dmaCtxstat, 25, 25⟩
abbrev F.dmaCtxstat_HOLD : FRef := ⟨.dmaCtxstat, 22, 16⟩
abbrev F.dmaCtxstat_PEND : FRef := ⟨.dmaCtxstat, 7, 0⟩
abbrev F.dmaCurLo_ADDR : FRef := ⟨.dmaCurLo, 31, 0⟩
abbrev F.dmaCurHi_ADDR : FRef := ⟨.dmaCurHi, 15, 0⟩
abbrev F.dmaRem_REM : FRef := ⟨.dmaRem, 23, 0⟩
abbrev F.dmaKick_CTX : FRef := ⟨.dmaKick, 5, 0⟩
abbrev F.dmaOvfLo_OVF : FRef := ⟨.dmaOvfLo, 31, 0⟩
abbrev F.dmaOvfHi_OVF : FRef := ⟨.dmaOvfHi, 31, 0⟩
abbrev F.fifoCfg_XLINE : FRef := ⟨.fifoCfg, 19, 16⟩
abbrev F.fifoCfg_XEN : FRef := ⟨.fifoCfg, 15, 15⟩
abbrev F.fifoCfg_ALIGN : FRef := ⟨.fifoCfg, 13, 12⟩
abbrev F.fifoCfg_SIZE : FRef := ⟨.fifoCfg, 8, 0⟩
abbrev F.fifoWm_HI : FRef := ⟨.fifoWm, 31, 16⟩
abbrev F.fifoWm_LO : FRef := ⟨.fifoWm, 15, 0⟩
abbrev F.fifoStat_XOFF : FRef := ⟨.fifoStat, 31, 31⟩
abbrev F.fifoStat_OVERRUN : FRef := ⟨.fifoStat, 30, 30⟩
abbrev F.fifoStat_BOUND : FRef := ⟨.fifoStat, 29, 29⟩
abbrev F.fifoStat_FILL : FRef := ⟨.fifoStat, 18, 0⟩
abbrev F.fifoPkt_PKTS : FRef := ⟨.fifoPkt, 31, 16⟩
abbrev F.fifoPkt_C0_SLICES : FRef := ⟨.fifoPkt, 15, 8⟩
abbrev F.fifoCnt_OVR_BURSTS : FRef := ⟨.fifoCnt, 31, 16⟩
abbrev F.fifoCnt_REWINDS : FRef := ⟨.fifoCnt, 15, 8⟩
abbrev F.fifoCnt_PATH_PADS : FRef := ⟨.fifoCnt, 7, 0⟩
abbrev F.fifoOvrLo_OVR : FRef := ⟨.fifoOvrLo, 31, 0⟩
abbrev F.fifoOvrHi_OVR : FRef := ⟨.fifoOvrHi, 31, 0⟩
abbrev F.xltMcctl_EN : FRef := ⟨.xltMcctl, 31, 31⟩
abbrev F.xltMcctl_OP : FRef := ⟨.xltMcctl, 1, 0⟩
abbrev F.xltMcaddr_LINE : FRef := ⟨.xltMcaddr, 31, 0⟩
abbrev F.xltMcstat_BUSY : FRef := ⟨.xltMcstat, 31, 31⟩
abbrev F.xltMcstat_DIRTY : FRef := ⟨.xltMcstat, 16, 0⟩
abbrev F.xltMccnt_MISSES : FRef := ⟨.xltMccnt, 31, 16⟩
abbrev F.xltMccnt_STALE : FRef := ⟨.xltMccnt, 15, 8⟩
abbrev F.xltMccnt_VICTIM : FRef := ⟨.xltMccnt, 7, 0⟩
abbrev F.xltRingsel_SG : FRef := ⟨.xltRingsel, 7, 0⟩
abbrev F.xltRing0_W : FRef := ⟨.xltRing0, 31, 16⟩
abbrev F.xltRing0_GAP : FRef := ⟨.xltRing0, 15, 0⟩
abbrev F.xltRing1_KIND : FRef := ⟨.xltRing1, 31, 30⟩
abbrev F.xltRing1_PHASE : FRef := ⟨.xltRing1, 29, 28⟩
abbrev F.xltRing1_WAIT_OPEN : FRef := ⟨.xltRing1, 27, 27⟩
abbrev F.xltRing1_RESETS : FRef := ⟨.xltRing1, 15, 0⟩
abbrev F.wearCfg_WL_DELTA : FRef := ⟨.wearCfg, 31, 16⟩
abbrev F.wearCfg_GC_LO : FRef := ⟨.wearCfg, 15, 8⟩
abbrev F.wearCfg_GC_CRIT : FRef := ⟨.wearCfg, 7, 0⟩
abbrev F.wearRq_NOW : FRef := ⟨.wearRq, 22, 16⟩
abbrev F.wearRq_DROPPED : FRef := ⟨.wearRq, 15, 8⟩
abbrev F.wearRq_DONE : FRef := ⟨.wearRq, 7, 0⟩
abbrev F.wearFold_FOLD_PENDING : FRef := ⟨.wearFold, 31, 16⟩
abbrev F.wearFold_FOLDED : FRef := ⟨.wearFold, 15, 0⟩
abbrev F.wearSpare_LOW_SPARE : FRef := ⟨.wearSpare, 31, 31⟩
abbrev F.wearSpare_RETIRED : FRef := ⟨.wearSpare, 23, 16⟩
abbrev F.wearSpare_MIN_SPARES : FRef := ⟨.wearSpare, 15, 0⟩
abbrev F.schModecfg_W1 : FRef := ⟨.schModecfg, 31, 28⟩
abbrev F.schModecfg_W2 : FRef := ⟨.schModecfg, 27, 24⟩
abbrev F.schModecfg_W3 : FRef := ⟨.schModecfg, 23, 20⟩
abbrev F.schModecfg_WBG : FRef := ⟨.schModecfg, 19, 16⟩
abbrev F.schModecfg_BIAS : FRef := ⟨.schModecfg, 15, 14⟩
abbrev F.schModecfg_SUSP_MASK : FRef := ⟨.schModecfg, 11, 9⟩
abbrev F.schModecfg_SUSP_C0 : FRef := ⟨.schModecfg, 8, 8⟩
abbrev F.schModecfg_ERS_DEFER : FRef := ⟨.schModecfg, 0, 0⟩
abbrev F.schC0cfg_DEMOTE : FRef := ⟨.schC0cfg, 0, 0⟩
abbrev F.schC0cnt_READS : FRef := ⟨.schC0cnt, 31, 16⟩
abbrev F.schC0cnt_LATE : FRef := ⟨.schC0cnt, 15, 0⟩
abbrev F.schC0max_READ_MAX : FRef := ⟨.schC0max, 31, 16⟩
abbrev F.schC0max_STAGED_MAX : FRef := ⟨.schC0max, 15, 0⟩
abbrev F.schLapse_CAUSE : FRef := ⟨.schLapse, 9, 0⟩
abbrev F.schSusp_ISSUED : FRef := ⟨.schSusp, 31, 16⟩
abbrev F.schSusp_REFUSED : FRef := ⟨.schSusp, 15, 8⟩
abbrev F.schSusp_DEFERRED : FRef := ⟨.schSusp, 7, 0⟩
abbrev F.schProfok_ERS_OK : FRef := ⟨.schProfok, 15, 8⟩
abbrev F.schProfok_C0_OK : FRef := ⟨.schProfok, 7, 0⟩
abbrev F.cdcCfg_ITER_SOFT : FRef := ⟨.cdcCfg, 23, 16⟩
abbrev F.cdcCfg_ITER_EXT : FRef := ⟨.cdcCfg, 15, 8⟩
abbrev F.cdcCfg_ITER_HARD : FRef := ⟨.cdcCfg, 7, 0⟩
abbrev F.cdcFill_PATTERN : FRef := ⟨.cdcFill, 31, 0⟩
abbrev F.cdcPool_HARD : FRef := ⟨.cdcPool, 31, 26⟩
abbrev F.cdcPool_SOFT : FRef := ⟨.cdcPool, 25, 22⟩
abbrev F.cdcPool_HQ : FRef := ⟨.cdcPool, 15, 7⟩
abbrev F.cdcPool_SQ : FRef := ⟨.cdcPool, 6, 0⟩
abbrev F.cdcHcnt_COUNT : FRef := ⟨.cdcHcnt, 31, 0⟩
abbrev F.cdcHfail_EXT_FAIL : FRef := ⟨.cdcHfail, 31, 16⟩
abbrev F.cdcHfail_NO_CONV : FRef := ⟨.cdcHfail, 15, 0⟩
abbrev F.cdcSoft_COUNT : FRef := ⟨.cdcSoft, 31, 16⟩
abbrev F.cdcSoft_FAIL : FRef := ⟨.cdcSoft, 15, 0⟩
abbrev F.cdcChecks_ERASED : FRef := ⟨.cdcChecks, 31, 16⟩
abbrev F.cdcChecks_CRC_FAIL : FRef := ⟨.cdcChecks, 15, 8⟩
abbrev F.cdcChecks_TAG_FAIL : FRef := ⟨.cdcChecks, 7, 0⟩
abbrev F.cdcCbits_BITS : FRef := ⟨.cdcCbits, 31, 0⟩
abbrev F.cdcUtil_HARD_BUSY : FRef := ⟨.cdcUtil, 31, 16⟩
abbrev F.cdcUtil_SOFT_BUSY : FRef := ⟨.cdcUtil, 15, 0⟩
abbrev F.rrcCfg_POL : FRef := ⟨.rrcCfg, 31, 24⟩
abbrev F.rrcCfg_LEARN_MIN : FRef := ⟨.rrcCfg, 23, 16⟩
abbrev F.rrcCfg_SOFT_PASSES : FRef := ⟨.rrcCfg, 11, 10⟩
abbrev F.rrcCfg_MAG_STRONG : FRef := ⟨.rrcCfg, 9, 8⟩
abbrev F.rrcCfg_MAG_WEAK : FRef := ⟨.rrcCfg, 7, 6⟩
abbrev F.rrcCfg_SWEEP_EN : FRef := ⟨.rrcCfg, 5, 5⟩
abbrev F.rrcCfg_LEARN_EN : FRef := ⟨.rrcCfg, 4, 4⟩
abbrev F.rrcTiming_SWEEP_H : FRef := ⟨.rrcTiming, 31, 16⟩
abbrev F.rrcTiming_SAVE_H : FRef := ⟨.rrcTiming, 15, 0⟩
abbrev F.rrcEw_THR : FRef := ⟨.rrcEw, 15, 0⟩
abbrev F.rrcCorrsel_PROF : FRef := ⟨.rrcCorrsel, 7, 5⟩
abbrev F.rrcCorrsel_TBL : FRef := ⟨.rrcCorrsel, 4, 4⟩
abbrev F.rrcCorrsel_BIN : FRef := ⟨.rrcCorrsel, 2, 0⟩
abbrev F.rrcCorr0_L3 : FRef := ⟨.rrcCorr0, 31, 24⟩
abbrev F.rrcCorr0_L2 : FRef := ⟨.rrcCorr0, 23, 16⟩
abbrev F.rrcCorr0_L1 : FRef := ⟨.rrcCorr0, 15, 8⟩
abbrev F.rrcCorr0_SLC : FRef := ⟨.rrcCorr0, 7, 0⟩
abbrev F.rrcCorr1_L7 : FRef := ⟨.rrcCorr1, 31, 24⟩
abbrev F.rrcCorr1_L6 : FRef := ⟨.rrcCorr1, 23, 16⟩
abbrev F.rrcCorr1_L5 : FRef := ⟨.rrcCorr1, 15, 8⟩
abbrev F.rrcCorr1_L4 : FRef := ⟨.rrcCorr1, 7, 0⟩
abbrev F.rrcAge_MINUTES : FRef := ⟨.rrcAge, 31, 0⟩
abbrev F.rrcOfftime_HOURS : FRef := ⟨.rrcOfftime, 19, 0⟩
abbrev F.rrcOut0_EXT_OK : FRef := ⟨.rrcOut0, 31, 16⟩
abbrev F.rrcOut0_ROW_OK : FRef := ⟨.rrcOut0, 15, 0⟩
abbrev F.rrcOut1_SOFT_OK : FRef := ⟨.rrcOut1, 31, 16⟩
abbrev F.rrcOut1_UNCORR : FRef := ⟨.rrcOut1, 15, 0⟩
abbrev F.rrcOcc_PEAK : FRef := ⟨.rrcOcc, 26, 16⟩
abbrev F.rrcOcc_NOW : FRef := ⟨.rrcOcc, 10, 0⟩
abbrev F.rrcWait_TABLE_FULL : FRef := ⟨.rrcWait, 31, 16⟩
abbrev F.rrcWait_SOFT_HELD : FRef := ⟨.rrcWait, 15, 0⟩
abbrev F.rrcEwcnt_EW : FRef := ⟨.rrcEwcnt, 31, 16⟩
abbrev F.rrcEwcnt_CAND : FRef := ⟨.rrcEwcnt, 15, 0⟩
abbrev F.rrcSweep_JUMPS : FRef := ⟨.rrcSweep, 31, 16⟩
abbrev F.rrcSweep_GROUPS : FRef := ⟨.rrcSweep, 15, 0⟩
abbrev F.pgmArch_ARCH_HI : FRef := ⟨.pgmArch, 31, 24⟩
abbrev F.pgmArch_ARCH_LO : FRef := ⟨.pgmArch, 23, 16⟩
abbrev F.pgmArch_ARCH_WAIT : FRef := ⟨.pgmArch, 15, 0⟩
abbrev F.pgmVcfg_ARCH_STALL : FRef := ⟨.pgmVcfg, 31, 24⟩
abbrev F.pgmVcfg_JRNL_INT : FRef := ⟨.pgmVcfg, 23, 16⟩
abbrev F.pgmVcfg_HWM_SPAN : FRef := ⟨.pgmVcfg, 15, 12⟩
abbrev F.pgmVcfg_HWM_LEAD : FRef := ⟨.pgmVcfg, 11, 8⟩
abbrev F.pgmVcfg_SAMPLE : FRef := ⟨.pgmVcfg, 4, 4⟩
abbrev F.pgmVcfg_EXTRA : FRef := ⟨.pgmVcfg, 3, 0⟩
abbrev F.pgmVthr_THR : FRef := ⟨.pgmVthr, 15, 0⟩
abbrev F.pgmStep_BASE : FRef := ⟨.pgmStep, 4, 0⟩
abbrev F.pgmStat_PULSE_LIMIT : FRef := ⟨.pgmStat, 2, 2⟩
abbrev F.pgmStat_VERIFY_FAIL : FRef := ⟨.pgmStat, 1, 1⟩
abbrev F.pgmStat_BAND_STALL : FRef := ⟨.pgmStat, 0, 0⟩
abbrev F.pgmPcnt_UNITS : FRef := ⟨.pgmPcnt, 31, 8⟩
abbrev F.pgmPcnt_FAILS : FRef := ⟨.pgmPcnt, 7, 0⟩
abbrev F.pgmVcnt_READS : FRef := ⟨.pgmVcnt, 31, 16⟩
abbrev F.pgmVcnt_OVER : FRef := ⟨.pgmVcnt, 15, 8⟩
abbrev F.pgmVcnt_STEP_FALLBACK : FRef := ⟨.pgmVcnt, 7, 0⟩
abbrev F.pgmPulse_PULSES_EXTRA : FRef := ⟨.pgmPulse, 31, 0⟩
abbrev F.pgmEcnt_ERASES : FRef := ⟨.pgmEcnt, 31, 16⟩
abbrev F.pgmEcnt_FAILS : FRef := ⟨.pgmEcnt, 15, 8⟩
abbrev F.pgmEcnt_INCOMPLETE : FRef := ⟨.pgmEcnt, 7, 0⟩
abbrev F.pgmAcnt_IN_BAND : FRef := ⟨.pgmAcnt, 31, 16⟩
abbrev F.pgmAcnt_NOT_AG_UNITS : FRef := ⟨.pgmAcnt, 15, 8⟩
abbrev F.pgmAcnt_WAITING : FRef := ⟨.pgmAcnt, 7, 0⟩
abbrev F.pgmJrnl_JSEQ : FRef := ⟨.pgmJrnl, 31, 0⟩
abbrev F.hupStat_COVER : FRef := ⟨.hupStat, 31, 31⟩
abbrev F.hupStat_ARMED : FRef := ⟨.hupStat, 30, 30⟩
abbrev F.hupStat_CHARGING : FRef := ⟨.hupStat, 29, 29⟩
abbrev F.hupStat_SPL_AVAIL : FRef := ⟨.hupStat, 28, 28⟩
abbrev F.hupStat_STAGE_FAULT : FRef := ⟨.hupStat, 27, 27⟩
abbrev F.hupStat_COVER_LOST : FRef := ⟨.hupStat, 26, 26⟩
abbrev F.hupStat_KTL_WEAK : FRef := ⟨.hupStat, 25, 25⟩
abbrev F.hupStat_HC_FAIL : FRef := ⟨.hupStat, 24, 24⟩
abbrev F.hupStat_HOLDUP_STARTED : FRef := ⟨.hupStat, 23, 23⟩
abbrev F.hupStat_HOLDUP_DONE : FRef := ⟨.hupStat, 22, 22⟩
abbrev F.hupStat_LEVEL : FRef := ⟨.hupStat, 21, 20⟩
abbrev F.hupStat_TORN : FRef := ⟨.hupStat, 7, 0⟩
abbrev F.hupEst_E_KTL : FRef := ⟨.hupEst, 31, 16⟩
abbrev F.hupEst_E_SPL : FRef := ⟨.hupEst, 15, 0⟩
abbrev F.hupBound_B : FRef := ⟨.hupBound, 24, 0⟩
abbrev F.hupKtl_V : FRef := ⟨.hupKtl, 31, 16⟩
abbrev F.hupKtl_C_MEAS : FRef := ⟨.hupKtl, 15, 0⟩
abbrev F.hupEsr_ESR : FRef := ⟨.hupEsr, 31, 16⟩
abbrev F.hupEsr_AGE_H : FRef := ⟨.hupEsr, 15, 0⟩
abbrev F.hupCfg_HEALTH_GO : FRef := ⟨.hupCfg, 31, 31⟩
abbrev F.hupCfg_CHG_DIS : FRef := ⟨.hupCfg, 30, 30⟩
abbrev F.hupCfg_REGION_HOLD : FRef := ⟨.hupCfg, 29, 29⟩
abbrev F.hupRestore_GO : FRef := ⟨.hupRestore, 31, 31⟩
abbrev F.hupRestore_SKIP : FRef := ⟨.hupRestore, 30, 30⟩
abbrev F.hupRestore_WAITING : FRef := ⟨.hupRestore, 29, 29⟩
abbrev F.hupRestore_REGIONS : FRef := ⟨.hupRestore, 6, 0⟩
abbrev F.hupLastt_TIME : FRef := ⟨.hupLastt, 31, 0⟩
abbrev F.hupLastb_SECTORS : FRef := ⟨.hupLastb, 31, 0⟩
abbrev F.hupLaste_KTL : FRef := ⟨.hupLaste, 31, 16⟩
abbrev F.hupLaste_SPL : FRef := ⟨.hupLaste, 15, 0⟩
abbrev F.hupLasts_OUTCOME : FRef := ⟨.hupLasts, 31, 24⟩
abbrev F.hupLasts_LEVEL : FRef := ⟨.hupLasts, 17, 16⟩
abbrev F.hupLasts_LOST : FRef := ⟨.hupLasts, 6, 0⟩
abbrev F.loopCtl_REQ : FRef := ⟨.loopCtl, 31, 29⟩
abbrev F.loopStat_STATE : FRef := ⟨.loopStat, 31, 29⟩
abbrev F.loopStat_REJ : FRef := ⟨.loopStat, 28, 28⟩
abbrev F.loopStat_SAT : FRef := ⟨.loopStat, 27, 27⟩
abbrev F.loopStat_OVERRUN : FRef := ⟨.loopStat, 26, 26⟩
abbrev F.loopStat_LOSS : FRef := ⟨.loopStat, 25, 25⟩
abbrev F.loopStat_LCAUSE : FRef := ⟨.loopStat, 24, 23⟩
abbrev F.loopStat_TRIP : FRef := ⟨.loopStat, 22, 22⟩
abbrev F.loopStat_TUNE_DONE : FRef := ⟨.loopStat, 21, 21⟩
abbrev F.loopStat_TUNE_FAIL : FRef := ⟨.loopStat, 20, 20⟩
abbrev F.loopStat_STAGE : FRef := ⟨.loopStat, 11, 0⟩
abbrev F.loopOvr_OVR_CNT : FRef := ⟨.loopOvr, 31, 16⟩
abbrev F.loopOvr_CONSEC : FRef := ⟨.loopOvr, 3, 0⟩
abbrev F.loopDly_DLY_MAX : FRef := ⟨.loopDly, 31, 16⟩
abbrev F.loopDly_DLY_LAST : FRef := ⟨.loopDly, 15, 0⟩
abbrev F.loopIo_OUT : FRef := ⟨.loopIo, 31, 16⟩
abbrev F.loopIo_PV : FRef := ⟨.loopIo, 15, 0⟩
abbrev F.loopTune_AMP : FRef := ⟨.loopTune, 31, 16⟩
abbrev F.loopTune_HYST : FRef := ⟨.loopTune, 15, 0⟩
abbrev F.loopTres_KU : FRef := ⟨.loopTres, 31, 16⟩
abbrev F.loopTres_TU : FRef := ⟨.loopTres, 15, 0⟩
abbrev F.loopTrcfg_RUN : FRef := ⟨.loopTrcfg, 31, 31⟩
abbrev F.loopTrcfg_MODE : FRef := ⟨.loopTrcfg, 25, 24⟩
abbrev F.loopTrcfg_DEC : FRef := ⟨.loopTrcfg, 23, 16⟩
abbrev F.loopTrcfg_NODES : FRef := ⟨.loopTrcfg, 15, 0⟩
abbrev F.loopCsel_SLOT : FRef := ⟨.loopCsel, 11, 8⟩
abbrev F.loopCsel_W : FRef := ⟨.loopCsel, 5, 0⟩
abbrev F.loopCdata_DATA : FRef := ⟨.loopCdata, 15, 0⟩
abbrev F.loopTrsel_SLOT : FRef := ⟨.loopTrsel, 15, 12⟩
abbrev F.loopTrsel_CH : FRef := ⟨.loopTrsel, 11, 10⟩
abbrev F.loopTrsel_INDEX : FRef := ⟨.loopTrsel, 9, 0⟩
abbrev F.loopTrdata_SAMPLE : FRef := ⟨.loopTrdata, 15, 0⟩
abbrev F.loopTrip_OV_CODE : FRef := ⟨.loopTrip, 29, 16⟩
abbrev F.loopTrip_HYST : FRef := ⟨.loopTrip, 13, 0⟩
abbrev F.loopSum_SLOT : FRef := ⟨.loopSum, 15, 0⟩
abbrev F.adcFrame_INPUT : FRef := ⟨.adcFrame, 5, 0⟩
abbrev F.adcData_FILT : FRef := ⟨.adcData, 31, 16⟩
abbrev F.adcData_OPEN : FRef := ⟨.adcData, 15, 15⟩
abbrev F.adcData_CODE : FRef := ⟨.adcData, 13, 0⟩
abbrev F.adcCfg_OPEN_EN : FRef := ⟨.adcCfg, 4, 4⟩
abbrev F.adcCfg_FSHIFT : FRef := ⟨.adcCfg, 3, 0⟩
abbrev F.adcStat_RUN : FRef := ⟨.adcStat, 31, 31⟩
abbrev F.adcStat_CAL_OK : FRef := ⟨.adcStat, 30, 30⟩
abbrev F.thmZsp_SP_IDLE : FRef := ⟨.thmZsp, 31, 24⟩
abbrev F.thmZsp_T_CRIT : FRef := ⟨.thmZsp, 23, 16⟩
abbrev F.thmZsp_SP_ACT : FRef := ⟨.thmZsp, 15, 8⟩
abbrev F.thmZstat_BAND_REQ : FRef := ⟨.thmZstat, 31, 31⟩
abbrev F.thmZstat_CRIT : FRef := ⟨.thmZstat, 30, 30⟩
abbrev F.thmZstat_FAN_FAIL : FRef := ⟨.thmZstat, 29, 29⟩
abbrev F.thmZstat_IN_BAND : FRef := ⟨.thmZstat, 28, 28⟩
abbrev F.thmZstat_TEMP : FRef := ⟨.thmZstat, 15, 0⟩
abbrev F.thmPoll_POLL_MS : FRef := ⟨.thmPoll, 31, 16⟩
abbrev F.thmPoll_LATE : FRef := ⟨.thmPoll, 15, 0⟩
abbrev F.thmCht_AGE : FRef := ⟨.thmCht, 31, 24⟩
abbrev F.thmCht_TMAX : FRef := ⟨.thmCht, 15, 8⟩
abbrev F.thmCht_TMIN : FRef := ⟨.thmCht, 7, 0⟩
abbrev F.thmTach_RPM : FRef := ⟨.thmTach, 31, 16⟩
abbrev F.thmPwm_DLVL : FRef := ⟨.thmPwm, 31, 31⟩
abbrev F.thmPwm_PRESC : FRef := ⟨.thmPwm, 27, 24⟩
abbrev F.thmPwm_PERIOD : FRef := ⟨.thmPwm, 15, 0⟩
abbrev F.calCfg_DELTA_T : FRef := ⟨.calCfg, 31, 24⟩
abbrev F.calCfg_FORCE_MS : FRef := ⟨.calCfg, 15, 0⟩
abbrev F.calReq_KIND : FRef := ⟨.calReq, 9, 8⟩
abbrev F.calReq_REF : FRef := ⟨.calReq, 7, 7⟩
abbrev F.calReq_ALL : FRef := ⟨.calReq, 6, 6⟩
abbrev F.calReq_CH : FRef := ⟨.calReq, 5, 0⟩
abbrev F.calCnt_APPLIED : FRef := ⟨.calCnt, 31, 24⟩
abbrev F.calCnt_FORCED : FRef := ⟨.calCnt, 23, 16⟩
abbrev F.calCnt_PLAUS_FAIL : FRef := ⟨.calCnt, 15, 8⟩
abbrev F.calCnt_AGREE_FAIL : FRef := ⟨.calCnt, 7, 0⟩
abbrev F.calRef_REF_FAIL : FRef := ⟨.calRef, 31, 31⟩
abbrev F.calRef_SPARE : FRef := ⟨.calRef, 19, 18⟩
abbrev F.calRef_MAIN : FRef := ⟨.calRef, 17, 16⟩
abbrev F.calRef_DIFF : FRef := ⟨.calRef, 15, 0⟩
abbrev F.calAdc_GAIN : FRef := ⟨.calAdc, 31, 16⟩
abbrev F.calAdc_OFS : FRef := ⟨.calAdc, 15, 0⟩
abbrev F.calChstat_PENDING : FRef := ⟨.calChstat, 31, 31⟩
abbrev F.calChstat_RUNNING : FRef := ⟨.calChstat, 30, 30⟩
abbrev F.calChstat_SHORT : FRef := ⟨.calChstat, 29, 29⟩
abbrev F.calChstat_LAST_T : FRef := ⟨.calChstat, 23, 16⟩
abbrev F.calChstat_DEFER : FRef := ⟨.calChstat, 15, 0⟩
abbrev F.calChres_EYE : FRef := ⟨.calChres, 31, 26⟩
abbrev F.calChres_SPARES : FRef := ⟨.calChres, 25, 21⟩
abbrev F.calChres_DRV_LEGS : FRef := ⟨.calChres, 20, 16⟩
abbrev F.calChres_ODT_LEGS : FRef := ⟨.calChres, 15, 11⟩
abbrev F.memStat_BIST_OK : FRef := ⟨.memStat, 31, 31⟩
abbrev F.memStat_BIST_FAIL : FRef := ⟨.memStat, 30, 30⟩
abbrev F.memStat_BIST_MEMID : FRef := ⟨.memStat, 3, 0⟩
abbrev F.memEvt_UE : FRef := ⟨.memEvt, 31, 31⟩
abbrev F.memEvt_LOG_FULL : FRef := ⟨.memEvt, 30, 30⟩
abbrev F.memEvt_DROPPED : FRef := ⟨.memEvt, 7, 0⟩
abbrev F.memCnt_CE : FRef := ⟨.memCnt, 31, 16⟩
abbrev F.memCnt_UE : FRef := ⟨.memCnt, 15, 0⟩
abbrev F.memLap_LAP_MAX : FRef := ⟨.memLap, 31, 16⟩
abbrev F.memLap_LAP_LAST : FRef := ⟨.memLap, 15, 0⟩
abbrev F.memLogsel_INDEX : FRef := ⟨.memLogsel, 4, 0⟩
abbrev F.memLogw0_MEMID : FRef := ⟨.memLogw0, 31, 28⟩
abbrev F.memLogw0_KIND : FRef := ⟨.memLogw0, 27, 26⟩
abbrev F.memLogw0_INST : FRef := ⟨.memLogw0, 25, 20⟩
abbrev F.memLogw0_COUNT : FRef := ⟨.memLogw0, 7, 0⟩
abbrev F.memLogw1_ADDR : FRef := ⟨.memLogw1, 31, 0⟩
abbrev F.memLogclr_CLR : FRef := ⟨.memLogclr, 0, 0⟩
abbrev F.hkLoad_PEAK : FRef := ⟨.hkLoad, 23, 16⟩
abbrev F.hkLoad_SHED : FRef := ⟨.hkLoad, 10, 8⟩
abbrev F.hkLoad_NOW : FRef := ⟨.hkLoad, 7, 0⟩
abbrev F.hkCfg_WDT : FRef := ⟨.hkCfg, 23, 16⟩
abbrev F.hkCfg_SHED_HI : FRef := ⟨.hkCfg, 15, 8⟩
abbrev F.hkCfg_SHED_LO : FRef := ⟨.hkCfg, 7, 0⟩
abbrev F.hkThrottle_EN : FRef := ⟨.hkThrottle, 31, 31⟩
abbrev F.hkThrottle_ACTIVE : FRef := ⟨.hkThrottle, 30, 30⟩
abbrev F.hkThrottle_THR_LVL : FRef := ⟨.hkThrottle, 23, 16⟩
abbrev F.hkThrottle_MAX_CMDS : FRef := ⟨.hkThrottle, 15, 0⟩
abbrev F.hkWdstat_CONSEC : FRef := ⟨.hkWdstat, 31, 30⟩
abbrev F.hkWdstat_LAST_POISON : FRef := ⟨.hkWdstat, 29, 29⟩
abbrev F.hkWdstat_RESETS : FRef := ⟨.hkWdstat, 7, 0⟩
abbrev F.hkMbdb_SLOT : FRef := ⟨.hkMbdb, 3, 0⟩
abbrev F.hkMbstat_STATE : FRef := ⟨.hkMbstat, 31, 0⟩
abbrev F.hkMbdone_DB_IGN : FRef := ⟨.hkMbdone, 23, 16⟩
abbrev F.hkMbdone_DONE : FRef := ⟨.hkMbdone, 15, 0⟩
abbrev F.hkMbW_DATA : FRef := ⟨.hkMbW, 31, 0⟩
abbrev F.fijCtl_ARM : FRef := ⟨.fijCtl, 31, 31⟩
abbrev F.fijCtl_ACTIVE : FRef := ⟨.fijCtl, 30, 30⟩
abbrev F.fijCtl_STOPPED : FRef := ⟨.fijCtl, 29, 29⟩
abbrev F.fijCtl_SEED : FRef := ⟨.fijCtl, 15, 0⟩
abbrev F.fijPt_ACTION : FRef := ⟨.fijPt, 31, 30⟩
abbrev F.fijPt_ONESHOT : FRef := ⟨.fijPt, 29, 29⟩
abbrev F.fijPt_EXEMPT : FRef := ⟨.fijPt, 28, 28⟩
abbrev F.fijPt_TARGET : FRef := ⟨.fijPt, 23, 16⟩
abbrev F.fijPt_RATE : FRef := ⟨.fijPt, 15, 0⟩
abbrev F.fijArg_NBITS : FRef := ⟨.fijArg, 11, 0⟩
abbrev F.fijCnt_INJECTED : FRef := ⟨.fijCnt, 31, 0⟩
abbrev F.dbgTrcfg_EN : FRef := ⟨.dbgTrcfg, 31, 31⟩
abbrev F.dbgTrcfg_MODE : FRef := ⟨.dbgTrcfg, 30, 30⟩
abbrev F.dbgTrcfg_FULL : FRef := ⟨.dbgTrcfg, 29, 29⟩
abbrev F.dbgTrcfg_LUN_EN : FRef := ⟨.dbgTrcfg, 13, 13⟩
abbrev F.dbgTrcfg_LUN : FRef := ⟨.dbgTrcfg, 12, 8⟩
abbrev F.dbgTrcfg_CH : FRef := ⟨.dbgTrcfg, 5, 0⟩
abbrev F.dbgTrsel_COUNT : FRef := ⟨.dbgTrsel, 28, 16⟩
abbrev F.dbgTrsel_INDEX : FRef := ⟨.dbgTrsel, 11, 0⟩
abbrev F.dbgTrdataLo_DATA : FRef := ⟨.dbgTrdataLo, 31, 0⟩
abbrev F.dbgTrdataHi_DATA : FRef := ⟨.dbgTrdataHi, 31, 0⟩
abbrev F.dbgTrlost_LOST : FRef := ⟨.dbgTrlost, 31, 0⟩
abbrev F.dbgHmsg_UP : FRef := ⟨.dbgHmsg, 31, 16⟩
abbrev F.dbgHmsg_DOWN : FRef := ⟨.dbgHmsg, 15, 0⟩
abbrev F.hatchLinkStat_UP : FRef := ⟨.hatchLinkStat, 31, 31⟩
abbrev F.hatchLinkStat_GATED : FRef := ⟨.hatchLinkStat, 30, 30⟩
abbrev F.hatchLinkStat_FAILED : FRef := ⟨.hatchLinkStat, 29, 29⟩
abbrev F.hatchLinkStat_RESETS : FRef := ⟨.hatchLinkStat, 23, 16⟩
abbrev F.hatchLinkStat_RETRIES : FRef := ⟨.hatchLinkStat, 15, 0⟩
abbrev F.panLayout_FIFO : FRef := ⟨.panLayout, 29, 20⟩
abbrev F.panLayout_C0 : FRef := ⟨.panLayout, 19, 10⟩
abbrev F.panLayout_PB : FRef := ⟨.panLayout, 9, 0⟩
abbrev F.panSlots_TOTAL : FRef := ⟨.panSlots, 31, 16⟩
abbrev F.panSlots_FREE : FRef := ⟨.panSlots, 15, 0⟩
abbrev F.panWait_LOW : FRef := ⟨.panWait, 31, 16⟩
abbrev F.panWait_WAITS : FRef := ⟨.panWait, 15, 0⟩
abbrev F.chnCfg_RATE_MIN : FRef := ⟨.chnCfg, 31, 16⟩
abbrev F.chnCfg_RB_IGN : FRef := ⟨.chnCfg, 11, 8⟩
abbrev F.chnCfg_RB_PU_DIS : FRef := ⟨.chnCfg, 7, 4⟩
abbrev F.chnCfg_POLL_INT : FRef := ⟨.chnCfg, 3, 0⟩
abbrev F.chnStat_UP : FRef := ⟨.chnStat, 31, 31⟩
abbrev F.chnStat_DEGRADED : FRef := ⟨.chnStat, 30, 30⟩
abbrev F.chnStat_FAILED : FRef := ⟨.chnStat, 29, 29⟩
abbrev F.chnStat_EXT : FRef := ⟨.chnStat, 28, 28⟩
abbrev F.chnStat_SIG : FRef := ⟨.chnStat, 27, 26⟩
abbrev F.chnStat_CUR_RATE : FRef := ⟨.chnStat, 15, 0⟩
abbrev F.chnVolstat_ID_FAIL : FRef := ⟨.chnVolstat, 31, 16⟩
abbrev F.chnVolstat_PRESENT : FRef := ⟨.chnVolstat, 15, 0⟩
abbrev F.chnErr_BUSY_TO : FRef := ⟨.chnErr, 31, 24⟩
abbrev F.chnErr_RETRAIN : FRef := ⟨.chnErr, 23, 16⟩
abbrev F.chnErr_ZQ_FAIL : FRef := ⟨.chnErr, 15, 8⟩
abbrev F.chnErr_RB_MISMATCH : FRef := ⟨.chnErr, 7, 0⟩
abbrev F.seqStat_RUN : FRef := ⟨.seqStat, 31, 31⟩
abbrev F.seqStat_PATCHED : FRef := ⟨.seqStat, 30, 30⟩
abbrev F.seqStat_PATCH_LOST : FRef := ⟨.seqStat, 29, 29⟩
abbrev F.seqStat_ACTIVE : FRef := ⟨.seqStat, 27, 21⟩
abbrev F.seqStat_CUR_LUN : FRef := ⟨.seqStat, 20, 16⟩
abbrev F.seqStat_PC : FRef := ⟨.seqStat, 12, 0⟩
abbrev F.seqPatch_WORDS : FRef := ⟨.seqPatch, 26, 16⟩
abbrev F.seqPatch_MAPS : FRef := ⟨.seqPatch, 5, 0⟩
abbrev F.seqFault_CS_UNCORR : FRef := ⟨.seqFault, 7, 7⟩
abbrev F.seqFault_BAD_TARGET : FRef := ⟨.seqFault, 6, 6⟩
abbrev F.seqFault_NO_YIELD : FRef := ⟨.seqFault, 5, 5⟩
abbrev F.seqFault_DOUBLE_COMMIT : FRef := ⟨.seqFault, 4, 4⟩
abbrev F.seqFault_ILLEGAL_SLOT : FRef := ⟨.seqFault, 3, 3⟩
abbrev F.seqFault_ILLEGAL_COND : FRef := ⟨.seqFault, 2, 2⟩
abbrev F.seqFault_ILLEGAL_OP : FRef := ⟨.seqFault, 1, 1⟩
abbrev F.seqFault_RECORD : FRef := ⟨.seqFault, 0, 0⟩
abbrev F.seqFaultinfo_LUN : FRef := ⟨.seqFaultinfo, 20, 16⟩
abbrev F.seqFaultinfo_PC : FRef := ⟨.seqFaultinfo, 12, 0⟩
abbrev F.seqIndet_INDET : FRef := ⟨.seqIndet, 31, 0⟩
abbrev F.seqRecsel_SLOT_B : FRef := ⟨.seqRecsel, 10, 10⟩
abbrev F.seqRecsel_LUN : FRef := ⟨.seqRecsel, 9, 5⟩
abbrev F.seqRecsel_WORD : FRef := ⟨.seqRecsel, 4, 0⟩
abbrev F.seqRec_DATA : FRef := ⟨.seqRec, 31, 0⟩
abbrev F.seqUtil_CYCLES : FRef := ⟨.seqUtil, 31, 0⟩

end Sys2Proof.Machine
end

