-- ==== Sys2Proof/Machine/State.lean ====
section
/-! DEFINITION. Machine/State.lean: everything that the manual gives the block to hold, as plain data, and the state
right after reset. A numbered instance (channel, LUN, queue, slot) is an entry of a sparse map whose default is the
reset record of that instance. -/

namespace Sys2Proof.Machine

open Sys2Proof

/-- The build configurations of Table SCO-1. -/
inductive Build where
  | premel8 | premel16 | premel32 | premel64
  deriving DecidableEq, Repr

/-- The 14 modes of Table MOD-1. -/
inductive Mode where
  | off | dormant | loading | awaitPatch | standby | warm | serve | ingest | drain | maintain | holdup | safe
  | sanitize | factory
  deriving DecidableEq, Repr

/-- What a transition in progress does (R81, R83, R87, R466). -/
inductive TransKind where
  | drain | toStandby | toDormant | wakeStandby | wakeDormant
  deriving DecidableEq, Repr

/-- A transition in progress: what it does, the mode it ends in, its cause (Table MOD-8) and the time it began; of a descent, the
wake event that is to end it at its next step (R466): its cause, the mode that it leads to, and its time. -/
structure Trans where
  kind : TransKind := .drain
  target : Mode := .warm
  cause : Nat := 0
  since : Nat := 0
  wake : Option (Nat × Mode × Nat) := none
  deriving DecidableEq, Repr

/-- The mode manager (R78 to R88). -/
structure ModeSt where
  mode : Mode := .loading
  prev : Mode := .off
  cause : Nat := 0
  result : Nat := 0
  trans : Option Trans := none
  /-- The mode that Premel goes on to from WARM (R79, R85), where a request or doorbell carries it further. -/
  onward : Option Mode := none
  onwardCause : Nat := 0
  /-- Whether media state has been restored since the start (R74). -/
  restored : Bool := false
  /-- Whether restoration is in progress in WARM (R74, R346). -/
  restoring : Bool := false
  /-- A doorbell kept in LOADING, AWAIT-PATCH or a descent, which acts on arrival (R85). -/
  doorbellKept : Bool := false
  /-- Whether a run mode has been entered since the start (R306). -/
  runEntered : Bool := false
  /-- The time the idle counts last restarted (R88). -/
  idleFrom : Nat := 0
  /-- Whether the SoC side's background work is stopped for a drain (R81 step 2). -/
  bgStop : Bool := false
  /-- The start followed PO_RST_n, and it followed a HOLDUP (R306). -/
  fromPo : Bool := true
  fromHup : Bool := false
  deriving DecidableEq, Repr

/-- The reset pins, the power-fail latch and the sampled straps (R39, R41, R44, R49). -/
structure Pins where
  poHigh : Bool := true
  sysHigh : Bool := true
  sysPending : Bool := false
  pfail : Bool := false
  straps : BitVec 6 := 0
  nodeId : BitVec 24 := 0
  holdupDoneOut : Bool := false
  xspiResetPulses : Nat := 0
  /-- The auxiliary supply at the last start, in mV (R445). -/
  vaux : Nat := 1800
  deriving DecidableEq, Repr

/-- One conditioned input of Table MOD-7 (R95 to R98). -/
structure InputSt where
  asserted : Bool := false
  masked : Bool := false
  /-- The assertion in progress was dropped (R97). -/
  ignored : Bool := false
  lastAct : Option Nat := none
  since : Nat := 0
  /-- The time from which the filter counts (R95): its last level change, a write to FILTER, or the release of a reset. -/
  filterFrom : Nat := 0
  deriving DecidableEq, Repr

/-- The retained register file, Table ARC-4, but for the housekeeper's own variables. -/
structure Retained where
  jrnlValid : Bool := false
  jrnlLun : Nat := 0
  jrnlBlock : Nat := 0
  jrnlPage : Nat := 0
  jrnlSeq : Nat := 0
  huStarted : Bool := false
  huDone : Bool := false
  huBytes : Nat := 0
  huEnergy : Nat := 0
  activeSlot : Nat := 0
  patchSeq : Bool := false
  patchHk : Bool := false
  hkResets : Nat := 0
  lastEseq : Nat := 0
  epoch : Nat := 0
  epochEdges : Nat := 0
  hkVars : NMap Byte := []
  deriving DecidableEq, Repr

/-- What a flash operation is for: where the decoded data, or the outcome, goes on the SoC side. -/
inductive OpUse where
  /-- A sector range of a command's READ or VERIFY (arrival number, first sector of the page). -/
  | cmd (arr first : Nat)
  /-- The program of a unit (unit number) (R202). -/
  | prog (unit : Nat)
  /-- The read-back of a unit (R203, R204). -/
  | readback (unit : Nat)
  /-- The erase of a multi-plane block, for a ring where it belongs to one (R210). -/
  | erase (sg lun mpb : Nat)
  /-- The read of a unit that a relocation, fold or collection moves (R232, R241, R243). -/
  | move (unit : Nat)
  /-- The read of a stripe member for a rebuild (R299): the codeword rebuilt and the member. -/
  | rebuild (cw member : Nat)
  /-- A read of the recovery ladder for a codeword: 0 a retry row (R193), else 1 + a strobe of a soft pass (R194). -/
  | ladder (cw strobe : Nat)
  /-- One copy of a system page (R217), and the erase of a system block (R472). -/
  | sysPage (page copy : Nat)
  | sysErase (lun blk : Nat)
  /-- RESET_LUN for the error entry whose action in place it begins (R294). -/
  | inPlace (eseq : Nat)
  /-- RECOVER of an INDETERMINATE LUN (R136, R220). -/
  | recover
  /-- A die temperature, feature, status or calibration operation of the channel (R114, R379). -/
  | chan
  /-- An erase, or the RECOVER before it, of SANITIZE (R415). -/
  | sanitize (lun mpb : Nat)
  /-- The program of a hold-up unit, and the erase of a hold-up block (R340, R346). -/
  | holdup (unit : Nat)
  | holdupErase (lun mpb : Nat)
  /-- A sweep read of the threshold table (R190). -/
  | sweep (lun grp ptype : Nat)
  deriving DecidableEq, Repr

/-- One flash operation, as OP_REQ carries it (R123, Table SEQ-3, R139). -/
structure Op where
  lun : Nat := 0
  tag : Nat := 0
  /-- 0..3; 4 is the background queue. -/
  cls : Nat := 4
  cop : Nat := 0
  col : Nat := 0
  row : Nat := 0
  addr : Nat := 0
  count : Nat := 0
  flags : Nat := 0
  offs : Nat := 0
  offsHi : Nat := 0
  arg : Nat := 0
  use : OpUse := .chan
  /-- First sector's expected LBA, one entry for each codeword: namespace, LBA (none where nothing is expected). -/
  expect : List (Option (Nat × Nat)) := []
  /-- The read takes predicted offsets (R185); a retry row, a strobe or a feature operation carries its own. -/
  pred : Bool := false
  /-- A sampled read-back: codeword k of plane page p, with k = p mod 4 (R204). -/
  sample : Bool := false
  deriving DecidableEq, Repr

/-- The outcome of an operation, as OP_RESULT carries it (R135, R177, R198, R199). -/
structure OpResult where
  tag : Nat := 0
  lun : Nat := 0
  /-- The class it ran with, which DEMOTE may have changed (R153). -/
  cls : Nat := 4
  code : Nat := 0
  v10 : Word := 0
  vr : Word := 0
  arrayT : Nat := 0
  suspCnt : Nat := 0
  /-- For each codeword: its decode outcome (Table CDC-5). -/
  outcomes : List Nat := []
  /-- For each codeword: its corrected bits and the iterations used (R177). -/
  bits : List (Nat × Nat) := []
  /-- Codewords whose corrected-bit count reached the early-warning threshold. -/
  early : List Nat := []
  maxBits : Nat := 0
  deriving DecidableEq, Repr

/-- 64 bytes of a codeword's sector, or its metadata, as one RDATA carries them (R13): the operation, the codeword's place, the
decode outcome, and whether the codeword's bytes end here. -/
structure RData where
  tag : Nat := 0
  index : Nat := 0
  outcome : Nat := 0
  last : Bool := true
  data : List Byte := []
  deriving DecidableEq, Repr

/-- What an EVENT message reports (Table ARC-2). -/
inductive EventBody where
  | seqFault (ch lun fault pc : Nat)
  | refresh (lun block sev : Nat)
  | memError (memid inst addr kind : Nat)
  /-- A calibration of the channel: 0 applied at a natural gap, 1 at a forced one, 2 implausible, 3 disagreed, 4 brought up; its temperature
  and results. -/
  | calDone (ch outcome : Nat) (temp : Int) (set : Option CalSet)
  | lunTimeout (lun : Nat)
  /-- Routines of the LUN ended without an END; their operations (R136). -/
  | lost (lun : Nat) (tags : List Nat)
  /-- An uncorrectable codeword, or one with a foreign tag (R177, R198). -/
  | uncorr (lun row k : Nat)
  | rateFailed (ch : Nat)
  deriving DecidableEq, Repr

/-- What a CTRL_REQ asks of the media side (R32, R436). -/
inductive CtrlBody where
  | chanRead (k : Nat) (hsel : BitVec 2)
  | chanWrite (k : Nat) (hsel : BitVec 2) (data : DWord)
  /-- A write to a Mirror register; `common`: this copy of it reaches media common too. -/
  | mirror (off : Nat) (val : Word) (common : Bool)
  /-- The LUN is isolated: its scheduler drops what it has queued (R297). -/
  | isolate (lun : Nat)
  /-- A calibration of a channel is asked for: 1 recalibration, 2 FULL, 3 CHECK (R388). -/
  | cal (ch kind : Nat)
  /-- A mailbox slot asks for a threshold entry: LUN, block group and page type (R425). -/
  | thr (slot lun grp page : Nat)
  deriving DecidableEq, Repr

/-- The contents of a hatch message (Table ARC-2). -/
inductive MsgBody where
  | opReq (op : Op)
  | opResult (r : OpResult)
  | wdata (fifo index tag len : Nat) (data : List Byte)
  | rdata (r : RData)
  | credit (stream n : Nat)
  /-- `cross`: a watermark has been crossed, true HI and false LO (R328). -/
  | fifoState (fifo : Nat) (pkts fill : Nat) (cross : Option Bool) (overrun : Bool)
  | release (unit : Nat) (pass : Bool)
  | event (e : EventBody)
  | ctrlReq (c : CtrlBody)
  | ctrlResp (k : Nat) (data : DWord)
  /-- Words for the patch RAM or the map, with the check bits of each pair of microwords (R71, R118). -/
  | patch (addr : Nat) (words : List Word) (chk : List (BitVec 15))
  | quiesce (ack : Bool)
  | holdup (kind n : Nat)
  /-- A count or value of media-side register bits [hi:lo]: op 0 adds n, 1 sets n, 2 raises to n. -/
  | stats (off hi lo n op : Nat)
  | trace (rec : DWord)
  | fault (group : Bool)
  deriving DecidableEq, Repr

/-- A message that its sender has given a SEQ and keeps until it is acknowledged (R15). -/
structure Msg where
  seq : Nat
  sends : Nat
  body : MsgBody
  /-- What injection did to the last transmission (Table FIJ-1): not sent, corrupted, or sent after the next message. -/
  lost : Bool := false
  bad : Bool := false
  late : Bool := false
  deriving DecidableEq, Repr

/-- One message stream of a hatch link: the sender's SEQ and its 64-message buffer, the messages waiting for room in
it, and the receiver's expected SEQ with its last answer (R15). DESIGN CHOICE (log 88): the first SEQ of a stream is 0 at both ends
after a start and after an ungate, and LINK answers are outside the streams and carry no SEQ of their own. -/
structure Stream where
  nextSeq : Nat := 0
  unacked : List Msg := []
  waiting : List MsgBody := []
  expect : Nat := 0
  /-- The receiver's last answer: true a negative acknowledge, and the SEQ it carries. -/
  reply : Option (Bool × Nat) := none
  /-- Messages handed over since the link started, and buffer credits that have come back for them (R13). -/
  given : Nat := 0
  credits : Nat := 0
  deriving DecidableEq, Repr

/-- One hatch link (R13, R16); streams 0 control down, 1 control up, 2 data down, 3 data up. -/
structure Link where
  streams : NMap Stream := []
  resetTimes : List Nat := []
  failed : Bool := false
  deriving DecidableEq, Repr

/-- Where a channel group stands in the power-down handshake (Table MOD-5, R90 to R92). -/
inductive GateStage where
  | off | on | handshake | gated | ungating
  deriving DecidableEq, Repr

/-- One channel group. -/
structure Group where
  stage : GateStage := .off
  reqAt : Nat := 0
  /-- QUIESCE has reached the group in this handshake (Table MOD-5 step 2). -/
  quiesced : Bool := false
  /-- Whether GATED is to be kept over DORMANT (Table MOD-3 step 5). -/
  keep : Bool := false
  /-- The HOLDUP message has reached the group (Table HUP-2 step 4). -/
  hup : Bool := false
  deriving DecidableEq, Repr

/-- A register-port access that waits for its CTRL_RESP (R32, R436). -/
structure PortWait where
  write : Bool
  left : Nat
  data : DWord
  deriving DecidableEq, Repr

/-- The register port: the last response (data and RP_ERR), and the access waiting on the hatch (R30 to R32). -/
structure RegPort where
  last : Option (DWord × Bool) := none
  wait : Option PortWait := none
  deriving DecidableEq, Repr

/-- An operation record of a sequencer (Table SEQ-2, Table SEQ-12). -/
structure Rec where
  op : Op := {}
  v : NMap Word := []
  pc : Nat := 0
  z : Bool := false
  c : Bool := false
  n : Bool := false
  f : BitVec 8 := 0
  sel : Nat := 0
  committed : Bool := false
  issued : Bool := false
  phase : Nat := 0
  /-- ARRAY_T in AO ticks up to the last stop, and the time it was last started. -/
  arrayAcc : Nat := 0
  arrayFrom : Option Nat := none
  /-- The time PROG_T was last set to zero. -/
  progFrom : Option Nat := none
  suspCnt : Nat := 0
  wake : Nat := 0
  vt : Nat := 0
  abrq : Bool := false
  sreq : Bool := false
  /-- The time the routine parked, and the time its wake condition came to hold. -/
  parkedAt : Option Nat := none
  wokenAt : Option Nat := none
  resumeOk : Bool := false
  polls : Nat := 0
  words : Nat := 0
  /-- POLL or DIN waits for its bytes from the bus: 1 they are on their way, 2 they are in their register. -/
  waitIn : Nat := 0
  /-- The next address was reached by a PC + 1 step from 0x0FFF (R121). -/
  badStep : Bool := false
  deriving DecidableEq, Repr

/-- One queued entry of a channel's bus engine (R124). -/
inductive BusEntry where
  | cmd (opc : Nat)
  | adr (bytes : List Nat)
  | outReg (bytes : List Nat)
  | out (addr len : Nat)
  | inp (addr len : Nat)
  /-- n bytes from the bus into register v of the routine. -/
  | inReg (v n : Nat)
  /-- A status read: its opcode, the row bytes where it is addressed to a LUN, and a status byte back. -/
  | status (opc : Nat) (row : List Nat)
  deriving DecidableEq, Repr

/-- A bus cycle in a channel's queue: the record that placed it and the LUN that SEL held (R124). -/
structure BusCycle where
  owner : Nat := 0
  lun : Nat := 0
  entry : BusEntry
  deriving DecidableEq, Repr

/-- How bring-up has set up a volume (Table CHN-2, R101): its appointed address, features 0x01, 0x02 and 0x10, and the ODT matrix where
it is configured. -/
structure VolCfg where
  appointed : Option Nat := none
  tmode : Nat := 0
  sig : Nat := 0
  rate : Nat := 0
  drv : Nat := 0
  odt : Option Nat := none
  zq : Bool := false
  deriving DecidableEq, Repr

/-- One channel: its sequencer, bus engine and state registers (R99 to R138). Records are numbered 2·lun for record A and
2·lun + 1 for record B. -/
structure Chan where
  recs : NMap Rec := []
  running : Option Nat := none
  patchRam : NMap Word := []
  /-- The check bits of each 64-bit word of it (R118). -/
  patchChk : NMap (BitVec 15) := []
  patchMap : List (Nat × Nat) := []
  wordCount : Nat := 0
  patchLost : Bool := false
  bus : List BusCycle := []
  /-- The cycles driven for the queue's front entry, a Volume Select before it included (R102), and the opcode last driven. -/
  wire : List BusEntry := []
  lastOpc : Nat := 0
  sr : Byte := 0
  /-- The calibration procedure to which the bus is lent, and its argument (R384). -/
  phy : Option (Nat × Nat) := none
  /-- Volumes as bring-up has set them up, by 4·e + v, and the command and address cycles it issued (Table CHN-2). -/
  vols : NMap VolCfg := []
  bring : List BusEntry := []
  curLun : Nat := 0
  pc : Nat := 0
  /-- Round-robin position among the channel's LUNs (R142). -/
  rr : Nat := 0
  /-- Last volume selected on each CE_n line, plus one; 0 none (R102). -/
  lastVol : NMap Nat := []
  ceLow : Option Nat := none
  /-- The level of each R/B_n line: low from a cycle that starts a busy time until RB_RISE (log 99). -/
  rbHigh : BitVec 4 := 0xF
  up : Bool := false
  degraded : Bool := false
  failed : Bool := false
  ext : Bool := false
  sig : Nat := 0
  rate : Nat := 0
  idFail : BitVec 16 := 0
  present : BitVec 16 := 0
  /-- For each fault bit raised, oldest first: the bit, LUN and PC (R138). -/
  faults : List (Nat × Nat × Nat) := []
  deriving DecidableEq, Repr

/-- The die scheduler of one LUN (R139 to R145). Queues 0..3 are the classes, 4 the background. -/
structure Sched where
  q0 : List Op := []
  q1 : List Op := []
  q2 : List Op := []
  q3 : List Op := []
  q4 : List Op := []
  /-- Operations that wait for one of the 16 places of their queue, and whether each goes to its front (R139). -/
  spill : List (Op × Bool) := []
  /-- The newest event that a routine posted: code and value (Table SEQ-4, EVT). -/
  posted : Option (Nat × Nat) := none
  /-- The operation chosen and not yet started. -/
  chosen : Option Op := none
  /-- Operations that each of queues 1..4 has had in this round. -/
  served1 : Nat := 0
  served2 : Nat := 0
  served3 : Nat := 0
  served4 : Nat := 0
  /-- The tag of the class-1 to class-3 read that asked for the suspend (R145). -/
  asker : Option Nat := none
  suspended : Bool := false
  /-- The time of the last class-0 command for this LUN and its arrival number (Table SCH-6, DEMAND). -/
  lastC0 : Option (Nat × Nat) := none
  /-- Reads counted as delayed for a slot (PRM_PAN_WAIT). -/
  slotWait : List Nat := []
  deriving DecidableEq, Repr

/-- An operation that the media side has begun: END's part of its OP_RESULT, and the codewords still to be decoded. -/
structure MediaOp where
  op : Op := {}
  ended : Option OpResult := none
  left : Nat := 0
  arrived : Nat := 0
  outcomes : NMap Nat := []
  /-- Corrected bits and iterations of each codeword (R177). -/
  bits : NMap (Nat × Nat) := []
  early : List Nat := []
  maxBits : Nat := 0
  /-- Codewords the read moves; those that converged at their first sense; and bits sensed 0 that decoded as 1 and the reverse,
  summed over these (R189). -/
  total : Nat := 0
  conv : Nat := 0
  eLo : Nat := 0
  eHi : Nat := 0
  /-- Dropped at HOLDUP entry: what it reads is DROPPED (R156, Table CDC-5). -/
  dead : Bool := false
  deriving DecidableEq, Repr

/-- A page-buffer slot in use (R159, R160): the pantry address of its plane page; a plane page to program, with its bytes once it is
encoded; or a plane page read, with its operation, LUN and the codewords lo..hi − 1 of it. -/
structure PbSlot where
  addr : Nat := 0
  prog : Bool := true
  data : List Byte := []
  tag : Nat := 0
  lun : Nat := 0
  lo : Nat := 0
  hi : Nat := 0
  /-- The credits that the data stream up has had back once every RDATA of it is credited. -/
  due : Nat := 0
  deriving DecidableEq, Repr

/-- Where a read codeword stands (R177, R192 to R196). -/
inductive CwState where
  | hardQ | hard | tableWait | rowWait | softWait | softSense | softQ | soft
  deriving DecidableEq, Repr

/-- The input of a soft decode (R175, R194): the sign of each bit, the bits on which the three strobes agree, and the magnitudes of the
bits that agree and of the others. -/
structure SoftIn where
  sign : List Byte := []
  agree : List Byte := []
  strong : Nat := 3
  weak : Nat := 1
  deriving DecidableEq, Repr

/-- A read codeword from its bus transfer to its outcome. -/
structure Codeword where
  tag : Nat := 0
  index : Nat := 0
  lun : Nat := 0
  row : Nat := 0
  k : Nat := 0
  cls : Nat := 4
  verify : Bool := false
  expect : Option (Nat × Nat) := none
  st : CwState := .hardQ
  /-- The ladder step of the decode in hand: 0 first read, 1 step E, 2 + r retry row r, 100 + p soft pass p. -/
  step : Nat := 0
  rowsTried : List Nat := []
  /-- The offsets of the sense in hand and of the best sense, with the latter's unsatisfied checks (R194). -/
  ofs : List Int := []
  bestOfs : List Int := []
  bestChecks : Option Nat := none
  bestRow : Option Nat := none
  /-- The bytes of the sense in hand, the decoder's input decisions; the strobes received, by number; and the soft input (R194). -/
  raw : List Byte := []
  strobes : NMap (List Byte) := []
  soft : Option SoftIn := none
  /-- Operations of the ladder in whose slots these bytes stand (R160). -/
  src : List Nat := []
  /-- The iteration limits of the decoder since it took the codeword, without and with step E, and the iterations run (R174). -/
  lim : Nat := 1
  ext : Nat := 1
  iters : Nat := 0
  enteredAt : Nat := 0
  slc : Bool := false
  /-- The retry sense or strobe whose data it waits for. -/
  lop : Option Nat := none
  /-- The first sense was injected (R432). -/
  injected : Bool := false
  /-- It holds an entry of the recovery table (R196). -/
  inTable : Bool := false
  deriving DecidableEq, Repr

/-- The pantry's page-buffer slots and the decoder pool (R159, R160, R176). -/
structure Codec where
  /-- What DIN of an operation other than a read has brought, by pantry address. -/
  bufs : NMap (List Byte) := []
  /-- The slots in use, by number: 4·c to 4·c + 3 are the class-0 read buffer of channel c (R149, R159). -/
  slots : NMap PbSlot := []
  total : Nat := 0
  /-- The unit whose plane page the encoder of each channel has in hand (R160, R173). -/
  enc : NMap Nat := []
  fifoBytes : Nat := 0
  c0Bytes : Nat := 0
  pbBytes : Nat := 0
  cws : NMap Codeword := []
  nextCw : Nat := 1
  mops : NMap MediaOp := []
  /-- Operations that media common has issued itself: the next one's number. -/
  nextIop : Nat := 0
  /-- Round-robin position of the decoder pools among the channels (R176). -/
  rr : Nat := 0
  /-- Decoders busy, summed over the AO ticks since PRM_CDC_UTIL was last read, and the time of that read. -/
  hardBusy : Nat := 0
  softBusy : Nat := 0
  utilFrom : Nat := 0
  deriving DecidableEq, Repr

/-- A refresh candidate in the 60 s filter (R200). -/
structure Cand where
  target : Nat
  sev : Nat
  at_ : Nat
  deriving DecidableEq, Repr

/-- A sweep of one page type of a block group (R190): reads still to end, the corrected bits at the prediction, and the best
row with its corrected bits. -/
structure Sweep where
  left : Nat := 0
  pred : Option Nat := none
  best : Option (Nat × Nat) := none
  deriving DecidableEq, Repr

/-- The read recovery unit (R181 to R200). Table entries are keyed 64·lun + 4·group + page type, the SLC type 3. -/
structure Rrc where
  table : NMap ThrEntry := []
  /-- Correction rows, 8 bytes each, keyed 16·profile + 8·table + bin (R184). -/
  corr : NMap (BitVec 64) := []
  /-- The offset last written to each level of each LUN, where it is known (R186). -/
  lastOfs : NMap (List (Option Int)) := []
  filter : List Cand := []
  sweptAt : NMap Nat := []
  sweeps : NMap Sweep := []
  savedAge : Nat := 0
  savedTable : NMap ThrEntry := []
  deriving DecidableEq, Repr

/-- What a system page holds (Table XLT-1). -/
inductive SysKind where
  | journal | checkpoint | threshold | mapSegs (ns : Nat) | epoch | directory
  deriving DecidableEq, Repr

/-- A system page being written: the LUNs of its copies and the outcome of each (R217, R225). -/
structure SysPage where
  kind : SysKind := .journal
  entries : List JEntry := []
  luns : List Nat := []
  oks : NMap Bool := []
  /-- What the record carries: the journal's next JSEQ as it was assembled. -/
  upTo : Nat := 0
  /-- Copies that wait for room in their LUN's log. -/
  wait : List Nat := []
  /-- The record is written again at the head of its LUN's log (R236, R472). -/
  carry : Bool := false
  deriving DecidableEq, Repr

/-- The two logs of a LUN's system blocks (R472): the open block and its next page, and the records not superseded. -/
structure SysLog where
  dirBlk : Nat := 1
  dirPage : Option Nat := none
  recBlk : Nat := 7
  recPage : Option Nat := none
  erasing : List Nat := []
  live : List (Nat × SysKind × Nat) := []
  deriving DecidableEq, Repr

/-- The copy of a member's DURABLE units into the spare of its retired block (R223, R461). -/
structure CopyJob where
  lun : Nat := 0
  src : Nat := 0
  dst : Nat := 0
  sbn : Nat := 0
  member : Nat := 0
  next : Nat := 0
  rows : Nat := 0
  unit : Option Nat := none
  /-- The JSEQ of RETIRE, which is written before the spare is programmed. -/
  jseq : Nat := 0
  eseq : Option Nat := none
  deriving DecidableEq, Repr

/-- The row parity gathered so far: data units whose bytes are in it, and the sum of each sector (R227). -/
structure ParAcc where
  units : Nat := 0
  sectors : List (List Byte) := []
  deriving DecidableEq, Repr

/-- A block found ERASE_INCOMPLETE, or whose erase runs: superblock group, superblock, LUN and multi-plane block. -/
structure EraseJob where
  sg : Nat := 0
  /-- The superblock being erased; none where a block is erased alone. -/
  sb : Option Nat := none
  lun : Nat := 0
  mpb : Nat := 0
  attempts : Nat := 0
  issued : Bool := false
  jseq : Nat := 0
  suspended : Bool := false
  protects : Nat := 0
  eseq : Option Nat := none
  cls : Nat := 4
  deriving DecidableEq, Repr

/-- The attempts at the erase of a system or hold-up block (Table PGM-3): TIMEOUT and PROTECT ends, the error entry, and the operation. -/
structure SysTry where
  timeouts : Nat := 0
  protects : Nat := 0
  eseq : Nat := 0
  op : Op := {}
  deriving DecidableEq, Repr

/-- The program and erase verification unit and the intent journal (R201 to R223). -/
structure Pgm where
  units : NMap PUnit := []
  nextUnit : Nat := 1
  nextJseq : Nat := 1
  /-- Entries not yet in a page, oldest first, and the time of the oldest. -/
  buf : List JEntry := []
  bufSince : Nat := 0
  /-- Entries up to this JSEQ are to be written at once (R214). -/
  force : Nat := 0
  pages : NMap SysPage := []
  nextPage : Nat := 1
  logs : NMap SysLog := []
  rot : Nat := 0
  written : Nat := 0
  /-- Superblock → first row not covered by PROG_HWM, and the JSEQ that carries it. -/
  hwm : NMap (Nat × Nat) := []
  erases : List EraseJob := []
  incomplete : List (Nat × Nat) := []
  retired : List (Nat × Nat) := []
  /-- Spares in use that have not been erased (R201). -/
  raw : List (Nat × Nat) := []
  /-- Blocks to be retired once no pin holds them (R223), with the error entry. -/
  toRetire : List (Nat × Nat × Option Nat) := []
  copies : List CopyJob := []
  par : NMap ParAcc := []
  /-- LUNs whose RECOVER has ended OK, with the JSEQ of their SETTLED entry (R220). -/
  settling : NMap Nat := []
  /-- A CHECKPOINT is asked for; CHECKPOINTs assembled so far; the newest one written; and the JSEQ of the one in the
  buffer. -/
  ckptWanted : Bool := false
  ckptAsm : Nat := 0
  ckptDone : Nat := 0
  ckptPending : Option Nat := none
  /-- JSEQ of the newest written CHECKPOINT: entries before it are dead (R218). -/
  ckptJseq : Nat := 0
  sysOps : Nat := 0
  /-- Erases of system and hold-up blocks that have not ended OK yet, by LUN and block. -/
  sysTries : NMap SysTry := []
  deriving DecidableEq, Repr

/-- One entry of the refresh queue (R236). -/
structure RefreshEntry where
  sbn : Nat
  sev : Nat
  stamp : Nat
  deriving DecidableEq, Repr

/-- One line of the map cache (R246, R247). -/
structure CacheLine where
  data : List Nat := []
  dirty : Bool := false
  gen : Nat := 0
  valid : Bool := false
  used : Nat := 0
  /-- The generation that the fill in flight carries. -/
  filling : Option Nat := none
  /-- An invalidate waits for that fill (R247). -/
  inval : Bool := false
  /-- The line has its data and waits for room in its set: the victim buffer is full. -/
  here : Bool := false
  deriving DecidableEq, Repr

/-- A collection in progress on a RANDOM pool (R243). -/
structure GcJob where
  sbn : Nat := 0
  /-- The data unit being read, and the unit that its sectors go to. -/
  next : Nat := 0
  reading : Option Nat := none
  filling : Option Nat := none
  units : List Nat := []
  deriving DecidableEq, Repr

/-- Translation, map cache, wear and blocks (R224 to R248). Superblocks are keyed by SBN (R226); zones and rings by stripe
group. Map entries are keyed 2^48·namespace + LBA, an unlisted entry being unmapped. -/
structure Xlt where
  rings : NMap Ring := []
  remap : NMap (List (Nat × Nat)) := []
  erases : NMap Nat := []
  sbs : NMap SbInfo := []
  refresh : List RefreshEntry := []
  folds : List (Nat × Nat) := []
  map : NMap Nat := []
  lost : List (Nat × Nat) := []
  /-- Map segments changed since the last map checkpoint of their namespace. -/
  dirtySegs : List (Nat × Nat) := []
  lines : NMap CacheLine := []
  /-- The write sequence number that each map entry was last changed with. -/
  mapSeq : NMap Nat := []
  /-- Map checkpoints assembled, and the newest written, of each namespace (R244). -/
  mapAsm : NMap Nat := []
  mapDone : NMap Nat := []
  victims : List Nat := []
  mcBusy : Bool := false
  clock : Nat := 0
  gc : NMap (Option GcJob) := []
  openSb : NMap (Option Nat) := []
  lowSpare : Bool := false
  minSpares : Nat := 0
  lastScan : Nat := 0
  /-- Host sectors written and sectors programmed over the life of the medium (STAT_LIFE). -/
  hostSecs : Nat := 0
  progSecs : Nat := 0
  ckptAge : NMap Nat := []
  indet : NMap Bool := []
  deriving DecidableEq, Repr

/-- One submission queue beyond its set-up registers (R250 to R258, R281). -/
structure SubQ where
  head : Nat := 0
  tail : Nat := 0
  /-- Next slot to ask for: ahead of head by the entry reads outstanding. -/
  ask : Nat := 0
  inflight : Nat := 0
  stopped : Bool := false
  rst : Bool := false
  clearEn : Bool := false
  dbAt : Nat := 0
  /-- A doorbell recorded and not yet acted on (R86, R303). -/
  kept : Option Nat := none
  /-- The fetch period: answers of an earlier one are discarded (R469). -/
  period : Nat := 0
  /-- Entries whose read has been accepted before that of an earlier slot of the queue, by slot. -/
  got : NMap (List Byte) := []
  deriving DecidableEq, Repr

/-- One completion queue beyond its set-up registers (R254 to R256). -/
structure ComplQ where
  tail : Nat := 0
  head : Nat := 0
  phase : Bool := true
  /-- Arrival numbers of released completions that wait for room. -/
  waiting : List Nat := []
  sinceClear : Nat := 0
  firstAt : Option Nat := none
  afterPend : Nat := 0
  stopped : Bool := false
  keptHead : Option Nat := none
  deriving DecidableEq, Repr

/-- Where a command stands. -/
inductive CmdState where
  | fetched | running | finished | writing | released
  deriving DecidableEq, Repr

/-- Where a sector of an Observe command comes from (R284). -/
inductive Source where
  | word (arr : Nat) (off : Nat)
  | flash (lun row k : Nat) (slc : Bool)
  | unmapped
  | lost
  /-- The sector has its outcome. -/
  | done
  deriving DecidableEq, Repr

/-- A descriptor in hand (Table DMA-1). -/
structure Descr where
  at_ : Nat := 0
  addr : Nat := 0
  len : Nat := 0
  eop : Bool := false
  barrier : Bool := false
  hw : Nat := 6
  fix : Bool := false
  tail : Bool := false
  link : Nat := 0
  deriving DecidableEq, Repr

/-- The rail's record of a command (R283), with what the front end and the ladle note of it. -/
structure Cmd where
  sq : Nat := 0
  cid : Nat := 0
  opc : Nat := 0
  flags : Nat := 0
  cls : Nat := 3
  demoted : Bool := false
  /-- The namespace was locked when the command arrived (R406, R409). -/
  locked : Bool := false
  ns : Nat := 0
  lba : Nat := 0
  nlb : Nat := 0
  dmode : Nat := 0
  ctx : Nat := 0
  dptr : Nat := 0
  arg0 : Nat := 0
  arg1 : Nat := 0
  entry : List Byte := []
  st : CmdState := .fetched
  doorbell : Nat := 0
  epoch : Nat := 0
  /-- EPOCH_SYNC edges that have advanced the epoch since the command arrived and before it was checked (R304). -/
  edges : Nat := 0
  wseq : Nat := 0
  /-- Hazard kind: 0 none, 1 Observe, 2 Change (Table ORD-1). -/
  kind : Nat := 0
  start : Nat := 0
  len : Nat := 0
  status : Nat := 0
  result : Nat := 0
  cflags : Nat := 0
  /-- Sectors accepted into the pantry, and those whose data is DURABLE. -/
  accepted : Nat := 0
  dur : NMap Bool := []
  staged : Bool := false
  durable : Bool := false
  moved : Bool := false
  /-- The FIFO of a write's data (R310), and the sectors that it will place (R281). -/
  path : Option Nat := none
  need : Nat := 0
  /-- Its undrawn data is discarded by a zone reset (R473). -/
  discard : Bool := false
  /-- The ladle has begun to move its data (R281). -/
  ladled : Bool := false
  /-- A descriptor chain of the read path (R309, R316): the address being read, the descriptors in hand, and their bytes. -/
  chain : Option Nat := none
  descs : List Descr := []
  chainBytes : Nat := 0
  /-- Every barrier that ends at or before this byte has been passed (R317). -/
  barr : Nat := 0
  sources : List Source := []
  /-- Sectors of a READ or VERIFY still without an outcome. -/
  left : Nat := 0
  /-- The lowest LBA under each error status met so far. -/
  errs : List (Nat × Nat) := []
  purpose : Option Nat := none
  aborted : Bool := false
  waitJseq : Option Nat := none
  deriving DecidableEq, Repr

/-- One error-queue entry (Table ORD-4). -/
structure EqEntry where
  eseq : Nat := 0
  resolved : Bool := false
  nest : Nat := 1
  typ : Nat := 0
  lun : Nat := 0xFFF
  unit : Nat := 0
  outcome : Nat := 0
  parent : Option Nat := none
  /-- The outcome that its recovery has ended with, until it can resolve (R294). -/
  fin : Option Nat := none
  /-- The action in place that it begins when it is the first OPEN entry of its LUN (R294): RESET_LUN, then the attempt
  again of a unit (true, unit) or of an erase (false, block). -/
  act : Option (Bool × Nat) := none
  started : Bool := false
  deriving DecidableEq, Repr

/-- An extended-custody region (R277). -/
structure Region where
  addr : Nat
  len : Nat
  /-- The registration's arrival number: the order of registration (R340). -/
  arr : Nat := 0
  deriving DecidableEq, Repr

/-- The queue front end (R250 to R282). -/
structure Cq where
  sqs : NMap SubQ := []
  cqs : NMap ComplQ := []
  nextArr : Nat := 1
  rr0 : Nat := 0
  rr1 : Nat := 0
  zones : NMap Zone := []
  regions : NMap Region := []
  nextWseq : Nat := 1
  deriving DecidableEq, Repr

/-- A rebuild from row parity in progress (R299): what waits for it, the reads outstanding, and the sum so far. -/
structure Rebuild where
  /-- A command's sector (arrival, sector), or a unit's sector (unit, sector). -/
  cmd : Option (Nat × Nat) := none
  unit : Option (Nat × Nat) := none
  left : Nat := 0
  acc : List Byte := []
  bad : Bool := false
  isol : Bool := false
  deriving DecidableEq, Repr

/-- An operation whose OP_RESULT has come while RDATA of it is still on its way. -/
structure LateOp where
  op : Op := {}
  left : Nat := 0
  early : List Nat := []
  deriving DecidableEq, Repr

/-- The ordering engine (R283 to R306). Commands are keyed by arrival number, operations by tag. -/
structure Ord where
  cmds : NMap Cmd := []
  ops : NMap Op := []
  nextTag : Nat := 1
  /-- Operations that wait for room in their LUN's scheduler queue, for a journal page, or for an ungate. -/
  held : List (Nat × Op) := []
  eq : List EqEntry := []
  epoch : Nat := 0
  quiesce : Bool := false
  ready : Bool := false
  holdPeak : Nat := 0
  rebuilds : NMap Rebuild := []
  nextRebuild : Nat := 1
  /-- Sectors whose RDATA has come before their OP_RESULT, by tag; and operations whose OP_RESULT has come before the RDATA of
  some of their sectors, with the number of those. -/
  rdGot : NMap (List Nat) := []
  /-- Bytes of the sector whose RDATA messages are arriving, by 256·tag + codeword. -/
  rdParts : NMap (List Byte) := []
  late : NMap LateOp := []
  deriving DecidableEq, Repr


/-- What a memory-port purpose is for (R29, R467). -/
inductive PurpKind where
  /-- SQ q: n entries from slot `slot`, asked for in fetch period `ep` (R258, R469). -/
  | sqFetch (q slot n ep : Nat)
  /-- The completion entry of a command. -/
  | cqWrite (cq arr : Nat)
  /-- The data, or the descriptors, of a command. -/
  | cmd (arr : Nat)
  /-- Context k's own chain (STREAM). -/
  | ctx (k : Nat)
  | mapFill (line gen : Nat)
  | mapWb (line : Nat)
  | work
  | capsule
  /-- The read of custody region h during HOLDUP, all of it one purpose (R340, R467). -/
  | custody (h : Nat)
  /-- The write-back of region h at restoration (R348). -/
  | restore (h : Nat)
  /-- A host buffer of mailbox slot s. -/
  | mailbox (s : Nat)
  /-- Poisoned words of FIFO k, read again (Table MEM-2). -/
  | again (k : Nat)
  deriving DecidableEq, Repr

/-- What one request's data is, within its purpose. -/
inductive ReqUse where
  | entry | completion | data | descr | link | rdata | fill | other
  deriving DecidableEq, Repr

/-- A purpose of the memory ports: whether it has failed (and how), its outstanding requests, the bytes read. -/
structure Purp where
  kind : PurpKind := .work
  failed : Bool := false
  lost : Bool := false
  reqs : Nat := 0
  bytes : List Byte := []
  deriving DecidableEq, Repr

/-- One memory-port request (R25): its place in its purpose, its data so far, and its reissue state (R28). -/
structure Req where
  purp : Nat := 0
  use : ReqUse := .other
  write : Bool := false
  addr : Nat := 0
  beats : Nat := 1
  gen : Nat := 0
  reissues : Nat := 0
  nextBeat : Nat := 0
  /-- A read's bytes so far; a write's bytes. -/
  data : List Byte := []
  qfo : Nat := 0
  qle : Nat := 63
  issuedAt : Nat := 0
  /-- The wait of 1 µs before a reissue runs (R28). -/
  again : Bool := false
  /-- Injection has corrupted or reordered the response of this issue (Table FIJ-1, p = 1). -/
  inj : Bool := false
  /-- What the request is about: the burst, the byte offset, or the sector. -/
  tagA : Nat := 0
  tagB : Nat := 0
  cls : Nat := 3
  deriving DecidableEq, Repr

/-- One flit of a request lane (Table PRT-2): the header of its request, and a beat of write data with its parity. -/
structure Flit where
  first : Bool := true
  adr : Nat := 0
  cnt : Nat := 0
  tag : Nat := 0
  gen : Nat := 0
  fo : Nat := 0
  le : Nat := 0
  data : List Byte := []
  par : BitVec 64 := 0
  deriving DecidableEq, Repr

/-- The flits of a request that are still to be sent, and how many it has in all (R24, R25). -/
structure Sending where
  tag : Nat := 0
  flits : List Flit := []
  total : Nat := 1
  deriving DecidableEq, Repr

/-- One memory port: 0..3 MPR, 4..7 MPW (R24 to R28, R93, R94). Outstanding requests are keyed by tag. -/
structure MPort where
  credits : Nat := 0
  out : NMap Req := []
  gens : NMap Nat := []
  sendq : List Sending := []
  /-- The flit last driven on the request lane. -/
  lane : Option Flit := none
  pdreq : Bool := false
  pdack : Bool := false
  withdrawn : Bool := false
  deriving DecidableEq, Repr

/-- The memory ports (R24 to R29). -/
structure Mp where
  ports : NMap MPort := []
  purps : NMap Purp := []
  nextPurp : Nat := 1
  /-- Requests that wait for a usable port or a free tag. -/
  wait : List Req := []
  deriving DecidableEq, Repr

/-- The spindle link (R37, R38). DESIGN CHOICE (log 91): `seq` is 0 before the first command, so the first command has SEQ 1. -/
structure Spl where
  seq : Nat := 0
  lastCmd : Word := 0
  /-- SPL_CMD_VALID: the host chip has not accepted `lastCmd` yet; OP and ALPHA of the newest command that waits for that. -/
  valid : Bool := false
  next : Option (Nat × Nat) := none
  status : Word := 0
  lastAt : Option Nat := none
  braking : Bool := false
  stopped : Bool := false
  fault : Bool := false
  omega : Nat := 0
  lost : Bool := false
  ackSeen : Bool := false
  deriving DecidableEq, Repr

/-- A burst that a context or command has outstanding: bytes to skip and use of its beats, then the data. -/
structure Burst where
  id : Nat := 0
  addr : Nat := 0
  skip : Nat := 0
  len : Nat := 0
  data : Option (List Byte) := none
  eop : Bool := false
  /-- The last burst of a paced request (R313). -/
  last : Bool := false
  descEnd : Bool := false
  /-- FIFO words reserved for it (R311). -/
  words : Nat := 0
  deriving DecidableEq, Repr

/-- One ladle context (R308 to R322). -/
structure DmaCtx where
  /-- 0 IDLE, 1 RUN, 2 TAIL-WAIT, 3 PAUSING, 4 PAUSED. -/
  state : Nat := 0
  kickPend : Bool := false
  pend : Nat := 0
  hold : List Byte := []
  desc : Option Descr := none
  cur : Nat := 0
  rem : Nat := 0
  /-- The address of the descriptor to read next, and whether a read of it is outstanding. -/
  next : Option Nat := none
  reading : Bool := false
  tailAt : Nat := 0
  bursts : List Burst := []
  nextBurst : Nat := 0
  /-- Bytes of the started quantum still to be asked for (R313). -/
  quantum : Nat := 0
  /-- The state that a pause interrupted. -/
  before : Nat := 0
  /-- COMMAND: the command in hand, and bytes of it still to be asked for. -/
  cmd : Option Nat := none
  cmdLeft : Nat := 0
  /-- Bytes of the packet in hand emitted so far, modulo nothing. -/
  pktBytes : Nat := 0
  /-- Bytes of an OVERRUN quantum still to be passed over (R326), and a barrier to wait for (R317). -/
  skip : Nat := 0
  barr : Bool := false
  /-- The purpose of its descriptor and data reads. -/
  purp : Option Nat := none
  /-- DACK pulses given, and for each request whose words are still on their way the words that its pulse waits for (R34). -/
  dacks : Nat := 0
  dackAt : List Nat := []
  deriving DecidableEq, Repr

/-- A sector assembled from a FIFO's words (R325): its first word, the bytes of that word that belong to the sector before
it, and the word after its last. -/
structure FSec where
  first : Nat := 0
  off : Nat := 0
  stop : Nat := 0
  /-- A zero sector that ALIGN 2 places. -/
  zero : Bool := false
  /-- The command that takes it, and its sector of that command. -/
  arr : Option Nat := none
  idx : Nat := 0
  /-- The unit that has drawn it, and whether that unit is released. -/
  unit : Option Nat := none
  rel : Bool := false
  deriving DecidableEq, Repr

/-- One ingest FIFO (R323 to R328). Words are numbered from the FIFO's set-up; MARK is the first word still held, RD the
next word to draw, WR the next word to be written, and `sent` the next word that the SoC side hands over. -/
structure Fifo where
  words : NMap FWord := []
  /-- Where the bytes of the FIFO's words came from: the position, the host address and the length of each run (Table MEM-2). -/
  src : List (Nat × Nat × Nat) := []
  sent : Nat := 0
  wr : Nat := 0
  rd : Nat := 0
  mark : Nat := 0
  /-- The time the oldest mark was set (R340). -/
  markAt : Nat := 0
  /-- Words reserved by issued bursts, beyond `sent`. -/
  resv : Nat := 0
  /-- The next word to assemble, with the bytes of it already taken, and the bytes gathered since the packet began. -/
  asm : Nat := 0
  asmOff : Nat := 0
  /-- Sectors assembled so far, for the plane pages of ALIGN 2, and the ALIGN in force for the packet in hand. -/
  count : Nat := 0
  align : Nat := 0
  secs : List FSec := []
  /-- Commands that take the FIFO's sectors, in arrival order. -/
  takers : List Nat := []
  /-- Slices of the class-0 write share linked in (R323): the first word of each, and its words written or reserved. -/
  shares : List (Nat × Nat) := []
  /-- Share slices behind MARK, each with the units of its data: the share has a slice back once they are DURABLE (R149). -/
  owed : List (List Nat) := []
  xoff : Bool := false
  /-- Streams bound: zones as 2·(2^24·ns + zone), RANDOM streams as 2·(4·ns + class) + 1. -/
  bound : List Nat := []
  /-- PKTS as the last FIFO_STATE message reported it (R13, R325). -/
  pkts : Nat := 0
  rewinding : Bool := false
  /-- Error entries whose recovery is the drawing again of the words before a position (R295). -/
  recov : List (Nat × Nat) := []
  deriving DecidableEq, Repr

/-- The ladle (R308 to R329). -/
structure Dma where
  ctxs : NMap DmaCtx := []
  fifos : NMap Fifo := []
  /-- Round-robin positions of the four priority levels, and grants each has had in this round. -/
  rr : NMap Nat := []
  grants : NMap Nat := []
  /-- Sector writes of the read path waiting for a burst: arrival, sector, host address parts and bytes. -/
  rdq : List (Nat × Nat × List Byte) := []
  deriving DecidableEq, Repr

/-- A stripe group of a NAMESPACE section (Table XLT-4). -/
structure SgRow where
  sg : Nat := 0
  d : Nat := 1
  f : Nat := 0
  blo : Nat := 0
  bhi : Nat := 0
  deriving DecidableEq, Repr

/-- A NAMESPACE section (Table XLT-4). -/
structure NsSec where
  present : Bool := false
  random : Bool := false
  verify : Nat := 0
  prot : Bool := false
  unwErr : Bool := false
  par : Nat := 0
  width : Nat := 8
  g : Nat := 1
  lbaCount : Nat := 0
  refreshDays : Nat := 0
  ewLimit : Nat := 1
  mapCkpt : Nat := 1
  groups : List SgRow := []
  deriving DecidableEq, Repr

/-- The configuration loader, the loaded image and the patch intake (R51 to R77). -/
structure Cfg where
  done : Bool := false
  failed : Bool := false
  fallback : Bool := false
  slot : Nat := 0
  cause : Nat := 0
  gen : Nat := 0
  serial : Nat := 0
  wipForced : Bool := false
  patchReq : Bool := false
  autoWarm : Bool := false
  zeroUnwErr : Bool := false
  patchTargets : Nat := 0
  patchWait : Nat := 0
  workBase : Nat := 0
  workSize : Nat := 0
  fifoPool : Nat := 0
  c0Share : Nat := 0
  hkWdt : Nat := 0
  profiles : NMap (List Byte) := []
  chanMap : List Byte := []
  nss : NMap NsSec := []
  loops : NMap (List Byte) := []
  thermal : List Byte := []
  holdup : List Byte := []
  calSec : List Byte := []
  user : List (Nat × List Byte) := []
  /-- The GENs of slots A and B, where their commit records are valid (R75). -/
  genA : Option Nat := none
  genB : Option Nat := none
  /-- The loaded slot's image (R65). -/
  image : List Byte := []
  /-- From SFDP: the density, 4-byte addressing, and the highest XSPI_SCK in MHz (R52, R445). -/
  density : Nat := 1048576
  addr4 : Bool := false
  sckMhz : Nat := 0
  pBusy : Bool := false
  pSeqOk : Bool := false
  pHkOk : Bool := false
  pMissing : Bool := false
  pCount : Nat := 0
  pResult : Nat := 0
  pLen : Nat := 0
  pPurp : Option Nat := none
  /-- The capsule whose reading has ended: its bytes, or none where the read failed. -/
  pBytes : Option (List Byte) := none
  pRead : Bool := false
  /-- A sequencer capsule's PATCH messages are on their way (R71). -/
  pInst : Bool := false
  /-- DONE or the end of PATCH_WAIT has come while a capsule was BUSY (R72, log 75). -/
  pEnd : Bool := false
  hkPatch : List Byte := []
  /-- VERSION of the housekeeper capsule accepted, 0 where there is none. -/
  hkVersion : Nat := 0
  /-- Bytes of a slot of the configuration flash (R53). -/
  slotBytes : Nat := 524288
  deriving DecidableEq, Repr


/-- One hold-up sector (R344): its source and index, as its LBA field carries them, its bytes. -/
structure HupSector where
  src : Nat := 0
  index : Nat := 0
  data : List Byte := []
  /-- Requests for its bytes still to be answered. -/
  left : Nat := 0
  /-- The region, or the FIFO, and the byte offset, or the first word. -/
  region : Nat := 0
  off : Nat := 0
  /-- The FIFO words, or the records, that it carries. -/
  words : List FWord := []
  recs : List HupRec := []
  deriving DecidableEq, Repr

/-- A piece of custody still to be saved, in the order of R340: words of a FIFO, records, or region bytes. -/
inductive HupItem where
  | words (fifo first count : Nat)
  | records (rs : List HupRec)
  | region (h off len : Nat)
  deriving DecidableEq, Repr

/-- A hold-up program unit that is on its way to the zone. -/
structure HupUnit where
  lun : Nat := 0
  sectors : List HupSector := []
  manifest : Bool := false
  deriving DecidableEq, Repr

/-- The hold-up unit (R331 to R348). Energies are in µJ, powers in mW. -/
structure Hup where
  /-- A HOLDUP sequence has begun and its step 9 has not come (R339). -/
  running : Bool := false
  /-- HOLDUP follows R84: nothing is saved. -/
  empty : Bool := false
  saving : Bool := false
  /-- The manifest has been issued (step 8). -/
  ended : Bool := false
  short : Bool := false
  latchAt : Nat := 0
  level : Nat := 0
  eKtl : Nat := 0
  eSpl : Nat := 0
  pSpl : Nat := 0
  bound : Nat := 0
  count : Nat := 0
  todo : List HupItem := []
  /-- Sectors taken from `todo`, in order, some of them waiting for a region read. -/
  queue : List HupSector := []
  /-- Next index of each source. -/
  index : NMap Nat := []
  units : NMap HupUnit := []
  nextUnit : Nat := 0
  /-- SLC units placed on each hold-up LUN so far, and the turn of the channels. -/
  placed : NMap Nat := []
  turn : Nat := 0
  saved : Nat := 0
  regionSaved : NMap Nat := []
  /-- The purpose of each region's reads (R467). -/
  regionPurp : NMap Nat := []
  lostRegions : List Nat := []
  manifest : Manifest := {}
  copies : Nat := 0
  zoneBytes : Nat := 0
  armed : Bool := false
  chargeEn : Bool := false
  /-- Health check phase: 0 none, 1 droop, 2 step, 3 recovery (R337), and the time it began. -/
  phase : Nat := 0
  phaseAt : Nat := 0
  esr : Nat := 0
  cMeas : Nat := 0
  checkMin : Nat := 0
  /-- The age clock at the last health check that passed (PRM_HUP_ESR.AGE_H). -/
  goodMin : Option Nat := none
  /-- Restoration of a HOLDUP (R346). -/
  restore : Option Manifest := none
  waiting : Bool := false
  step4 : Bool := false
  /-- Purposes of region write-backs still open, and hold-up erases still to end. -/
  writesLeft : Nat := 0
  eraseLeft : Nat := 0
  /-- The JSEQ of the HOLDUP entry that ends the sequence (step 8), or that restoration waits for (R346 step 4). -/
  doneJ : Nat := 0
  /-- COVER fell in a run mode and has not returned: no write-direction burst is issued (R335). -/
  coverStop : Bool := false
  /-- Hold-up blocks that restoration is to erase. -/
  dirty : List (Nat × Nat) := []
  /-- Where restoration stands: 0 not begun, 1 the units, 2 the regions, 3 the RESTORED entry, 4 the erases, 5 COVER (R346). -/
  rstep : Nat := 0
  deriving DecidableEq, Repr

/-- A stage's state vector: mantissas sharing the exponent e (R360). -/
structure StageSt where
  e : Nat := 7
  m0 : Int := 0
  m1 : Int := 0
  m2 : Int := 0
  deriving DecidableEq, Repr

/-- A relay auto-tune in progress (R371). -/
structure Tune where
  high : Bool := true
  /-- Samples since the tune began, and the sample numbers at which the relay went high. -/
  n : Nat := 0
  ups : List Nat := []
  lo : Int := 32767
  hi : Int := -32768
  /-- Peak-to-peak values of the measured periods. -/
  pps : List Int := []
  deriving DecidableEq, Repr

/-- One loop slot (R355 to R371). -/
structure Slot where
  /-- A LOOP section names the slot. -/
  sect : Bool := false
  /-- The 48 halfwords of the section image. -/
  img : List (BitVec 16) := List.replicate 48 0
  st : Nat := 0
  out : Int := 0
  stages : NMap StageSt := []
  /-- 1: the output was held at OUT_MAX or forced, -1: at OUT_MIN, 0: neither. -/
  held : Int := 0
  /-- The next closed sample is the first since OPEN or FALLBACK, and the output it takes over (R364). -/
  bump : Option Int := none
  good : Nat := 0
  pvs : List Int := []
  outNonzero : Nat := 0
  tune : Option Tune := none
  trace : NMap (List Int) := []
  /-- The place of the oldest sample in the slot's buffer (MODE 2 overwrites it). -/
  traceAt : Nat := 0
  skip : Nat := 0
  /-- The time of the last sample that R367 counts. -/
  lastAt : Nat := 0
  tracing : Bool := false
  deriving DecidableEq, Repr

/-- The loops' common state. -/
structure Loops where
  slots : NMap Slot := []
  /-- OMEGA words of the last 10 ms, newest first, with their times (Table LOOP-3, SPL_PWR). -/
  omegas : List (Nat × Nat) := []
  /-- The deceleration that R341 commands, 0.1 rad/s². -/
  alpha : Nat := 0
  /-- The comparator of R369 forces the output of slot 0 low. -/
  tripped : Bool := false
  /-- Duty of each PWM output, Q1.15. -/
  duty : NMap Int := []
  deriving DecidableEq, Repr

/-- The measurement front end (R351 to R353, R382). -/
structure Adc where
  frames : Nat := 0
  started : Bool := false
  /-- The frame tables, offsets and gains in force in this frame. -/
  table : List Nat := []
  ofs : NMap Int := []
  gain : NMap Nat := []
  /-- The inputs whose sunk conversion this frame still owes (R353). -/
  sink : List Nat := []
  tested : List Nat := []
  deriving DecidableEq, Repr

/-- The thermal zones (R354, R372 to R376). -/
structure Thm where
  /-- The newest reading of each LUN: °C and the time. -/
  temps : NMap (Option (Int × Nat)) := []
  polled : NMap Nat := []
  /-- LUNs whose poll met a busy or suspended LUN, or a class-0 read, and is due at the next ready state (R114). -/
  retry : NMap Bool := []
  edges : NMap Nat := []
  countFrom : NMap Nat := []
  force : NMap Bool := []
  deriving DecidableEq, Repr

/-- One channel's calibration (R384 to R391). -/
structure CalCh where
  /-- 0 none, 1 recalibration, 2 FULL, 3 CHECK. -/
  running : Nat := 0
  run1 : Option CalSet := none
  pairs : Nat := 0
  /-- The channel's temperature at the start of the calibration in progress or in force, in 1/128 °C. -/
  temp : Int := 0
  pending : Option (CalSet × Int) := none
  pendingAt : Nat := 0
  /-- FORCE_MS has passed and class-0 work is present (R391): since when. -/
  deferFrom : Option Nat := none
  /-- A gap is being forced: no routine takes the bus; and since when cycles are withheld (R391). -/
  forcing : Bool := false
  gapAt : Option Nat := none
  force : Option CalSet := none
  waiting : Nat := 0
  lastMin : Nat := 0
  calibrated : Bool := false
  deriving DecidableEq, Repr

/-- The calibration unit (R379 to R391). -/
structure Cal where
  chans : NMap CalCh := []
  refTemp : Int := 0
  ref38 : Nat := 0
  refDone : Bool := false
  refRunning : Bool := false
  deriving DecidableEq, Repr

/-- One entry of the memory error log (R399). -/
structure MemErr where
  memid : Nat
  inst : Nat
  addr : Nat
  kind : Nat
  count : Nat
  deriving DecidableEq, Repr

/-- Internal memory integrity (R393 to R403): the log, and each scrubber's next address and the start of its lap. -/
structure Mem where
  log : List MemErr := []
  /-- Words known uncorrectable (MEMID, INST, ADDR): each stays so until a functional write replaces it (R397). -/
  poison : List (Nat × Nat × Nat) := []
  /-- Keyed 64·MEMID + INST. -/
  scrubAt : NMap Nat := []
  lapFrom : NMap Nat := []
  deriving DecidableEq, Repr

/-- The one-time-programmable state (R405, R407, Table BOT-10, Table SEC-2). -/
structure Otp where
  /-- Log entries, oldest first: PENDING and LEVEL. -/
  log : List (Bool × Nat) := []
  pl3 : List (List Byte) := []
  keyHash : NMap Word := []
  capKey : NMap Word := []
  sigReq : Bool := false
  floor : Nat := 0
  deriving DecidableEq, Repr

/-- The SEC window (R404 to R419). -/
structure Sec where
  st : Nat := 0
  lkA : Word := 0
  lkB : Word := 0
  lkGiven : Bool := false
  op : Nat := 0
  addr : Word := 0
  data0 : Word := 0
  data1 : Word := 0
  since : Nat := 0
  /-- The operation whose OTP write is in progress. -/
  busy : Option Nat := none
  creds : NMap (List Byte) := []
  badCred : NMap Nat := []
  badLk : Nat := 0
  lkLock : Bool := false
  /-- A LOWER accepted (its target), whose SANITIZE has not ended. -/
  sanTarget : Nat := 0
  sanitize : Bool := false
  sanErases : NMap Nat := []
  sanTotal : Nat := 0
  sanDone : Nat := 0
  sanZeroed : Bool := false
  sanCopied : Bool := false
  /-- The copy that step 5 writes, and its GEN. -/
  sanCopy : List Byte := []
  sanGen : Nat := 0
  sanStage : Nat := 0
  deriving DecidableEq, Repr

/-- The configuration update in progress (R75, R76). -/
structure Update where
  len : Nat := 0
  /-- The bytes programmed so far; an unlisted byte is erased. -/
  img : NMap Byte := []
  deriving DecidableEq, Repr

/-- What the SPI sequencer is doing (R65, R75, R415 step 5). -/
inductive SpiJob where
  /-- Erases of the inactive slot for the BEGIN in mailbox slot mb, and page programs for its DATA, still to end. -/
  | erase (mb left : Nat)
  | data (mb left total : Nat)
  | commit (mb gen : Nat)
  /-- What was under way when the update was abandoned: it finishes, and the sequencer stops (R76). -/
  | finish
  /-- SANITIZE's copy: stage 0 erases the inactive slot, 1 programs the copy, 2 commits it, 3 erases the loaded slot; and how many
  erases or programs are still to end (R415 step 5). -/
  | sanitizeCopy (stage left : Nat)
  deriving DecidableEq, Repr

/-- The housekeeper and the mailbox (R420 to R427). -/
structure Hk where
  /-- Slot states: 0 FREE, 1 POSTED, 2 DONE. -/
  slots : NMap Nat := []
  order : List Nat := []
  serving : Option Nat := none
  /-- The answer of the slot in service, given once its last write is acknowledged: status and results. -/
  resp : Option (Nat × List Byte) := none
  /-- A threshold entry that a slot waits for from media common: slot, LUN, block group and page type. -/
  thrAsk : Option (Nat × Nat × Nat × Nat) := none
  load : Nat := 0
  shed : Nat := 0
  update : Option Update := none
  spi : Option SpiJob := none
  spiWait : List SpiJob := []
  /-- Commands fetched under the throttle in this 100 µs. -/
  thrFrom : Nat := 0
  thrCount : Nat := 0
  deriving DecidableEq, Repr

/-- Fault injection and debug (R428 to R433). -/
structure Fij where
  stopped : Bool := false
  gens : NMap (BitVec 32) := []
  trace : List DWord := []
  full : Bool := false
  enabledAt : Nat := 0
  msgUp : NMap Nat := []
  msgDown : NMap Nat := []
  deriving DecidableEq, Repr

/-- Everything of the block but the queue of waiting commands. -/
structure Dev where
  build : Build := .premel64
  /-- AO ticks since the state was made (R349): 250 ns each. -/
  now : Nat := 0
  /-- The counter from which each free value is drawn. -/
  fresh : Nat := 0
  mode : ModeSt := {}
  pins : Pins := {}
  inputs : NMap InputSt := []
  ret : Retained := {}
  rf : NMap Word := []
  rp : RegPort := {}
  mp : Mp := {}
  spl : Spl := {}
  links : NMap Link := []
  /-- Reports of media common that wait for a link that is up (R436). -/
  statsHeld : List MsgBody := []
  /-- The media side's value of each mirrored level as it was last reported (R436), by the register's offset. -/
  mirrorSent : NMap Nat := []
  groups : NMap Group := []
  cfg : Cfg := {}
  chans : NMap Chan := []
  scheds : NMap Sched := []
  codec : Codec := {}
  rrc : Rrc := {}
  pgm : Pgm := {}
  xlt : Xlt := {}
  cq : Cq := {}
  ord : Ord := {}
  dma : Dma := {}
  hup : Hup := {}
  loops : Loops := {}
  adc : Adc := {}
  thm : Thm := {}
  cal : Cal := {}
  mem : Mem := {}
  sec : Sec := {}
  otp : Otp := {}
  hk : Hk := {}
  fij : Fij := {}
  /-- The age clock, in minutes (R188). -/
  ageMin : Nat := 0
  deriving DecidableEq, Repr

/-- The state of the block: the commands that wait, first in, first out, and everything else. -/
structure State where
  pending : List Instr := []
  dev : Dev := {}
  deriving DecidableEq, Repr

/-- The reasons for which the block stops as the manual describes. No command of the manual stops the block: every
command that cannot act has the answer or the no-effect that its rule gives. The one name stands for an access the
manual says does not exist; nothing raises it. -/
inductive Fault where
  /-- Raised by nothing; safe. -/
  | noSuchPlace
  deriving DecidableEq, Repr

/-- The reasons for which the model declines. -/
inductive Refusal where
  /-- Raised by a dispatch arm whose command has no meaning yet; safe. -/
  | notModelled (mnemonic : String)
  deriving DecidableEq, Repr

/-- The state right after PO_RST_n has risen with every strap and NODE_ID input low: mode LOADING from OFF (R51, R79,
PRM_GLB_MODE reset 0x2), memories zero (R396), nothing listed in any map. -/
def State.reset : State := {}

end Sys2Proof.Machine
end

