-- ==== Sys2Proof/Machine/Ops.lean ====
section
/-! DEFINITION. Machine/Ops.lean: the named operations that every meaning is written with: sparse maps, register fields,
time, free values, mode changes and the event flags. -/

namespace Sys2Proof.Machine

open Sys2Proof

/-! ### Sparse maps: keys strictly rising, no entry equal to the default -/

/-- The entry of k, where one is listed. -/
def nfind {α : Type} : NMap α → Nat → Option α
  | [], _ => none
  | (j, w) :: m, k => if j = k then some w else nfind m k

/-- m with entry k at v. -/
def nput {α : Type} : NMap α → Nat → α → NMap α
  | [], k, v => [(k, v)]
  | (j, w) :: m, k, v => if k < j then (k, v) :: (j, w) :: m else if k = j then (k, v) :: m else (j, w) :: nput m k v

/-- m without entry k. -/
def nerase {α : Type} : NMap α → Nat → NMap α
  | [], _ => []
  | (j, w) :: m, k => if j = k then nerase m k else (j, w) :: nerase m k

/-- What m reads at k, d where nothing is listed. -/
def nget {α : Type} (d : α) (m : NMap α) (k : Nat) : α := (nfind m k).getD d

/-- m with v at k; the value of an unlisted entry removes the entry. -/
def nset {α : Type} [DecidableEq α] (d : α) (m : NMap α) (k : Nat) (v : α) : NMap α :=
  if v = d then nerase m k else nput m k v

/-- Apply f to entry k. -/
def nmod {α : Type} [DecidableEq α] (d : α) (m : NMap α) (k : Nat) (f : α → α) : NMap α := nset d m k (f (nget d m k))

/-- Keys strictly rising from lo, every value other than d: the canonical form. -/
def nwfFrom {α : Type} [DecidableEq α] (d : α) (lo : Nat) : NMap α → Bool
  | [] => true
  | (j, w) :: m => decide (lo ≤ j) && decide (w ≠ d) && nwfFrom d (j + 1) m

/-- The canonical form of a sparse map whose unlisted entries read d. -/
def nwf {α : Type} [DecidableEq α] (d : α) (m : NMap α) : Bool := nwfFrom d 0 m

/-- Keys strictly rising, the form of a map without a default. -/
def nsortedFrom {α : Type} (lo : Nat) : NMap α → Bool
  | [] => true
  | (j, _) :: m => decide (lo ≤ j) && nsortedFrom (j + 1) m

/-! ### Bits and numbers -/

/-- Bits [hi:lo] of n. -/
def nbits (n hi lo : Nat) : Nat := n / 2 ^ lo % 2 ^ (hi - lo + 1)

/-- Bit i of n. -/
def nbit (n i : Nat) : Bool := n / 2 ^ i % 2 = 1

/-- 1 for true. -/
def b2n (b : Bool) : Nat := if b then 1 else 0

/-- n with bits [hi:lo] replaced by v. -/
def nput_bits (n hi lo v : Nat) : Nat :=
  n - nbits n hi lo * 2 ^ lo + v % 2 ^ (hi - lo + 1) * 2 ^ lo

/-- n as a two's-complement number of w bits. -/
def sext (w n : Nat) : Int := if 2 ^ (w - 1) ≤ n % 2 ^ w then (n % 2 ^ w : Int) - 2 ^ w else (n % 2 ^ w : Int)

/-- The w-bit two's-complement code of x. -/
def wrapI (w : Nat) (x : Int) : Nat := (x % (2 ^ w : Int)).toNat

/-- x held within lo and hi. -/
def clampI (lo hi x : Int) : Int := max lo (min hi x)

/-- The number whose little-endian bytes are bs. -/
def leNat : List Byte → Nat
  | [] => 0
  | b :: bs => b.toNat + 256 * leNat bs

/-- The n little-endian bytes of v. -/
def natLe : Nat → Nat → List Byte
  | 0, _ => []
  | n + 1, v => BitVec.ofNat 8 v :: natLe n (v / 256)

/-- The n bytes of bs from position p, as a little-endian number. -/
def leAt (bs : List Byte) (p n : Nat) : Nat := leNat ((bs.drop p).take n)

/-- The n bytes of bs from position p. -/
def slice (bs : List Byte) (p n : Nat) : List Byte := (bs.drop p).take n

/-- n bytes of zero. -/
def zeros (n : Nat) : List Byte := List.replicate n 0

/-- Whether the n bytes from p are all zero. -/
def zeroAt (bs : List Byte) (p n : Nat) : Bool := (slice bs p n).all (· = 0)

/-- ⌈a ÷ b⌉. -/
def ceilDiv (a b : Nat) : Nat := (a + b - 1) / b

/-- The numbers lo..lo + n - 1. -/
def rangeFrom (lo n : Nat) : List Nat := (List.range n).map (lo + ·)

/-! ### The build configuration (Table SCO-1) -/

/-- Channels of the build. -/
def Build.channels : Build → Nat
  | .premel8 => 8
  | .premel16 => 16
  | .premel32 => 32
  | .premel64 => 64

/-- Channel groups of the build (R9). -/
def Build.groups (b : Build) : Nat := b.channels / 8

/-- Memory ports of each kind (R17). -/
def Build.ports : Build → Nat
  | .premel8 => 1
  | .premel16 => 1
  | .premel32 => 2
  | .premel64 => 4

/-- Bytes of pantry (Table SCO-1). -/
def Build.pantry (b : Build) : Nat := b.channels / 2 * 1048576

/-- Hard decoders (R1, Table SCO-1). -/
def Build.hard (b : Build) : Nat := b.channels * 3 / 4

/-- Soft decoders (R1, Table SCO-1). -/
def Build.soft : Build → Nat
  | .premel8 => 2
  | .premel16 => 3
  | .premel32 => 6
  | .premel64 => 12

/-- LUNs of the build (R1). -/
def Build.luns (b : Build) : Nat := b.channels * 32

/-! ### Registers -/

/-- The offset of instance i of a register in the window. -/
def regOff (r : Reg) (i : Nat) : Nat := r.place.base + r.place.stride * i

/-- Table MOD-7's FILTER, REARM and STUCK_T of input i. -/
def incfgReset (i : Nat) : Nat :=
  if i ≤ 1 then 1
  else if i = 2 then 100 * 2 ^ 24 + 100 * 256 + 4
  else if i = 3 then 10 * 2 ^ 24 + 10 * 256 + 2
  else if i = 4 then 100 * 256 + 4
  else 2

/-- The reset value of instance i of a register that the field tables give per instance or per build. -/
def resetVal (b : Build) (r : Reg) (i : Nat) : Nat :=
  match r with
  | .glbId => 0x504D0000 + b.channels
  | .glbMpCfg => 0x32 * 2 ^ 16 + 4 * 2 ^ 8 + (2 ^ b.ports - 1) * 16 + (2 ^ b.ports - 1)
  | .pwrGate => (2 ^ b.groups - 1) * 256
  | .pwrIncfg => incfgReset i
  | .schModecfg => [0x84210300, 0x84214101, 0x84228300, 0x42180100].getD i 0
  | .cdcPool => b.hard * 2 ^ 26 + b.soft * 2 ^ 22
  | .rrcEw => [61, 117, 146, 176, 228].getD i 0
  | .pgmVthr => [15, 29, 36, 43, 56].getD i 0
  | .adcFrame => (List.range 16 ++ [32, 33, 34, 35] ++ rangeFrom 16 16 ++ [36, 37, 38, 39]).getD i 0x3F
  | .hatchLinkStat | .dbgHmsg => 0
  | .chnCfg => if i < b.channels then 2 else 0
  | _ => r.resetConst

/-- The stored value of instance i of a register. -/
def getReg (d : Dev) (r : Reg) (i : Nat) : Nat :=
  (nget (BitVec.ofNat 32 (resetVal d.build r i)) d.rf (regOff r i)).toNat

/-- Store a value for instance i of a register. -/
def setReg (d : Dev) (r : Reg) (i v : Nat) : Dev :=
  { d with rf := nset (BitVec.ofNat 32 (resetVal d.build r i)) d.rf (regOff r i) (BitVec.ofNat 32 v) }

/-- The field f of instance i. -/
def getF (d : Dev) (f : FRef) (i : Nat := 0) : Nat := nbits (getReg d f.reg i) f.hi f.lo

/-- Set the field f of instance i; every other field keeps its value. -/
def setF (d : Dev) (f : FRef) (v : Nat) (i : Nat := 0) : Dev :=
  setReg d f.reg i (nput_bits (getReg d f.reg i) f.hi f.lo v)

/-- Whether a one-bit field is 1. -/
def isSet (d : Dev) (f : FRef) (i : Nat := 0) : Bool := getF d f i = 1

/-- Add n to a counting field, which stops at its highest value. -/
def bump (d : Dev) (f : FRef) (i : Nat := 0) (n : Nat := 1) : Dev :=
  setF d f (min (2 ^ (f.hi - f.lo + 1) - 1) (getF d f i + n)) i

/-- Raise a field to v where v is higher: the peak counters. -/
def peak (d : Dev) (f : FRef) (v : Nat) (i : Nat := 0) : Dev :=
  setF d f (max (getF d f i) (min (2 ^ (f.hi - f.lo + 1) - 1) v)) i

/-- The register and instance at an offset, where one stands there. -/
def regAt (off : Nat) : Option (Reg × Nat) :=
  (Reg.all.find? fun r =>
    let p := r.place
    decide (p.base ≤ off) && (if p.stride = 0 then decide (off = p.base)
      else decide ((off - p.base) % p.stride = 0) && decide ((off - p.base) / p.stride < p.count))).map
    fun r => (r, if r.place.stride = 0 then 0 else (off - r.place.base) / r.place.stride)

/-! ### Time, free values, effects -/

/-- n microseconds in AO ticks. -/
def us (n : Nat) : Nat := 4 * n

/-- n milliseconds in AO ticks. -/
def ms (n : Nat) : Nat := 4000 * n

/-- A free value, and the state whose next free value is another. -/
def free (d : Dev) : Nat × Dev := (Config.freeValue d.fresh, { d with fresh := d.fresh + 1 })

/-- What a command leaves: f's state, in the same build (Table SCO-1) and at the same time, since only an idle step lets time pass. -/
def commandFrame (f : Dev → Dev) (d : Dev) : Dev := { f d with build := d.build, now := d.now }

/-- Every meaning: a change of everything but the queue of waiting commands, and the machine goes on. -/
def onDev (f : Dev → Dev) (s : State) : Host.Outcome State Fault Refusal := .next { s with dev := commandFrame f s.dev }

/-- Apply f where c holds; otherwise nothing changes. -/
def when (c : Bool) (f : Dev → Dev) (d : Dev) : Dev := if c then f d else d

/-- Apply f for each element in turn. -/
def each {α : Type} (l : List α) (f : Dev → α → Dev) (d : Dev) : Dev := l.foldl f d

/-- The field of a register's row. -/
def rowRef (r : Reg) (f : FieldRow) : FRef := ⟨r, f.hi, f.lo⟩

/-- A write by the access types alone (Table SCO-3): RW takes the value, W1C clears where a 1 is written, W1S sets, and every
other field keeps its value. -/
def plainWrite (r : Reg) (i v : Nat) (d : Dev) : Dev :=
  each r.fields (fun d f =>
    let w := nbits v f.hi f.lo
    match f.acc with
    | .rw => setF d (rowRef r f) w i
    | .w1c => setF d (rowRef r f) (getF d (rowRef r f) i &&& (2 ^ (f.hi - f.lo + 1) - 1 - w)) i
    | .w1s => setF d (rowRef r f) (getF d (rowRef r f) i ||| w) i
    | _ => d) d

/-! ### Records that many meanings read and write -/

def getChan (d : Dev) (c : Nat) : Chan := nget {} d.chans c
def modChan (d : Dev) (c : Nat) (f : Chan → Chan) : Dev := { d with chans := nmod {} d.chans c f }
def getSched (d : Dev) (l : Nat) : Sched := nget {} d.scheds l
def modSched (d : Dev) (l : Nat) (f : Sched → Sched) : Dev := { d with scheds := nmod {} d.scheds l f }
def getGroup (d : Dev) (g : Nat) : Group := nget {} d.groups g
def modGroup (d : Dev) (g : Nat) (f : Group → Group) : Dev := { d with groups := nmod {} d.groups g f }
def getInput (d : Dev) (i : Nat) : InputSt := nget {} d.inputs i
def modInput (d : Dev) (i : Nat) (f : InputSt → InputSt) : Dev := { d with inputs := nmod {} d.inputs i f }
def modMode (d : Dev) (f : ModeSt → ModeSt) : Dev := { d with mode := f d.mode }
def modPins (d : Dev) (f : Pins → Pins) : Dev := { d with pins := f d.pins }
def modRet (d : Dev) (f : Retained → Retained) : Dev := { d with ret := f d.ret }
def modMp (d : Dev) (f : Mp → Mp) : Dev := { d with mp := f d.mp }
def modSpl (d : Dev) (f : Spl → Spl) : Dev := { d with spl := f d.spl }
def modCfg (d : Dev) (f : Cfg → Cfg) : Dev := { d with cfg := f d.cfg }
def modCodec (d : Dev) (f : Codec → Codec) : Dev := { d with codec := f d.codec }
def modRrc (d : Dev) (f : Rrc → Rrc) : Dev := { d with rrc := f d.rrc }
def modPgm (d : Dev) (f : Pgm → Pgm) : Dev := { d with pgm := f d.pgm }
def modXlt (d : Dev) (f : Xlt → Xlt) : Dev := { d with xlt := f d.xlt }
def modCq (d : Dev) (f : Cq → Cq) : Dev := { d with cq := f d.cq }
def modOrd (d : Dev) (f : Ord → Ord) : Dev := { d with ord := f d.ord }
def modDma (d : Dev) (f : Dma → Dma) : Dev := { d with dma := f d.dma }
def modHup (d : Dev) (f : Hup → Hup) : Dev := { d with hup := f d.hup }
def modLoops (d : Dev) (f : Loops → Loops) : Dev := { d with loops := f d.loops }
def modAdc (d : Dev) (f : Adc → Adc) : Dev := { d with adc := f d.adc }
def modThm (d : Dev) (f : Thm → Thm) : Dev := { d with thm := f d.thm }
def modCal (d : Dev) (f : Cal → Cal) : Dev := { d with cal := f d.cal }
def modMem (d : Dev) (f : Mem → Mem) : Dev := { d with mem := f d.mem }
def modSec (d : Dev) (f : Sec → Sec) : Dev := { d with sec := f d.sec }
def modOtp (d : Dev) (f : Otp → Otp) : Dev := { d with otp := f d.otp }
def modHk (d : Dev) (f : Hk → Hk) : Dev := { d with hk := f d.hk }
def modFij (d : Dev) (f : Fij → Fij) : Dev := { d with fij := f d.fij }

/-- The group of a channel (R9). -/
def groupOf (c : Nat) : Nat := c / 8

/-- The channel of a LUN (R100). -/
def chanOf (l : Nat) : Nat := l / 32

/-! ### Modes -/

/-- The code of a mode (Table MOD-1). -/
def Mode.code : Mode → Nat
  | .off => 0 | .dormant => 1 | .loading => 2 | .awaitPatch => 3 | .standby => 4 | .warm => 5 | .serve => 6
  | .ingest => 7 | .drain => 8 | .maintain => 9 | .holdup => 10 | .safe => 11 | .sanitize => 12 | .factory => 13

/-- The mode of a code. -/
def modeOf : Nat → Option Mode
  | 0 => some .off | 1 => some .dormant | 2 => some .loading | 3 => some .awaitPatch | 4 => some .standby
  | 5 => some .warm | 6 => some .serve | 7 => some .ingest | 8 => some .drain | 9 => some .maintain
  | 10 => some .holdup | 11 => some .safe | 12 => some .sanitize | 13 => some .factory
  | _ => none

/-- SERVE, INGEST, DRAIN and MAINTAIN (R78). -/
def Mode.run (m : Mode) : Bool := decide (m = .serve ∨ m = .ingest ∨ m = .drain ∨ m = .maintain)

/-- The modes in which flash work can run: the channel groups powered and the fast clocks on (Table MOD-1). -/
def Mode.flash (m : Mode) : Bool :=
  m.run || decide (m = .warm ∨ m = .safe ∨ m = .sanitize ∨ m = .factory ∨ m = .holdup)

/-- The modes in which submission entries are fetched (Table MOD-1). -/
def Mode.fetches (m : Mode) : Bool := m.run || decide (m = .safe ∨ m = .factory)

/-- The SoC side is powered and its fast clocks run (Table MOD-1). -/
def Mode.awake (m : Mode) : Bool := decide (m ≠ .off ∧ m ≠ .dormant ∧ m ≠ .standby)

/-- SYS_RST_n is low and in effect (R465). -/
def inSysReset (d : Dev) : Bool := !d.pins.sysHigh && !d.pins.sysPending

/-- The block runs: neither reset is in effect. -/
def running (d : Dev) : Bool := d.pins.poHigh && !inSysReset d && decide (d.mode.mode ≠ .off)

/-- The mode in force, or OFF where a reset holds the block. -/
def modeNow (d : Dev) : Mode := if running d then d.mode.mode else .off

/-- Enter mode m for a cause of Table MOD-8: PREV, CAUSE, MODE, the mode record (Table ARC-4) and MODE_CHG (R50). The
transition in progress ends. -/
def enterMode (m : Mode) (cause : Nat) (d : Dev) : Dev :=
  let same := decide (d.mode.mode = m)
  let d := modMode d fun s =>
    { s with prev := if same then s.prev else s.mode, mode := m, cause := cause, trans := none, idleFrom := d.now,
             runEntered := s.runEntered || m.run }
  let d := if same then d else setF d F.glbEvtSrc_MODE_CHG 1
  if m = .safe then setF d F.glbEvtSrc_SAFE_ENTRY 1 else d

/-- CAUSE of PRM_GLB_MODE: during a wake from DORMANT the cause of the wake (R78). -/
def causeNow (d : Dev) : Nat :=
  match d.mode.trans with
  | some t => if t.kind = .wakeDormant then t.cause else d.mode.cause
  | none => d.mode.cause

/-- The SoC side answers and acts on register writes: no reset, not OFF and not DORMANT (R78, R86, R465). -/
def socUp (d : Dev) : Bool := running d && decide (d.mode.mode ≠ .dormant)

/-- The protection level in force: LEVEL of the newest entry that is not PENDING (R405). -/
def level (d : Dev) : Nat :=
  match (d.otp.log.filter fun e => !e.1).getLast? with
  | some e => e.2
  | none => 0

/-- The level whose withholdings are in force: until media-state restoration is complete nothing that PL3 withholds is offered (R404). -/
def withholds (d : Dev) : Nat := if d.mode.restored then level d else 3

/-! ### The clocked free-running pieces that many rules read -/

/-- Input i counts as asserted: its assertion was not dropped, and it is not masked (R97, R98). -/
def inputOn (d : Dev) (i : Nat) : Bool := (getInput d i).asserted && !(getInput d i).masked && !(getInput d i).ignored

/-- A level of input i can have passed the filter: FILTER equal samples since it last began to count (R40, R95). -/
def filterMay (d : Dev) (i : Nat) : Bool := decide ((getInput d i).filterFrom + getF d F.pwrIncfg_FILTER i ≤ d.now)

/-- BURST_WARN is asserted and not masked (R88). -/
def burstWarn (d : Dev) : Bool := inputOn d 2

end Sys2Proof.Machine
end

