-- ==== Sys2Proof/Machine/Hatch.lean ====
section
/-! DEFINITION. Machine/Hatch.lean: fault injection's decision (R428 to R432) and the hatch: how one side hands a message
over, when the other accepts it, and what an answer does (R13 to R16). -/

namespace Sys2Proof.Machine

open Sys2Proof

/-! ### Fault injection -/

/-- Injection is ACTIVE (R428, R429). -/
def fijActive (d : Dev) : Bool :=
  !d.fij.stopped && (decide (d.mode.mode = .factory) || (decide (level d = 0) && isSet d F.fijCtl_ARM))

/-- The generator of point p as a write to PRM_FIJ_CTL loads it (R431). -/
def fijLoad (seed p : Nat) : BitVec 32 :=
  let v := BitVec.ofNat 32 (seed * 0x00010001 + p)
  if v = 0 then 0xFFFFFFFF#32 else v

/-- The state of point p's generator. -/
def fijGen (d : Dev) (p : Nat) : BitVec 32 := (nfind d.fij.gens p).getD (fijLoad 0xACE1 p)

/-- The next 16 bits of point p's generator. -/
def fijDraw (d : Dev) (p : Nat) : Nat × Dev :=
  let (bs, s) := lfsrBits 16 (fijGen d p)
  (bitsNat bs, modFij d fun f => { f with gens := nput f.gens p s })

/-- The decision at an eligible event of point p (R431): whether it is injected, and the state after. -/
def fijDecide (d : Dev) (p : Nat) : Bool × Dev :=
  if isSet d F.fijPt_ONESHOT p then (true, bump (setF d F.fijPt_ONESHOT 0 p) F.fijCnt_INJECTED p)
  else
    let (v, d1) := fijDraw d p
    if v < getF d F.fijPt_RATE p then (true, bump d1 F.fijCnt_INJECTED p) else (false, d1)

/-- Whether point p injects at an event at target t; `resend` marks a retransmission (R432). The action, 0 for none. -/
def fijEvent (d : Dev) (p t : Nat) (acts : List Nat) (resend : Bool) : Nat × Dev :=
  let a := getF d F.fijPt_ACTION p
  if fijActive d && acts.contains a && decide (getF d F.fijPt_TARGET p = t) && !(resend && isSet d F.fijPt_EXEMPT p) then
    let (y, d1) := fijDecide d p
    (if y then a else 0, d1)
  else (0, d)

/-! ### The header and the CRC of a message (R14, Table ARC-3) -/

/-- TYPE (Table ARC-2). -/
def msgType : MsgBody → Nat
  | .opReq _ => 1 | .opResult _ => 2 | .wdata _ _ _ _ _ => 3 | .rdata _ => 4 | .credit _ _ => 5 | .fifoState _ _ _ _ _ => 6
  | .release _ _ => 7 | .event _ => 8 | .ctrlReq _ => 9 | .ctrlResp _ _ => 10 | .patch _ _ _ => 11 | .quiesce _ => 12
  | .holdup _ _ => 13 | .stats _ _ _ _ _ => 14 | .trace _ => 14 | .fault _ => 15

/-- TAG: of WDATA the word's tag, the FIFO and the word index; of OP_REQ and OP_RESULT the LUN and the operation's tag. DESIGN CHOICE
(log 89): the LUN stands in [31:20], and every other type has TAG 0. -/
def msgTag (b : MsgBody) : Nat :=
  match b with
  | .wdata k i tag _ _ => tag % 256 * 2 ^ 24 + k % 64 * 2 ^ 18 + i % 2 ^ 18
  | .opReq o => o.lun % 4096 * 2 ^ 20 + o.tag % 2 ^ 20
  | .opResult r => r.lun % 4096 * 2 ^ 20 + r.tag % 2 ^ 20
  | _ => 0

/-- The payload, at most 64 bytes in whole 8-byte units. DESIGN CHOICE (log 89): of a type whose payload the manual does not lay out it is
Config.msgPayload of the type and the SEQ. -/
def msgPayload (m : Msg) : List Byte :=
  let bs := match m.body with
    | .wdata _ _ _ _ bs => bs
    | .rdata r => r.data
    | .ctrlResp _ v => natLe 8 v.toNat
    | .patch _ ws cs => (ws.flatMap fun w : Word => natLe 4 w.toNat) ++ cs.flatMap fun c : BitVec 15 => natLe 2 c.toNat
    | .trace v => natLe 8 v.toNat
    | .quiesce _ | .fault _ => []
    | b => Config.msgPayload (msgType b) m.seq
  let bs := bs.take 64
  bs ++ zeros (ceilDiv bs.length 8 * 8 - bs.length)

/-- The 64-bit header of a message of stream st (Table ARC-3). -/
def msgHeader (st : Nat) (m : Msg) : DWord :=
  BitVec.ofNat 64 (msgType m.body * 2 ^ 60 + st % 4 * 2 ^ 58 + m.seq % 65536 * 2 ^ 40 + (msgPayload m).length / 8 * 2 ^ 36 + msgTag m.body)

/-- The CRC-16 over header and payload (R14). DESIGN CHOICE (log 89): the header's bytes go first, the highest first. -/
def msgCrc (st : Nat) (m : Msg) : BitVec 16 := crc16 ((natLe 8 (msgHeader st m).toNat).reverse ++ msgPayload m)

/-! ### Streams -/

/-- One stream of link g. -/
def getStream (d : Dev) (g st : Nat) : Stream := nget {} (nget {} d.links g).streams st

/-- Change one stream of link g. -/
def modStream (d : Dev) (g st : Nat) (f : Stream → Stream) : Dev :=
  { d with links := nmod {} d.links g fun l => { l with streams := nmod {} l.streams st f } }

/-- A message as it goes onto the wire, with what injection does to this transmission (Table FIJ-1, p = 0). -/
def transmit (d : Dev) (g st : Nat) (m : Msg) (resend : Bool) : Msg × Dev :=
  let (a, d1) := fijEvent d 0 (g + 8 * st) [1, 2, 3] resend
  ({ m with lost := decide (a = 1), bad := decide (a = 2), late := decide (a = 3) }, d1)

/-- Send what waits while fewer than 64 messages of the stream are unacknowledged (R15). -/
def pumpStream (g st : Nat) : Nat → Dev → Dev
  | 0, d => d
  | n + 1, d =>
    let s := getStream d g st
    match s.waiting with
    | [] => d
    | b :: rest =>
      if s.unacked.length < 64 then
        let (m, d1) := transmit d g st { seq := s.nextSeq, sends := 1, body := b } false
        pumpStream g st n (modStream d1 g st fun s =>
          { s with nextSeq := (s.nextSeq + 1) % 65536, unacked := s.unacked ++ [m], waiting := rest })
      else d

/-- Hand a message over to stream st of link g (R15). -/
def hsend (g st : Nat) (b : MsgBody) (d : Dev) : Dev :=
  let d := modStream d g st fun s => { s with waiting := s.waiting ++ [b], given := s.given + 1 }
  pumpStream g st 64 d

/-- SEQ is earlier than E (R15). -/
def seqEarlier (e q : Nat) : Bool := let x := (e + 65536 - q % 65536) % 65536; decide (1 ≤ x ∧ x ≤ 32768)

/-- A later message of the stream has been sent, so one that a reorder put after it is on its way. -/
def modLate (ms : List Msg) (q : Nat) : List Msg := ms.map fun m => if seqEarlier q m.seq then { m with late := false } else m

/-- Count an accepted message in PRM_DBG_HMSGg, in units of 1,024. -/
def countMsg (d : Dev) (g : Nat) (up : Bool) : Dev :=
  let n := (if up then nget 0 d.fij.msgUp g else nget 0 d.fij.msgDown g) + 1
  let d1 := if n < 1024 then d else bump d (if up then F.dbgHmsg_UP else F.dbgHmsg_DOWN) g
  modFij d1 fun f =>
    if up then { f with msgUp := nset 0 f.msgUp g (n % 1024) } else { f with msgDown := nset 0 f.msgDown g (n % 1024) }

/-- The link to group g can pass messages: not failed, the group powered. -/
def linkUp (d : Dev) (g : Nat) : Bool :=
  let s := (getGroup d g).stage
  decide (g < d.build.groups) && decide (s = .on ∨ s = .handshake) && !(nget {} d.links g).failed

/-- The arrival of the message that stream st of link g sent with SEQ q, where it is of the kind `want` (R15), with the CRC that came with
it: accepted in sequence and then applied, a duplicate acknowledged, anything else answered with a negative acknowledge. -/
def deliver (g st q : Nat) (crc : BitVec 16) (want : MsgBody → Bool) (apply : MsgBody → Dev → Dev) (d : Dev) : Dev :=
  let s := getStream d g st
  match s.unacked.find? (fun m => decide (m.seq = q)) with
  | none => d
  | some m =>
    if !linkUp d g || !want m.body || m.lost || m.late then d
    else
      let d := modStream d g st fun s => { s with unacked := modLate s.unacked q }
      if crc ≠ msgCrc st m || m.bad then modStream d g st fun s => { s with reply := some (true, s.expect) }
      else if q = s.expect then
        let d := modStream d g st fun s => { s with expect := (s.expect + 1) % 65536, reply := some (false, q) }
        apply m.body (countMsg d g (decide (st = 1 ∨ st = 3)))
      else if seqEarlier s.expect q then modStream d g st fun s => { s with reply := some (false, (s.expect + 65535) % 65536) }
      else modStream d g st fun s => { s with reply := some (true, s.expect) }

/-- Messages up to and including SEQ q are acknowledged: the sender drops them and sends what waited. -/
def ackUpTo (g st q : Nat) (d : Dev) : Dev :=
  let d := modStream d g st fun s =>
    { s with unacked := s.unacked.filter fun m => !(decide (m.seq = q) || seqEarlier q m.seq) }
  pumpStream g st 64 d

/-- Resend every unacknowledged message of the stream, in order, each counted in RETRIES (R15). -/
def resendAll (g st : Nat) : List Msg → Dev → Dev
  | [], d => modStream d g st id
  | m :: ms, d =>
    let (m1, d1) := transmit d g st { m with sends := m.sends + 1 } true
    let d2 := bump d1 F.hatchLinkStat_RETRIES g
    resendAll g st ms (modStream d2 g st fun s =>
      { s with unacked := s.unacked.map fun x => if x.seq = m.seq then m1 else x })

/-- What a LINK answer does at the sender (R15): kind 0 an acknowledge of SEQ q, 1 a negative acknowledge that carries
the expected SEQ q; 2 a keep-alive. An answer that the receiver cannot have given does nothing. DESIGN CHOICE (log 88): LINK takes no
SEQ of its stream, though Table ARC-2 puts it in both control streams; it is outside the window of 64 and is never resent. -/
def linkAnswer (g st kind q : Nat) (d : Dev) : Dev :=
  let s := getStream d g st
  if !linkUp d g then d
  else if kind = 0 then (if seqEarlier s.expect q then ackUpTo g st q d else d)
  else if kind = 1 then
    if s.reply = some (true, q) then
      let d := ackUpTo g st ((q + 65535) % 65536) d
      let d := modStream d g st fun s => { s with reply := none }
      resendAll g st (getStream d g st).unacked d
    else d
  else d

/-- A link reset at stream st (R16): both ends agree on what was accepted, and the send buffer is replayed. -/
def resyncStream (g st : Nat) (d : Dev) : Dev :=
  let e := (getStream d g st).expect
  let d := modStream d g st fun s =>
    { s with unacked := (s.unacked.filter fun m => !seqEarlier e m.seq).map fun m => { m with sends := 0 }, reply := none }
  resendAll g st (getStream d g st).unacked d

/-- Group g is powered (Table MOD-5). -/
def groupOn (d : Dev) (g : Nat) : Bool :=
  decide (g < d.build.groups) && decide ((getGroup d g).stage = .on ∨ (getGroup d g).stage = .handshake)

/-- Media common is powered: with any group, and throughout HOLDUP (R11). -/
def commonOn (d : Dev) : Bool := decide (d.mode.mode = .holdup) || (List.range d.build.groups).any (groupOn d)

/-- Groups that carry messages now. -/
def liveGroups (d : Dev) : List Nat := (List.range d.build.groups).filter fun g => linkUp d g

/-! ### Reports of the media side -/

/-- Add n to a count that the media side keeps of link g's group: a STATS message carries it to the mirror (R436). -/
def statsUp (g : Nat) (f : FRef) (i n : Nat) (d : Dev) : Dev :=
  hsend g 1 (.stats (regOff f.reg i) f.hi f.lo n 0) d

/-- The reports of media common that waited go up, where a link is up. -/
def commonFlush (d : Dev) : Dev :=
  match liveGroups d with
  | g :: _ => if d.statsHeld.isEmpty then d else each d.statsHeld (fun d b => hsend g 1 b d) { d with statsHeld := [] }
  | [] => d

/-- A report of media common goes up over the link of the first live group; with none it waits for one. -/
def commonSend (b : MsgBody) (d : Dev) : Dev := commonFlush { d with statsHeld := d.statsHeld ++ [b] }

/-- A value that media common reports: op 1 sets it, 2 raises it. -/
def statsVal (f : FRef) (i n op : Nat) (d : Dev) : Dev := commonSend (.stats (regOff f.reg i) f.hi f.lo n op) d

/-- What the SoC side does with a STATS report (R436): the mirror follows. -/
def statsSoc (off hi lo n op : Nat) (d : Dev) : Dev :=
  match regAt off with
  | none => d
  | some (r, i) =>
    let f : FRef := ⟨r, hi, lo⟩
    if op = 0 then bump d f i n else if op = 1 then setF d f n i else peak d f n i

/-- A count of media common: n more. -/
def statsCommon (f : FRef) (i n : Nat) (d : Dev) : Dev := commonSend (.stats (regOff f.reg i) f.hi f.lo n 0) d

end Sys2Proof.Machine
end

