-- ==== Sys2Proof/Machine/Loops.lean ====
section
/-! DEFINITION. Machine/Loops.lean: the control engine (R355 to R371): Q1.15 and Q9.31 arithmetic, stages, slots, states,
feedback loss, trace and relay auto-tune. A Q9.31 value is its code, an integer; a Q1.15 value likewise. -/

namespace Sys2Proof.Machine

open Sys2Proof

/-! ### Arithmetic (R359 to R361) -/

/-- n ÷ m: exact where m divides n; otherwise one of the two neighbours, which the manual leaves open. -/
def divOpen (n : Int) (m : Nat) : Int :=
  if n % (m : Int) = 0 then n / (m : Int) else n / (m : Int) + (if Config.roundUp n m then 1 else 0)

/-- A value held in the 40-bit accumulator, and whether it saturated (R361). -/
def accSat (x : Int) : Int × Bool :=
  let y := clampI (-(2 ^ 39)) (2 ^ 39 - 1) x
  (y, decide (y ≠ x))

/-- A value held in Q1.15, and whether it saturated (R361). -/
def q15Sat (x : Int) : Int × Bool :=
  let y := clampI (-32768) 32767 x
  (y, decide (y ≠ x))

/-- The Q9.31 code of a Q1.15 code. -/
def q31 (x : Int) : Int := x * 65536

/-- A Q9.31 value stored into Q1.15 (R361). -/
def q15Store (x : Int) : Int × Bool := q15Sat (divOpen x 65536)

/-- Coefficient (Q1.15) × value (Q9.31), shifted left by KSH: the result and the MUL flag (R359, R361). -/
def mulC (c x : Int) (ksh : Nat) : Int × Bool := accSat (divOpen (c * x) 32768 * 2 ^ ksh)

/-- Two accumulator values added: the result and the ADD flag. -/
def addA (x y : Int) : Int × Bool := accSat (x + y)

/-- x rounded to a multiple of 2^k, ties away from zero, in units of 2^k (R360). -/
def roundAway (x : Int) (k : Nat) : Int :=
  if 0 ≤ x then (2 * x + 2 ^ k) / 2 ^ (k + 1) else -((2 * -x + 2 ^ k) / 2 ^ (k + 1))

/-- The value of a mantissa under exponent e, as a Q9.31 code: mantissa × 2^(e − 7) (R360). -/
def mantVal (m : Int) (e : Nat) : Int := m * 2 ^ (9 + e)

/-- Every member lies within the mantissa range under exponent e. -/
def mantFits (vs : List Int) (e : Nat) : Bool :=
  vs.all fun v => decide (-(2 ^ (24 + e)) ≤ v ∧ v < 2 ^ (24 + e))

/-- Store a state vector: the smallest exponent, rounding, one more where a mantissa overflows, and the limits at 15
(R360, R361). The flag is STO. -/
def storeState (v0 v1 v2 : Int) : StageSt × Bool :=
  let vs := [v0, v1, v2]
  let e := ((List.range 16).find? fun e => mantFits vs e).getD 15
  let e1 := if vs.any fun v => decide (32767 < roundAway v (9 + e)) then e + 1 else e
  if 15 < e1 then
    let c := fun v => clampI (-32768) 32767 (roundAway v 24)
    ({ e := 15, m0 := c v0, m1 := c v1, m2 := c v2 }, true)
  else ({ e := e1, m0 := roundAway v0 (9 + e1), m1 := roundAway v1 (9 + e1), m2 := roundAway v2 (9 + e1) }, false)

/-! ### The slot image (Table LOOP-6) -/

def getSlot (d : Dev) (s : Nat) : Slot := nget {} d.loops.slots s
def modSlot (d : Dev) (s : Nat) (f : Slot → Slot) : Dev := modLoops d fun l => { l with slots := nmod {} l.slots s f }

/-- Halfword W of a slot's image. -/
def imgW (x : Slot) (w : Nat) : Nat := (x.img.getD w 0).toNat

/-- Halfword W as a signed code. -/
def imgI (x : Slot) (w : Nat) : Int := sext 16 (imgW x w)

/-- Replace halfword W. -/
def imgSet (x : Slot) (w v : Nat) : Slot := { x with img := x.img.set w (BitVec.ofNat 16 v) }

def slotNstage (x : Slot) : Nat := min 4 (imgW x 1 % 256)
def slotBiquad (x : Slot) (k : Nat) : Bool := nbit (imgW x 1 / 256) k
def slotDiv (x : Slot) : Nat := imgW x 2 + 65536 * imgW x 3
def slotPv (x : Slot) : Nat := imgW x 4 % 256
def slotFfa (x : Slot) : Nat := imgW x 4 / 256
def slotFfb (x : Slot) : Nat := imgW x 5 % 256
def slotFfmode (x : Slot) : Bool := nbit (imgW x 5) 8
def slotFallback (x : Slot) : Nat := imgW x 0 / 256 % 4
def slotSp (x : Slot) : Int := imgI x 6
def slotOutMin (x : Slot) : Int := imgI x 9
def slotOutMax (x : Slot) : Int := imgI x 10
def slotOutSafe (x : Slot) : Int := imgI x 11
def slotOutMan (x : Slot) : Int := imgI x 12
def slotFlatN (x : Slot) : Nat := imgW x 15 % 256
def slotDst (x : Slot) : Nat := imgW x 15 / 256
def slotC (x : Slot) (k i : Nat) : Int := imgI x (16 + 8 * k + i)
def slotKsh (x : Slot) (k : Nat) : Nat := min 8 (imgW x (22 + 8 * k) % 256)

/-! ### Sources (Table LOOP-3) -/

/-- CODE of an ADC input, signed for inputs 35 and 36 (R352). -/
def adcCode (d : Dev) (i : Nat) : Int :=
  let c := getF d F.adcData_CODE i
  if i = 35 ∨ i = 36 then sext 14 c else c

/-- The store voltage input of the HOLDUP section (Table HUP-1, KTL_AIN). -/
def hupByte (d : Dev) (p n : Nat) : Nat := leAt d.cfg.holdup p n

/-- Spindle power J·ω·α as the loops scale it: 1.0 is 2,048 W; J in 10⁻⁵ kg·m², ω and α in tenths. -/
def splFf (d : Dev) : Int := divOpen ((hupByte d 0x18 2 * d.spl.omega * d.loops.alpha * 16 : Nat) : Int) 10000000

/-- −J·ω·dω/dt by the least-squares slope over the OMEGA words of the last 10 ms, on the same scale (Table LOOP-3). -/
def splPwr (d : Dev) : Int :=
  let ws := d.loops.omegas.filter fun w => decide (d.now ≤ w.2 + ms 10)
  let n : Int := ws.length
  let sx : Int := (ws.map fun w => (w.2 : Int)).sum
  let sy : Int := (ws.map fun w => (w.1 : Int)).sum
  let sxx : Int := (ws.map fun w => (w.2 : Int) * w.2).sum
  let sxy : Int := (ws.map fun w => (w.2 : Int) * w.1).sum
  let den := n * sxx - sx * sx
  if den ≤ 0 then 0
  -- slope in 0.1 rad/s per tick; 4,000,000 ticks a second; W = J·10⁻⁵ · ω·0.1 · slope·0.1·4·10⁶; code = W·16
  else divOpen (-(hupByte d 0x18 2 : Int) * d.spl.omega * (n * sxy - sx * sy) * 4000000 * 16) (den.toNat * 10000000)

/-- The value of a source as a Q1.15 code before saturation, for slot s. -/
def sourceVal (d : Dev) (s code : Nat) : Int :=
  if code < 40 then adcCode d code * 2
  else if code = 0x28 then (if 3 ≤ s ∧ s ≤ 14 then sext 16 (getF d F.thmZstat_TEMP (s - 3)) else 0)
  else if code = 0x29 then divOpen d.spl.omega 2
  else if code = 0x2A then splFf d
  else if code = 0x2B then splPwr d
  else if code = 0x2C then sext 16 (getF d F.adcData_FILT (hupByte d 0x0A 1))
  else 0

/-- One LSB of a source for the flatline test, in halves of a Q1.15 code (Table LOOP-3). -/
def sourceLsb2 (code : Nat) : Int :=
  if code < 40 then 4 else if code = 0x28 then 256 else if code = 0x29 then 1
  else if code = 0x2A ∨ code = 0x2B then 32 else 4

/-- Channels of zone z (Table LOOP-7). -/
def zoneChans (d : Dev) (z : Nat) : List Nat :=
  if z < leAt d.cfg.thermal 0 1 then
    (List.range d.build.channels).filter fun c => nbit (leAt d.cfg.thermal (0x10 + 16 * z) 8) c
  else []

/-- POLL_MS in force: a value below 100 is treated as 100. -/
def pollMs (d : Dev) : Nat := max 100 (getF d F.thmPoll_POLL_MS)

/-- Readings of the LUNs of channel c that were taken within the last n ticks. -/
def chanReadings (d : Dev) (c n : Nat) : List Int :=
  (List.range 32).filterMap fun i =>
    match nget none d.thm.temps (32 * c + i) with
    | some (t, at_) => if d.now ≤ at_ + n then some t else none
    | none => none

/-- The spindle's status cannot be relied on (R38). -/
def splLost (d : Dev) : Bool :=
  d.spl.fault || d.spl.lost || (match d.spl.lastAt with | some t => decide (t + us 500 < d.now) | none => true)

/-- The source's feedback is open (R367). -/
def sourceOpen (d : Dev) (s code : Nat) : Bool :=
  if code < 40 then isSet d F.adcData_OPEN code
  else if code = 0x28 then (zoneChans d (s - 3)).all fun c => (chanReadings d c (ms (5 * pollMs d))).isEmpty
  else if code = 0x29 ∨ code = 0x2A ∨ code = 0x2B then splLost d
  else if code = 0x2C then isSet d F.adcData_OPEN (hupByte d 0x0A 1)
  else false

/-- The flatline test over the samples counted so far, the newest first (R367). -/
def flatline (x : Slot) : Bool :=
  let n := slotFlatN x
  let base := x.pvs.getD n 0
  decide (n ≠ 0) && decide (n < x.pvs.length) && decide (n ≤ x.outNonzero) &&
    (x.pvs.take n).all fun v => decide (2 * (v - base) ≤ sourceLsb2 (slotPv x) ∧ 2 * (base - v) ≤ sourceLsb2 (slotPv x))

/-- The cause for which feedback is lost at a PV, none where it is good: 0 open, 1 range, 2 flatline. -/
def lossCause (d : Dev) (s : Nat) (x : Slot) (pv : Int) : Option Nat :=
  if sourceOpen d s (slotPv x) then some 0
  else if pv < imgI x 13 ∨ imgI x 14 < pv then some 1
  else if flatline x then some 2
  else none

/-! ### Outputs -/

/-- Zone z's heater or fan is named in the THERMAL section. -/
def zoneByte (d : Dev) (z p : Nat) : Nat := leAt d.cfg.thermal (p + 16 * z) 1

/-- Set a PWM duty. -/
def setDuty (d : Dev) (n : Nat) (v : Int) : Dev := modLoops d fun l => { l with duty := nset 0 l.duty n v }

/-- Drive zone z at output v: split range, or its forced state (R372, R373). -/
def driveZone (d : Dev) (z : Nat) (v : Int) : Dev :=
  let forced := nget false d.thm.force z
  let heat := if forced then 0 else max v 0
  let fan := if forced then 32767 else max (-v) 0
  let d := setDuty d (zoneByte d z 0x18) heat
  if zoneByte d z 0x19 = 0xFF then d else setDuty d (zoneByte d z 0x19) (min 32767 fan)

/-- Send an output to its destination (Table LOOP-3). ALPHA is read where R341 computes α. -/
def drive (d : Dev) (s : Nat) : Dev :=
  let x := getSlot d s
  let dst := slotDst x
  if dst < 24 then setDuty d dst (if s = 0 && d.loops.tripped then 0 else max x.out 0)
  else if dst = 0x21 && decide (3 ≤ s) && decide (s ≤ 14) then driveZone d (s - 3) x.out
  else d

/-- Put an output in force: drive it and report it. -/
def putOut (d : Dev) (s : Nat) (v : Int) : Dev :=
  let d := modSlot d s fun x => { x with out := v }
  drive (setF d F.loopIo_OUT (wrapI 16 v) s) s

/-- Change a slot's state (Table LOOP-4). -/
def setLoopSt (d : Dev) (s st : Nat) : Dev := setF (modSlot d s fun x => { x with st := st }) F.loopStat_STATE st s

/-- OPEN with OUT_MAN (R362). -/
def slotOpen (s : Nat) (d : Dev) : Dev :=
  let d := modSlot (setLoopSt d s 0) s fun x => { x with tune := none, good := 0, bump := none, held := 0 }
  putOut d s (slotOutMan (getSlot d s))

/-- CLOSED, from OPEN or FALLBACK: stage states cleared, the output to take over noted (R364). -/
def slotClose (s : Nat) (d : Dev) : Dev :=
  modSlot (setLoopSt d s 1) s fun x =>
    { x with stages := [], bump := some x.out, good := 0, held := 0, pvs := [], outNonzero := 0 }

/-! ### One sample (R356 to R358) -/

/-- What a stage answers: its output, its new state, and the MUL, ADD and STO flags. -/
structure StageOut where
  y : Int
  st : StageSt
  mul : Bool
  add : Bool
  sto : Bool

/-- The held_same_sign function of R357, with the forced cases of R369 and R373. -/
def heldSame (held : Int) (forced tripped : Bool) (ke : Int) : Bool :=
  (decide (held = 1) || forced || tripped) && decide (0 < ke) || (decide (held = -1) || tripped) && decide (ke < 0)

/-- A PID stage (R357). `load` gives I in place of the stored one (R364). -/
def pidStage (x : Slot) (k : Nat) (st : StageSt) (e : Int) (load : Option Int) (forced tripped : Bool) : StageOut :=
  let sh := slotKsh x k
  let i0 := load.getD (mantVal st.m0 st.e)
  let ep := mantVal st.m1 st.e
  let dp := mantVal st.m2 st.e
  let (p, f1) := mulC (slotC x k 0) e sh
  let (ke, f2) := mulC (slotC x k 1) e sh
  let (n, a1) := addA i0 ke
  let (de, a2) := addA e (-ep)
  let (kd, f3) := mulC (slotC x k 2) de sh
  let (kf, f4) := mulC (slotC x k 3) dp sh
  let (dd, a3) := addA kd kf
  let (pn, a4) := addA p n
  let (y, a5) := addA pn dd
  let (imax, f5) := accSat (q31 (slotC x k 4) * 2 ^ sh)
  let i1 := if heldSame x.held forced tripped ke then i0 else min (max n (-imax)) imax
  let (s1, sto) := storeState i1 e dd
  ⟨y, s1, f1 || f2 || f3 || f4 || f5, a1 || a2 || a3 || a4 || a5, sto⟩

/-- A biquad stage in transposed direct form II (R358). -/
def biquadStage (x : Slot) (k : Nat) (st : StageSt) (e : Int) : StageOut :=
  let sh := slotKsh x k
  let s1 := mantVal st.m0 st.e
  let s2 := mantVal st.m1 st.e
  let (bx, f1) := mulC (slotC x k 0) e sh
  let (y, a1) := addA bx s1
  let (b1, f2) := mulC (slotC x k 1) e sh
  let (y1, f3) := mulC (slotC x k 3) y sh
  let (t1, a2) := addA b1 (-y1)
  let (n1, a3) := addA t1 s2
  let (b2, f4) := mulC (slotC x k 2) e sh
  let (y2, f5) := mulC (slotC x k 4) y sh
  let (n2, a4) := addA b2 (-y2)
  let (s, sto) := storeState n1 n2 0
  ⟨y, s, f1 || f2 || f3 || f4 || f5, a1 || a2 || a3 || a4, sto⟩

/-- What the stages answer: the output, each stage's output, the new states and the STAGE flags. -/
structure ChainOut where
  y : Int
  ys : List Int
  stages : NMap StageSt
  flags : Nat

/-- Stages k..k + n - 1 in turn. `load` is for the last one. -/
def runStages (x : Slot) (forced tripped : Bool) (load : Option (Int → Int)) : Nat → Nat → ChainOut → ChainOut
  | 0, _, c => c
  | n + 1, k, c =>
    let st := nget {} c.stages k
    let o :=
      if slotBiquad x k then biquadStage x k st c.y
      else pidStage x k st c.y (if n = 0 then load.map (fun f => f c.y) else none) forced tripped
    let fl := (b2n o.mul + 2 * b2n o.add + 4 * b2n o.sto) * 8 ^ k
    runStages x forced tripped load n (k + 1)
      { y := o.y, ys := c.ys ++ [o.y], stages := nset {} c.stages k o.st, flags := c.flags ||| fl }

/-- The value of the feed-forward inputs, held in Q1.15, and whether one saturated. -/
def ffVals (d : Dev) (s : Nat) (x : Slot) : Int × Int × Bool :=
  let (a, f1) := q15Sat (sourceVal d s (slotFfa x))
  let (b, f2) := q15Sat (sourceVal d s (slotFfb x))
  (q31 a, q31 b, f1 || f2)

/-- Feed-forward, limits and store (R356): the Q1.15 output, the feed-forward sum and the SAT flag. -/
def outStep (x : Slot) (y a b : Int) : Int × Int × Bool :=
  let (ka, f1) := mulC (imgI x 7) a 0
  let (u0, f2) := addA y ka
  let mn : Int := 2 ^ 23
  let (u, ff, f3) :=
    if slotFfmode x then
      let (uk, g1) := mulC (imgI x 8) u0 0
      let (q, g2) := accSat (divOpen (uk * 2 ^ 31) (max b mn).toNat)
      (q, ka, g1 || g2 || decide (b < mn))
    else
      let (kb, g1) := mulC (imgI x 8) b 0
      let (w, g2) := addA u0 kb
      let (fs, _) := addA ka kb
      (w, fs, g1 || g2)
  let (o, f4) := q15Store (min (max u (q31 (slotOutMin x))) (q31 (slotOutMax x)))
  (o, ff, f1 || f2 || f3 || f4)

/-- The I that makes the first closed sample answer the output in force before it (R364): out less the feed-forward and
less every other part of the stage, for a last stage that is a PID. -/
def bumpI (x : Slot) (k : Nat) (a b out e : Int) : Int :=
  let sh := slotKsh x k
  let ka := (mulC (imgI x 7) a 0).1
  let y := if slotFfmode x then
      (if imgI x 8 = 0 then 0 else divOpen (q31 out * max b (2 ^ 23) * 32768 * (if imgI x 8 < 0 then -1 else 1))
        ((imgI x 8).natAbs * 2 ^ 31)) - ka
    else q31 out - ka - (mulC (imgI x 8) b 0).1
  let imax := (accSat (q31 (slotC x k 4) * 2 ^ sh)).1
  let i := y - (mulC (slotC x k 0) e sh).1 - (mulC (slotC x k 1) e sh).1 - (mulC (slotC x k 2) e sh).1
  min (max i (-imax)) imax

/-- Engine cycles of a sample (Table LOOP-5). -/
def slotCycles (x : Slot) : Nat :=
  12 + ((List.range (slotNstage x)).map fun k => if slotBiquad x k then 12 else 14).sum +
    (if slotFfa x = 0x3F then 0 else 4) + (if slotFfb x = 0x3F then 0 else 4) + (if slotFfmode x then 20 else 0)

/-! ### Trace (R370) -/

/-- Append one sample to trace channel j: a full buffer stops in MODE 1 and drops its oldest in MODE 2. -/
def traceAdd (x : Slot) (mode j : Nat) (v : Int) : Slot :=
  let t := nget [] x.trace j
  let t1 := if t.length < 1024 then t ++ [v] else if mode = 2 then t.drop 1 ++ [v] else t
  { x with trace := nset [] x.trace j t1, traceAt := if decide (j = 0 ∧ mode = 2) && decide (1024 ≤ t.length) then (x.traceAt + 1) % 1024 else x.traceAt }

/-- The value of a node (R370). -/
def nodeVal (pv sp e ff out relay : Int) (ys : List Int) (n : Nat) : Int :=
  let st := fun v => (q15Store v).1
  if n = 0 then pv else if n = 1 then sp else if n = 2 then st e else if n = 3 then st ff
  else if n < 8 then st (ys.getD (n - 4) 0) else if n = 8 then out else if n = 9 then relay else 0

/-- Record one sample of the slot (R370). -/
def traceSample (s : Nat) (val : Nat → Int) (d : Dev) : Dev :=
  let x := getSlot d s
  let mode := getF d F.loopTrcfg_MODE s
  if !x.tracing then d
  else if x.skip ≠ 0 then modSlot d s fun x => { x with skip := x.skip - 1 }
  else
    let nodes := getF d F.loopTrcfg_NODES s
    let d := modSlot d s fun x =>
      (List.range 4).foldl (fun x j => traceAdd x mode j (val (nbits nodes (4 * j + 3) (4 * j))))
        { x with skip := getF d F.loopTrcfg_DEC s }
    if mode = 1 && decide (1024 ≤ (nget [] (getSlot d s).trace 0).length) then
      setF (modSlot d s fun x => { x with tracing := false }) F.loopTrcfg_RUN 0 s
    else d

/-- Start or stop recording for a MODE (R370). -/
def traceMode (s mode : Nat) (d : Dev) : Dev :=
  let run := decide (mode = 1 ∨ mode = 2)
  let d := modSlot d s fun x => if run then { x with tracing := true, trace := [], traceAt := 0, skip := 0 } else { x with tracing := false }
  setF d F.loopTrcfg_RUN (b2n run) s

/-! ### Relay auto-tune (R371) -/

/-- End a tune, with TUNE_DONE or TUNE_FAIL. -/
def tuneEnd (s : Nat) (ok : Bool) (d : Dev) : Dev :=
  slotOpen s (setF d (if ok then F.loopStat_TUNE_DONE else F.loopStat_TUNE_FAIL) 1 s)

/-- π × 10¹⁵, rounded. -/
def piE15 : Nat := 3141592653589793

/-- n ÷ m to the nearest. -/
def nearest (n m : Nat) : Nat := (2 * n + m) / (2 * m)

/-- TU and KU of a finished tune: the mean of the last four periods, and 4 × AMP ÷ (π × a) in 1/256 units. -/
def tuneResult (t : Tune) (amp : Nat) : Nat × Nat :=
  let tu := nearest (t.ups.getD 6 0 - t.ups.getD 2 0) 4
  let pp := ((t.pps.drop 2).take 4).sum.toNat
  let ku := if pp = 0 then 0xFFFF else nearest (8192 * amp * 10 ^ 15) (piE15 * pp)
  (min 0xFFFF tu, min 0xFFFF ku)

/-- One sample of the relay: the next tune record and the output. -/
def tuneStep (t : Tune) (pv e amp hyst man last : Int) : Tune × Int :=
  let up := decide (q31 hyst < e)
  let down := decide (e < -(q31 hyst))
  let out := if up then (q15Sat (man + amp)).1 else if down then (q15Sat (man - amp)).1 else last
  let rise := up && !t.high
  let t1 := { t with high := if up then true else if down then false else t.high, n := t.n + 1,
                     lo := min t.lo pv, hi := max t.hi pv }
  if rise then
    ({ t1 with ups := t1.ups ++ [t1.n], pps := if t.ups.isEmpty then t1.pps else t1.pps ++ [t1.hi - t1.lo],
               lo := pv, hi := pv }, out)
  else (t1, out)

/-- A tune sample: relay, end after six periods, failure on feedback loss, range or a full buffer (R371). -/
def tuneSample (s : Nat) (pv sp e : Int) (d : Dev) : Dev :=
  let x := getSlot d s
  match x.tune with
  | none => d
  | some t =>
    if (lossCause d s x pv).isSome then tuneEnd s false d
    else
      let (t1, out) := tuneStep t pv e (sext 16 (getF d F.loopTune_AMP s)) (sext 16 (getF d F.loopTune_HYST s)) (slotOutMan x) x.out
      let d := putOut (modSlot d s fun x => { x with tune := some t1 }) s out
      let d := traceSample s (nodeVal pv sp e 0 out out []) d
      if 7 ≤ t1.ups.length then
        let (tu, ku) := tuneResult t1 (getF d F.loopTune_AMP s)
        tuneEnd s true (setF (setF d F.loopTres_TU tu s) F.loopTres_KU ku s)
      else if !(getSlot d s).tracing then tuneEnd s false d
      else d

/-! ### The sample command -/

/-- The set-point of a slot: slot 2 takes SPL_FF (Table LOOP-2). -/
def slotSpVal (d : Dev) (s : Nat) (x : Slot) : Int := if s = 2 then (q15Sat (splFf d)).1 else slotSp x

/-- Whether the zone force of R373 acts on the slot. -/
def zoneForced (d : Dev) (s : Nat) : Bool := decide (3 ≤ s ∧ s ≤ 14) && nget false d.thm.force (s - 3)

/-- Whether the sample counts for the flatline test: a sunk conversion does not, nor a zone without a new reading. -/
def countsFlat (d : Dev) (s : Nat) (x : Slot) : Bool :=
  let c := slotPv x
  if c < 40 then !d.adc.tested.contains c
  else if c = 0x28 then
    (zoneChans d (s - 3)).any fun ch => (List.range 32).any fun i =>
      match nget none d.thm.temps (32 * ch + i) with
      | some (_, at_) => decide (x.lastAt < at_)
      | none => false
  else true

/-- Note the PV for the flatline test. -/
def notePv (s : Nat) (pv : Int) (d : Dev) : Dev :=
  let x := getSlot d s
  if countsFlat d s x then
    modSlot d s fun x => { x with pvs := (pv :: x.pvs).take 256, lastAt := d.now,
                                  outNonzero := if x.out = 0 then 0 else x.outNonzero + 1 }
  else d

/-- The computed sample of a CLOSED slot (R356). -/
def closedSample (s : Nat) (pv sp e : Int) (sat : Bool) (d : Dev) : Dev :=
  let x := getSlot d s
  let (a, b, f1) := ffVals d s x
  let forced := zoneForced d s
  let tripped := decide (s = 0) && d.loops.tripped
  let last := slotNstage x - 1
  let load : Option (Int → Int) := match x.bump with
    | some o => if slotBiquad x last then none else some (bumpI x last a b o)
    | none => none
  let c := runStages x forced tripped load (slotNstage x) 0 { y := e, ys := [], stages := x.stages, flags := 0 }
  let (o, ff, f2) := outStep x c.y a b
  let d := modSlot d s fun x =>
    { x with stages := c.stages, bump := none,
             held := if o = slotOutMax x then 1 else if o = slotOutMin x then -1 else 0 }
  let d := setF d F.loopStat_STAGE (getF d F.loopStat_STAGE s ||| c.flags) s
  let d := when (sat || f1 || f2) (fun d => setF d F.loopStat_SAT 1 s) d
  traceSample s (nodeVal pv sp e ff o 0 c.ys) (putOut d s o)

/-- Feedback loss on a CLOSED slot (R367). -/
def takeLoss (s cause : Nat) (d : Dev) : Dev :=
  let x := getSlot d s
  let d := setF (setF d F.loopStat_LOSS 1 s) F.loopStat_LCAUSE cause s
  let fb := slotFallback x
  if fb = 2 then slotOpen s d
  else
    let d := modSlot (setLoopSt d s 2) s fun x => { x with good := 0 }
    if fb = 1 then putOut d s (slotOutSafe x) else d

/-- A sample that was dropped: the output is held (R366). -/
def dropSample (s : Nat) (d : Dev) : Dev :=
  let d := bump (setF d F.loopStat_OVERRUN 1 s) F.loopOvr_OVR_CNT s
  let n := min 8 (getF d F.loopOvr_CONSEC s + 1)
  let d := setF d F.loopOvr_CONSEC n s
  if n = 8 && decide ((getSlot d s).st = 1) then putOut (setLoopSt d s 4) s (slotOutSafe (getSlot d s)) else d

/-- A sample in the slot's state (R356, R362, R366, R367). -/
def stateSample (s : Nat) (d : Dev) : Dev :=
  let x := getSlot d s
  let (pv, sat) := q15Sat (sourceVal d s (slotPv x))
  let sp := slotSpVal d s x
  let e := q31 (sp - pv)
  let d := notePv s pv (setF (setF d F.loopIo_PV (wrapI 16 pv) s) F.loopOvr_CONSEC 0 s)
  let x := getSlot d s
  if x.st = 1 then
    match lossCause d s x pv with
    | some c => takeLoss s c d
    | none => closedSample s pv sp e sat d
  else if x.st = 2 then
    if (lossCause d s x pv).isSome then modSlot d s fun x => { x with good := 0 }
    else if 15 ≤ x.good then slotClose s d
    else modSlot d s fun x => { x with good := x.good + 1 }
  else if x.st = 3 then tuneSample s pv sp e d
  else traceSample s (nodeVal pv sp e 0 x.out 0 []) d

/-- The loop clock runs, and the configuration is in force (R349, R350). -/
def loopsRun (d : Dev) : Bool := socUp d && d.cfg.done

/-- LOOP_SAMPLE: slot s computes a sample that waited `wait` loop-clock cycles, or drops it. -/
def loopSampleDev (s wait : Nat) (dropped : Bool) (d : Dev) : Dev :=
  if s < 16 && loopsRun d then
    if dropped then dropSample s d
    else
      let dly := wait + slotCycles (getSlot d s)
      let d := peak (setF d F.loopDly_DLY_LAST (min 0xFFFF dly) s) F.loopDly_DLY_MAX dly s
      stateSample s d
  else d

/-- LOOP_SAMPLE (R356). -/
def execLoopSample (s wait : Nat) (dropped : Bool) (st : State) : Host.Outcome State Fault Refusal :=
  onDev (loopSampleDev s wait dropped) st

/-! ### Requests (R355, R362) -/

/-- The request is refused: REJ. -/
def loopRej (s : Nat) (d : Dev) : Dev := setF d F.loopStat_REJ 1 s

/-- Slots 0 to 2 take host requests only in FACTORY (R355). -/
def loopHost (d : Dev) (s : Nat) : Bool := decide (3 ≤ s) || decide (d.mode.mode = .factory)

/-- REQ = OPEN. -/
def loopOpenDev (s : Nat) (d : Dev) : Dev :=
  if !loopsRun d || decide (16 ≤ s) then d
  else if !loopHost d s || decide ((getSlot d s).st = 5) then loopRej s d
  else slotOpen s d

/-- REQ = CLOSE: from OPEN, with a section and no feedback loss. -/
def loopCloseDev (s : Nat) (d : Dev) : Dev :=
  let x := getSlot d s
  if !loopsRun d || decide (16 ≤ s) then d
  else if !loopHost d s || !x.sect || decide (x.st ≠ 0) || (lossCause d s x (q15Sat (sourceVal d s (slotPv x))).1).isSome then
    loopRej s d
  else slotClose s d

/-- REQ = TUNE: from OPEN; slot 0 outside FACTORY refused with slots 1 and 2 (R355, R371). -/
def loopTuneDev (s : Nat) (d : Dev) : Dev :=
  let x := getSlot d s
  if !loopsRun d || decide (16 ≤ s) then d
  else if !loopHost d s || !x.sect || decide (x.st ≠ 0) then loopRej s d
  else
    let d := setF (setF (setF d F.loopTrcfg_NODES 0x9280 s) F.loopTrcfg_DEC 0 s) F.loopTrcfg_MODE 1 s
    let d := traceMode s 1 d
    modSlot (setLoopSt d s 3) s fun x => { x with tune := some {} }

/-- LOOP_OPEN (R362). -/
def execLoopOpen (s : Nat) (st : State) : Host.Outcome State Fault Refusal := onDev (loopOpenDev s) st
/-- LOOP_CLOSE (R362). -/
def execLoopClose (s : Nat) (st : State) : Host.Outcome State Fault Refusal := onDev (loopCloseDev s) st
/-- LOOP_TUNE (R371). -/
def execLoopTune (s : Nat) (st : State) : Host.Outcome State Fault Refusal := onDev (loopTuneDev s) st

/-- Halfword W of slot s may be written now (R363). -/
def coeffWritable (x : Slot) (s w : Nat) : Bool :=
  if w = 0 ∨ 48 ≤ w then false
  else if w = 12 then true
  else if w = 6 then decide (s = 0 ∨ s = 15)
  else decide (x.st = 0)

/-- A write to PRM_LOOP_CDATA: halfword W of the selected slot, then W advances (R363). -/
def loopCoeffDev (v : Nat) (d : Dev) : Dev :=
  let s := getF d F.loopCsel_SLOT
  let w := getF d F.loopCsel_W
  let x := getSlot d s
  let d := if coeffWritable x s w then modSlot d s fun x => imgSet x w v else loopRej s d
  let d := if w = 12 && decide (x.st = 0) then putOut d s (slotOutMan (getSlot d s)) else d
  setF d F.loopCsel_W (if 47 ≤ w then 0 else w + 1)

/-- LOOP_COEFF_WRITE (R363). -/
def execLoopCoeffWrite (v : Word) (st : State) : Host.Outcome State Fault Refusal :=
  onDev (fun d => when (socUp d) (loopCoeffDev (nbits v.toNat 15 0)) d) st

/-- A write to PRM_LOOP_TRCFGs (R370): MODE 1 or 2 clears the buffer and starts recording. -/
def loopTrcfgDev (s v : Nat) (d : Dev) : Dev :=
  let d := setF (setF (setF d F.loopTrcfg_MODE (nbits v 25 24) s) F.loopTrcfg_DEC (nbits v 23 16) s) F.loopTrcfg_NODES (nbits v 15 0) s
  traceMode s (nbits v 25 24) d

/-- LOOP_TRACE_CFG_WRITE (R370). -/
def execLoopTraceCfgWrite (s : Nat) (v : Word) (st : State) : Host.Outcome State Fault Refusal :=
  onDev (fun d => when (decide (s < 16) && socUp d) (loopTrcfgDev s v.toNat) d) st

/-! ### The analog trip (R369) -/

/-- The comparator on input 37 finds the bus above OV_CODE: the output is forced low. 0x3FFF disables it. -/
def analogTripDev (d : Dev) : Dev :=
  if loopsRun d && decide (getF d F.loopTrip_OV_CODE ≠ 0x3FFF) then
    drive (modLoops (setF d F.loopStat_TRIP 1 0) fun l => { l with tripped := true }) 0
  else d

/-- The bus falls below OV_CODE − HYST: the output is released. -/
def analogReleaseDev (d : Dev) : Dev := drive (modLoops d fun l => { l with tripped := false }) 0

/-- ANALOG_TRIP (R369). -/
def execAnalogTrip (st : State) : Host.Outcome State Fault Refusal := onDev analogTripDev st
/-- ANALOG_TRIP_RELEASE (R369). -/
def execAnalogTripRelease (st : State) : Host.Outcome State Fault Refusal :=
  onDev (fun d => when d.loops.tripped analogReleaseDev d) st

end Sys2Proof.Machine
end

