-- ==== Sys2Proof/Machine/Profile.lean ====
section
/-! DEFINITION. Machine/Profile.lean: what the CHANNEL_MAP and the die profiles say of a LUN (R60, R100, R109 to R116). -/

namespace Sys2Proof.Machine

open Sys2Proof

/-- The CHANNEL_MAP byte of a LUN's volume: 16·c + 4·e + v is ⌊L ÷ 2⌋ (R60, R100). -/
def mapByte (d : Dev) (l : Nat) : Nat := leAt d.cfg.chanMap (l / 2) 1

/-- CHANNEL_MAP lists the LUN. -/
def lunMapped (d : Dev) (l : Nat) : Bool := decide (l < d.build.luns) && decide (l % 2 < nbits (mapByte d l) 4 3)

/-- The LUN is listed and its volume was found present at bring-up (R106). -/
def lunPresent (d : Dev) (l : Nat) : Bool := lunMapped d l && (getChan d (chanOf l)).present.getLsbD (l % 32 / 2)

/-- The LUN is isolated (R297). -/
def lunIsol (d : Dev) (l : Nat) : Bool := nbit (getReg d .ordIsol (chanOf l)) (l % 32)

/-- The LUN can be used: present and not isolated. -/
def lunUsable (d : Dev) (l : Nat) : Bool := lunPresent d l && !lunIsol d l

/-- The die profile of a LUN. -/
def profIdx (d : Dev) (l : Nat) : Nat := nbits (mapByte d l) 2 0
def profile (d : Dev) (l : Nat) : List Byte := nget [] d.cfg.profiles (profIdx d l)

/-- n bytes at p of the LUN's profile (Table CHN-3). -/
def prof (d : Dev) (l p n : Nat) : Nat := leAt (profile d l) p n

/-- The two bytes at p are a time field of the profile (Table CHN-3). -/
def timeField (p : Nat) : Bool := decide (p % 2 = 0) && decide (0x28 ≤ p ∧ p ≤ 0x3E ∨ 0xE8 ≤ p ∧ p ≤ 0xF0)

/-- Two bytes at p of profile v: a time field of zero takes the ONFI value of the timing mode (R109). -/
def profHalf (v : List Byte) (p : Nat) : Nat :=
  let x := leAt v p 2
  if timeField p && decide (x = 0) then Config.onfiTime p (leAt v 5 1) else x

/-- A time field of the LUN's profile (R109). -/
def profTime (d : Dev) (l p : Nat) : Nat := profHalf (profile d l) p

def profPlanes (d : Dev) (l : Nat) : Nat := max 1 (prof d l 0x12 1)
def profCell (d : Dev) (l : Nat) : Nat := max 1 (prof d l 0x13 1)
def profPages (d : Dev) (l : Nat) : Nat := prof d l 0x14 2
def profBlocks (d : Dev) (l : Nat) : Nat := prof d l 0x16 2
def profParity (d : Dev) (l : Nat) : Nat := prof d l 0x1C 1
def profSeed (d : Dev) (l : Nat) : Nat := prof d l 0x20 4
def profPageShift (d : Dev) (l : Nat) : Nat := prof d l 0x1A 1
def profLunShift (d : Dev) (l : Nat) : Nat := prof d l 0x1B 1

/-- A FEATURES bit (Table CHN-4). -/
def profFeat (d : Dev) (l i : Nat) : Bool := nbit (prof d l 0x24 2) i

/-- LDPC parity bytes of PARITY code p (Table CHN-3). -/
def parityBytes (p : Nat) : Nat := [256, 384, 448, 512, 640].getD p 256

/-- Bytes of an encoded codeword under the LUN's profile: 4,096 + 32 + parity. -/
def cwBytes (d : Dev) (l : Nat) : Nat := 4128 + parityBytes (profParity d l)

/-- The default opcode of a command slot (Table CHN-5). -/
def cmdDefault (i : Nat) : Nat :=
  [0x00, 0x30, 0x32, 0x31, 0x3F, 0x80, 0x10, 0x11, 0x60, 0xD0, 0x78, 0x70, 0xFA, 0xFF, 0xD4, 0xD5, 0x90, 0xEC, 0xF9,
   0xD9, 0xE1, 0xE2].getD i 0

/-- The opcode of command slot i: the profile's, or the default where it is zero (R111). -/
def cmdOpcode (d : Dev) (l i : Nat) : Nat := let v := prof d l (0x48 + i) 1; if v = 0 then cmdDefault i else v

/-- The rates of Table CHN-1 for SIG, the extension rates where `ext`, highest first (R99). -/
def rateTable (sig : Nat) (ext : Bool) : List Nat :=
  if sig = 1 then [800, 667, 533, 400, 333, 267, 200]
  else if sig = 2 then [1600, 1200, 1066, 800, 667, 533, 400]
  else if sig = 3 then (if ext then [4800, 4400, 4000] else []) ++ [3600, 3200, 2800, 2400, 2000, 1600]
  else []

/-- Row address of block b, page p of LUN l (R116). -/
def rowAddr (d : Dev) (l b p : Nat) : Nat := l % 2 * 2 ^ profLunShift d l + b * 2 ^ profPageShift d l + p

/-- Mapped LUNs of channel c. -/
def chanLuns (d : Dev) (c : Nat) : List Nat := (rangeFrom (32 * c) 32).filter fun l => lunMapped d l

/-- Every mapped LUN. -/
def allLuns (d : Dev) : List Nat := (List.range d.build.channels).flatMap fun c => chanLuns d c

/-- Multi-plane blocks of a LUN: BLOCKS (each of PLANES blocks). -/
def mpBlocks (d : Dev) (l : Nat) : Nat := profBlocks d l

end Sys2Proof.Machine
end

