-- ==== Sys2Proof/Machine/Measure.lean ====
section
/-! DEFINITION. Machine/Measure.lean: the measurement front end (R351 to R353), die and zone temperatures (R354, R372 to
R374) and the fans (R373). -/

namespace Sys2Proof.Machine

open Sys2Proof

/-! ### The front end -/

/-- The input of entry e of the frame tables: a value beyond 39 is treated as 0x3F, none. -/
def frameInput (n : Nat) : Option Nat := if n < 40 then some n else none

/-- The corrected code of a raw conversion (R352, R382). -/
def corrected (d : Dev) (adc i raw : Nat) : Int :=
  let r : Int := if i = 35 ∨ i = 36 then sext 14 raw else (raw % 16384 : Nat)
  let v := divOpen ((r - nget 0 d.adc.ofs adc) * nget 0x8000 d.adc.gain adc) 32768
  if i = 35 ∨ i = 36 then clampI (-8192) 8191 v else clampI 0 16383 v

/-- An input's result: CODE and FILT (R352). -/
def adcResult (i : Nat) (v : Int) (d : Dev) : Dev :=
  let f := sext 16 (getF d F.adcData_FILT i)
  let f1 := f + (v * 2 - f) / 2 ^ getF d F.adcCfg_FSHIFT i
  setF (setF d F.adcData_CODE (wrapI 14 v) i) F.adcData_FILT (wrapI 16 f1) i

/-- The reference or the temperature has moved: REF_SEL and ADC_CAL run again (R383). -/
def refCheck (i : Nat) (d : Dev) : Dev :=
  let c := adcCode d i
  if !d.cal.refDone then d
  else if i = 38 then
    let tol := leAt d.cfg.calSec 0x08 2
    if (d.cal.ref38 : Int) * (if d.cfg.calSec.isEmpty then 20 else tol) < (c - d.cal.ref38).natAbs * 10000 then
      modCal d fun x => { x with refRunning := true }
    else d
  else if i = 36 then
    if (max 1 (getF d F.calCfg_DELTA_T) : Int) * 128 ≤ (c * 2 - d.cal.refTemp).natAbs then
      modCal d fun x => { x with refRunning := true }
    else d
  else d

/-- A conversion of entry e of ADC a ends with a raw code. The conversion that an open test replaces is ADC_OPEN_TEST's. -/
def conversionDev (a e raw : Nat) (d : Dev) : Dev :=
  match if a < 2 ∧ e < 20 then d.adc.table[20 * a + e]? else none with
  | none => d
  | some n =>
    match frameInput n with
    | none => d
    | some i =>
      if !socUp d || (d.adc.sink.contains i && !d.adc.tested.contains i) then d
      else
        let d := modAdc d fun a => { a with sink := a.sink.filter (· ≠ i), tested := a.tested.filter (· ≠ i) }
        refCheck i (adcResult i (corrected d a i raw) d)

/-- ADC_CONVERSION_END (R351). -/
def execAdcConversionEnd (adc entry raw : Nat) (st : State) : Host.Outcome State Fault Refusal :=
  onDev (conversionDev adc entry raw) st

/-- The sunk conversion of an input whose open test this frame owes (R353): OPEN, and neither CODE nor FILT. -/
def openTestDev (i raw : Nat) (d : Dev) : Dev :=
  if socUp d && d.adc.sink.contains i && !d.adc.tested.contains i then
    let v := corrected d (d.adc.table.findIdx (· = i) / 20) i raw
    let d := modAdc d fun a => { a with tested := a.tested ++ [i] }
    setF d F.adcData_OPEN (b2n (decide (v + 2048 < adcCode d i))) i
  else d

/-- ADC_OPEN_TEST (R353). -/
def execAdcOpenTest (input raw : Nat) (st : State) : Host.Outcome State Fault Refusal := onDev (openTestDev input raw) st

/-! ### Temperatures, in 1/128 °C -/

/-- ZAGG of values: 0 mean, 1 max, 2 min (Table LOOP-7). -/
def zagg (m : Nat) (vs : List Int) : Int :=
  match vs with
  | [] => 0
  | v :: rest =>
    if m = 1 then rest.foldl max v else if m = 2 then rest.foldl min v
    else divOpen (v + rest.sum) (rest.length + 1)

/-- Zones of the THERMAL section. -/
def zones (d : Dev) : List Nat := List.range (min 12 (leAt d.cfg.thermal 0 1))

/-- The zone of a channel. -/
def zoneOf (d : Dev) (c : Nat) : Option Nat := (zones d).find? fun z => (zoneChans d z).contains c

/-- ZAGG of the channel's zone; the mean for a channel in no zone. -/
def chanZagg (d : Dev) (c : Nat) : Nat :=
  match zoneOf d c with
  | some z => zoneByte d z 0x1B % 4
  | none => 0

/-- The temperature of a channel: ZAGG of its LUN readings not older than 2 × POLL_MS, or input 36 (R354). -/
def chanTemp (d : Dev) (c : Nat) : Int :=
  let vs := chanReadings d c (ms (2 * pollMs d))
  if vs.isEmpty then adcCode d 36 * 2 else zagg (chanZagg d c) (vs.map (· * 128))

/-- The temperature of zone z (R372). -/
def zoneTemp (d : Dev) (z : Nat) : Int := zagg (zoneByte d z 0x1B % 4) ((zoneChans d z).map (chanTemp d))

/-- Whether a unit waits for the archival band on a LUN of zone z's channels (R374). -/
def zoneWaits (d : Dev) (z : Nat) : Bool :=
  d.pgm.units.any fun u => decide (u.2.st = .waitBand) && (zoneChans d z).contains (chanOf u.2.lun)

/-- The archival band ARCH_LO..ARCH_HI, °C (R207). -/
def archLo (d : Dev) : Int := sext 8 (getF d F.pgmArch_ARCH_LO)
def archHi (d : Dev) : Int := sext 8 (getF d F.pgmArch_ARCH_HI)

/-- SP_ACT of zone z (R374). -/
def zoneSpAct (d : Dev) (z : Nat) : Int :=
  if zoneWaits d z then (archLo d + archHi d) / 2 else sext 8 (getF d F.thmZsp_SP_IDLE z)

/-- Every sensing LUN of the zone reads within the band (R374). -/
def zoneInBand (d : Dev) (z : Nat) : Bool :=
  (zoneChans d z).all fun c => (chanLuns d c).all fun l =>
    !profFeat d l 8 || (match nget none d.thm.temps l with
      | some (t, _) => decide (archLo d ≤ t ∧ t ≤ archHi d)
      | none => false)

/-- Bring zone z's registers, set-point and critical force up to date (R372 to R374). -/
def zoneUpdate (d : Dev) (z : Nat) : Dev :=
  let t := zoneTemp d z
  let sp := zoneSpAct d z
  let d := setF d F.thmZstat_TEMP (wrapI 16 t) z
  let d := setF d F.thmZstat_BAND_REQ (b2n (zoneWaits d z)) z
  let d := setF d F.thmZstat_IN_BAND (b2n (zoneInBand d z)) z
  let d := setF d F.thmZsp_SP_ACT (wrapI 8 sp) z
  let d := modSlot d (z + 3) fun x => imgSet x 6 (wrapI 16 (sp * 128))
  let crit := sext 8 (getF d F.thmZsp_T_CRIT z) * 128
  let d :=
    if crit ≤ t then setF (modThm d fun x => { x with force := nset false x.force z true }) F.thmZstat_CRIT 1 z
    else if t ≤ crit - 640 then modThm d fun x => { x with force := nset false x.force z false }
    else d
  driveZone d z (if slotDst (getSlot d (z + 3)) = 0x21 then (getSlot d (z + 3)).out else 0)

/-- Every zone brought up to date. -/
def zonesUpdate (d : Dev) : Dev := each (zones d) zoneUpdate d

/-- The start of a frame: tables and corrections take effect; every 1,024th frame owes the open tests (R351, R353, R382);
the zones follow readings that have aged (R354, R372). -/
def frameStartDev (d : Dev) : Dev :=
  if !socUp d then d
  else
    let n := d.adc.frames + 1
    let due := if n % 1024 = 0 then (List.range 40).filter fun i => isSet d F.adcCfg_OPEN_EN i else []
    let ok := isSet d F.adcStat_CAL_OK
    let d := modAdc d fun a =>
      { a with frames := n, started := true, table := (List.range 40).map fun e => getF d F.adcFrame_INPUT e,
               ofs := nset 0 (nset 0 [] 0 (if ok then sext 16 (getF d F.calAdc_OFS 0) else 0)) 1
                 (if ok then sext 16 (getF d F.calAdc_OFS 1) else 0),
               gain := nset 0x8000 (nset 0x8000 [] 0 (if ok then getF d F.calAdc_GAIN 0 else 0x8000)) 1
                 (if ok then getF d F.calAdc_GAIN 1 else 0x8000),
               sink := due, tested := [] }
    zonesUpdate (setF d F.adcStat_RUN 1)

/-- ADC_FRAME_START (R351). -/
def execAdcFrameStart (st : State) : Host.Outcome State Fault Refusal := onDev frameStartDev st

/-- A reading of LUN l: TEMP_OFS is already in it (Table CHN-3). A poll later than R354 allows counts in LATE. -/
def takeReading (l : Nat) (t : Int) (d : Dev) : Dev :=
  let last := nget 0 d.thm.polled l
  let lim := ms (2 * pollMs d)
  let late := decide (last ≠ 0) && (decide (lim < d.now - last) || (decide (d.hk.shed = 5) && decide (lim ≤ d.now - last)))
  let d := when late (fun d => bump d F.thmPoll_LATE) d
  modThm d fun x => { x with temps := nset none x.temps l (some (t, d.now)), polled := nset 0 x.polled l d.now }

/-- PRM_THM_CHTc as it reads now: age of the newest reading, highest and lowest current reading. -/
def chtValue (d : Dev) (c : Nat) : Nat :=
  let times := (List.range 32).filterMap fun i => (nget none d.thm.temps (32 * c + i)).map fun p => p.2
  let age := match times with
    | [] => 0xFF
    | t :: ts => min 0xFF ((d.now - ts.foldl max t) / ms 100)
  let vs := chanReadings d c (ms (2 * pollMs d))
  match vs with
  | [] => age * 2 ^ 24
  | v :: rest => age * 2 ^ 24 + wrapI 8 (rest.foldl max v) * 256 + wrapI 8 (rest.foldl min v)

/-! ### Fans -/

/-- PPR of the THERMAL section. -/
def tachPpr (d : Dev) : Nat := max 1 (leAt d.cfg.thermal 4 1)

/-- A counting time of 1 s that has run out gives the speed (R373). -/
def tachWindow (j : Nat) (d : Dev) : Dev :=
  if ms 1000 ≤ d.now - nget 0 d.thm.countFrom j then
    let rpm := nget 0 d.thm.edges j * 60 / tachPpr d
    setF (modThm d fun x => { x with edges := nset 0 x.edges j 0, countFrom := nset 0 x.countFrom j d.now })
      F.thmTach_RPM (min 0xFFFF rpm) j
  else d

/-- TACH_EDGE: one filtered edge of TACH[j] (R373). -/
def tachEdgeDev (j : Nat) (d : Dev) : Dev :=
  if socUp d && decide (j < 8) && filterMay d (5 + j) then
    let d := modInput (tachWindow j d) (5 + j) fun y => { y with filterFrom := d.now + getF d F.pwrIncfg_FILTER (5 + j) }
    modThm d fun x => { x with edges := nset 0 x.edges j (nget 0 x.edges j + 1) }
  else d

/-- TACH_EDGE (R373). -/
def execTachEdge (j : Nat) (st : State) : Host.Outcome State Fault Refusal := onDev (tachEdgeDev j) st

/-- FAN_FAIL: zone z's fan has turned below FAN_MIN for 2 s at a duty above zero (R373). -/
def fanFailDev (z : Nat) (d : Dev) : Dev :=
  let f := zoneByte d z 0x19
  let j := zoneByte d z 0x1A
  if socUp d && (zones d).contains z && decide (f ≠ 0xFF) && decide (j ≠ 0xFF) && decide (0 < nget 0 d.loops.duty f)
      && decide (getF d F.thmTach_RPM j < 100 * zoneByte d z 0x1F) then
    setF d F.thmZstat_FAN_FAIL 1 z
  else d

/-- FAN_FAIL (R373). -/
def execFanFail (z : Nat) (st : State) : Host.Outcome State Fault Refusal := onDev (fanFailDev z) st

/-- High time of a PWM output in counts: ⌊duty × (PERIOD + 1)⌋, none where PERIOD is 0 (R376). -/
def pwmHigh (d : Dev) (n : Nat) : Nat :=
  let p := getF d F.thmPwm_PERIOD n
  if p = 0 then 0 else (nget 0 d.loops.duty n).toNat * (p + 1) / 32768

/-- What a PWM output does: a steady level, or a high time in a period, both in counts of the loop clock divided by 2^PRESC. -/
inductive PwmPin where
  | level (high : Bool)
  | pulses (high period presc : Nat)
  deriving DecidableEq, Repr

/-- PWM output n: DLVL in DORMANT, low before the end of LOADING and with no supply, else its duty (R350, R376). -/
def pwmPin (d : Dev) (n : Nat) : PwmPin :=
  if d.mode.mode = .dormant then .level (isSet d F.thmPwm_DLVL n)
  else if d.mode.mode = .off ∨ !d.cfg.done ∨ getF d F.thmPwm_PERIOD n = 0 then .level false
  else .pulses (pwmHigh d n) (getF d F.thmPwm_PERIOD n + 1) (getF d F.thmPwm_PRESC n)

end Sys2Proof.Machine
end

