-- ==== Sys2Proof/Machine/Cal.lean ====
section
/-! DEFINITION. Machine/Cal.lean: calibration (R379 to R391): triggers, runs and their plausibility and agreement,
pending sets and how they take force, the reference and the ADC corrections; and the die-temperature poll. -/

namespace Sys2Proof.Machine

open Sys2Proof

def getCal (d : Dev) (c : Nat) : CalCh := nget {} d.cal.chans c
def modCalCh (d : Dev) (c : Nat) (f : CalCh → CalCh) : Dev := modCal d fun x => { x with chans := nmod {} x.chans c f }

/-- The channel is listed by CHANNEL_MAP. -/
def chanMapped (d : Dev) (c : Nat) : Bool := decide (c < d.build.channels) && !(chanLuns d c).isEmpty

/-- Calibration may start on the channel: its group powered, and not in HOLDUP, SANITIZE or LOADING (R388). -/
def calMayStart (d : Dev) (c : Nat) : Bool :=
  chanMapped d c && linkUp d (groupOf c) && d.mode.mode.flash && decide (d.mode.mode ≠ .holdup ∧ d.mode.mode ≠ .sanitize)

/-- A trigger of kind 1 recalibrate, 2 FULL or 3 CHECK (R388, R389): starts, or waits; dropped while a set is pending. -/
def calTrigger (c kind : Nat) (d : Dev) : Dev :=
  let x := getCal d c
  if !chanMapped d c || x.pending.isSome || decide (x.running ≠ 0) then d
  else if calMayStart d c then
    modCalCh d c fun x => { x with running := kind, run1 := none, pairs := 0, temp := chanTemp d c, waiting := 0 }
  else modCalCh d c fun x => { x with waiting := kind }

/-- A calibration that the SoC side asks for: a CTRL_REQ to the channel's group, or it waits for the group's power (R10, R388). -/
def calAsk (c kind : Nat) (d : Dev) : Dev :=
  if !chanMapped d c then d
  else if linkUp d (groupOf c) then hsend (groupOf c) 0 (.ctrlReq (.cal c kind)) d
  else modCalCh d c fun x => { x with waiting := kind }

/-- Calibrations that waited start once they may (R388). -/
def calWake (d : Dev) : Dev :=
  each d.cal.chans (fun d p => if p.2.waiting ≠ 0 ∧ calMayStart d p.1 then calTrigger p.1 (getCal d p.1).waiting d else d) d

/-- The channel's temperature differs by DELTA_T or more from that of its last calibration (R388). -/
def calTempMoved (d : Dev) (c : Nat) : Bool :=
  let x := getCal d c
  x.calibrated && decide ((max 1 (getF d F.calCfg_DELTA_T) : Int) * 128 ≤ (chanTemp d c - x.temp).natAbs)

/-! ### What a run's measurements give (R380, R381, R385) -/

/-- The cells that a delay line runs with: the first 64, in order, of those within 20 % of the mean delay (R380). -/
def cellPick (ts : List Nat) : List Nat :=
  let n := ts.length
  let sum := ts.sum
  (((List.range n).filter fun i => decide (5 * (ts.getD i 0 * n) ≤ 6 * sum ∧ 4 * sum ≤ 5 * (ts.getD i 0 * n)))).take 64

/-- The parallel value of legs as a fraction of Ω. -/
def legsOhm (rs : List Nat) : Nat × Nat :=
  let g := rs.foldl (fun (a : Nat × Nat) r => (a.1 * r + a.2, a.2 * r)) (0, 1)
  (g.2, g.1)

/-- How far a fraction lies from a target, as a fraction. -/
def farFrom (target : Nat) (x : Nat × Nat) : Nat × Nat := (Int.natAbs ((x.1 : Int) - target * x.2), x.2)

/-- The number of legs whose parallel value is nearest the target, of those within 30 % of nominal; and whether it lies within 10 % of the
target (R381). DESIGN CHOICE (log 104): the first legs in order, the fewer of equally near numbers; with fewer than 16 good legs none. -/
def legsPick (nominal target : Nat) (legs : List Nat) : Nat × Bool :=
  let good := legs.filter fun r => decide (7 * nominal ≤ 10 * r ∧ 10 * r ≤ 13 * nominal)
  let cand := ((rangeFrom 16 5).filter fun n => decide (n ≤ good.length)).map fun n => (n, farFrom target (legsOhm (good.take n)))
  match cand with
  | [] => (0, false)
  | c :: cs =>
    let best := cs.foldl (fun b x => if x.2.1 * b.2.2 < b.2.1 * x.2.2 then x else b) c
    (best.1, decide (10 * best.2.1 ≤ target * best.2.2))

/-- DRV_OHM and ODT_OHM of the CAL section (Table CAL-5). -/
def drvOhm (d : Dev) : Nat := if d.cfg.calSec.isEmpty then 40 else leAt d.cfg.calSec 0x06 1
def odtOhm (d : Dev) : Nat := if d.cfg.calSec.isEmpty then 60 else leAt d.cfg.calSec 0x07 1

/-- The training pattern (R385, Table CAL-5): PATTERN, or bytes 0x00 to 0x1F where the section is absent. -/
def calPattern (d : Dev) : List Byte :=
  if d.cfg.calSec.isEmpty then (List.range 32).map (BitVec.ofNat 8) else slice d.cfg.calSec 0x20 32

/-- The pattern source of a procedure (Table CAL-2, R385). -/
inductive PatSource where
  | none
  | zqPin
  /-- ONFI Read DQ Training or Write Training Tx and Rx, with these bytes. -/
  | readTraining (bytes : List Byte)
  | writeTraining (bytes : List Byte)
  /-- READ PARAMETER PAGE, checked by its CRC. -/
  | paramPage
  deriving DecidableEq, Repr

/-- A procedure runs in a signalling mode (R379, R385): on NV-DDR2 no per-bit deskew, VREF, DFE or write training, and DFE at the
extension rates only. -/
def procRuns (sig : Nat) (ext : Bool) (proc : Nat) : Bool :=
  if sig = 1 then [1, 2, 3, 5, 10].contains proc else if proc = 7 then ext else decide (1 ≤ proc ∧ proc ≤ 10)

/-- What a procedure compares with. -/
def procSource (sig proc : Nat) (pat : List Byte) : PatSource :=
  if proc = 1 then .none
  else if proc = 2 ∨ proc = 3 then .zqPin
  else if sig = 1 then .paramPage
  else if proc = 8 ∨ proc = 9 then .writeTraining pat
  else .readTraining pat

/-- What a CE_n line's set holds in a signalling mode. -/
def ceLimit (sig : Nat) (ext : Bool) (s : CeSet) : CeSet :=
  if sig = 1 then { rdCentre := s.rdCentre, rdEyes := s.rdEyes }
  else { s with dfe := if ext then s.dfe else [] }

/-- The set that a run's measurements give at a signalling mode; `old`: the cells that stay in force where CELL_MEAS did not run. -/
def calSet (d : Dev) (sig : Nat) (ext : Bool) (old : List (List Nat)) (m : CalMeas) : CalSet :=
  let ls := [legsPick 800 (drvOhm d) m.drvUp, legsPick 800 (drvOhm d) m.drvDn, legsPick 1200 (odtOhm d) m.odtUp, legsPick 1200 (odtOhm d) m.odtDn]
  { lines := m.lines.map (ceLimit sig ext), cells := if m.cells.isEmpty then old else m.cells.map cellPick,
    legs := ls.map fun p => (p.1 : Int), near := ls.all (·.2) }

/-- Widest less narrowest of a byte's taps. -/
def spread (ts : List Nat) : Nat := ts.foldl max 0 - ts.foldl min (ts.headD 0)

/-- A CE_n line's set within the limits of Table CAL-3. -/
def cePlausible (s : CeSet) : Bool :=
  ((s.rdEyes ++ s.wrEyes).all fun e => decide (12 ≤ e)) && decide (spread s.rdDeskew ≤ 16) && decide (spread s.wrDeskew ≤ 16) &&
    ((s.rdCentre :: s.wrLevel.toList).all fun p => decide (4 ≤ p ∧ p ≤ 59)) &&
    (s.vref.toList.all fun v => decide (70 ≤ v ∧ v ≤ 130)) && s.dfe.all fun v => decide (0 ≤ v ∧ v ≤ 12)

/-- The limits of Table CAL-3. -/
def calPlausible (r : CalSet) : Bool := r.lines.all cePlausible && r.near

/-- Two lists agree within n, member by member. -/
def within (n : Nat) (a b : List Int) : Bool :=
  decide (a.length = b.length) && (a.zip b).all fun p => decide ((p.1 - p.2).natAbs ≤ n)

/-- The delays of a CE_n line. -/
def ceDelays (s : CeSet) : List Int :=
  (s.rdCentre :: s.rdDeskew ++ s.wrLevel.toList ++ s.wrDeskew).map fun n : Nat => (n : Int)

/-- Two runs of a line agree (R386). -/
def ceAgree (a b : CeSet) : Bool :=
  within 2 (ceDelays a) (ceDelays b) && within 2 a.vref.toList b.vref.toList && within 1 a.dfe b.dfe

/-- Two runs agree (R386). -/
def calAgree (a b : CalSet) : Bool :=
  decide (a.lines.length = b.lines.length) && ((a.lines.zip b.lines).all fun p => ceAgree p.1 p.2) && within 1 a.legs b.legs

/-- The mean of two values, rounded towards the first (R386). -/
def mean1 (a b : Int) : Int := a + Int.tdiv (b - a) 2
def meanTo (a b : List Int) : List Int := (a.zip b).map fun p => mean1 p.1 p.2
def meanNat (a b : List Nat) : List Nat := (a.zip b).map fun p => (mean1 p.1 p.2).toNat

def ceMean (a b : CeSet) : CeSet :=
  { rdCentre := (mean1 a.rdCentre b.rdCentre).toNat, rdDeskew := meanNat a.rdDeskew b.rdDeskew, rdEyes := meanNat a.rdEyes b.rdEyes,
    wrLevel := (meanNat a.wrLevel.toList b.wrLevel.toList).head?, wrDeskew := meanNat a.wrDeskew b.wrDeskew,
    wrEyes := meanNat a.wrEyes b.wrEyes, vref := (meanTo a.vref.toList b.vref.toList).head?, dfe := meanTo a.dfe b.dfe }

/-- The mean of two runs. DESIGN CHOICE (log 104): the cell selection is the first run's. -/
def calMean (a b : CalSet) : CalSet :=
  { a with lines := (a.lines.zip b.lines).map fun p => ceMean p.1 p.2, legs := meanTo a.legs b.legs }

/-- A delay line has fewer than 48 good cells: the channel trains at no rate (R380). -/
def cellsFail (r : CalSet) : Bool := r.cells.any fun l => decide (l.length < 48)

/-- The set that the runs of a whole calibration leave, where they pass (R386): on premel64 a pair that agrees, of two at most. -/
def calRuns (b : Build) (rs : List CalSet) : Option CalSet :=
  let ok := fun r => if calPlausible r && !cellsFail r then some r else none
  if b ≠ .premel64 then rs.head?.bind ok
  else
    match rs with
    | r1 :: r2 :: rest =>
      (ok r1).bind fun a => (ok r2).bind fun b =>
        if calAgree a b then some (calMean a b)
        else match rest with
          | r3 :: r4 :: _ => (ok r3).bind fun a => (ok r4).bind fun b => if calAgree a b then some (calMean a b) else none
          | _ => none
    | _ => none

/-- The CE_n line's set in force on the channel's bus (R379): that of the line the bus engine has taken low. -/
def busSet (d : Dev) (c : Nat) : Option CeSet :=
  (getChan d c).ceLow.bind fun e => ((getCal d c).force.map (·.lines)).bind fun ls => ls[e]?

/-- A calibration-done EVENT for the channel, with the results of a set that took force (R379). -/
def calEvent (c outcome : Nat) (d : Dev) : Dev :=
  let x := getCal d c
  hsend (groupOf c) 1 (.event (.calDone c outcome x.temp (if outcome < 2 then x.force else none))) d

/-- The calibration ends without a set: the values in force stay (R387). -/
def calEnd (c : Nat) (d : Dev) : Dev := modCalCh d c fun x => { x with running := 0, run1 := none, pairs := 0 }

/-- The run's set becomes the pending shadow set; a CHECK leaves none. -/
def calPend (c : Nat) (r : CalSet) (d : Dev) : Dev :=
  let x := getCal d c
  if x.running = 3 then calEnd c d
  else modCalCh (calEnd c d) c fun y => { y with pending := some (r, x.temp), pendingAt := d.now, deferFrom := none }

/-- The set of channel c's run with these measurements. -/
def calRunSet (d : Dev) (c : Nat) (m : CalMeas) : CalSet :=
  let h := getChan d c
  calSet d h.sig h.ext (((getCal d c).force.map (·.cells)).getD []) m

/-- CAL_RUN_COMPLETE: a run of the calibration in progress ends with results (R386, R387). -/
def calRunDev (c : Nat) (m : CalMeas) (d : Dev) : Dev :=
  let x := getCal d c
  let r := calRunSet d c m
  if x.running = 0 || !linkUp d (groupOf c) then d
  else if cellsFail r then
    let d := modChan (calEnd c d) c fun h => { h with failed := true, up := false }
    hsend (groupOf c) 1 (.event (.rateFailed c)) d
  else if !calPlausible r then calEvent c 2 (calEnd c d)
  else if d.build = .premel64 && decide (x.running ≠ 3) then
    match x.run1 with
    | none => modCalCh d c fun y => { y with run1 := some r }
    | some a =>
      if calAgree a r then calPend c (calMean a r) d
      else
        let d := calEvent c 3 d
        if x.pairs = 0 then modCalCh d c fun y => { y with run1 := none, pairs := 1 } else calEnd c d
  else calPend c r d

/-- CAL_RUN_COMPLETE (R386). -/
def execCalRunComplete (ch : Nat) (r : CalMeas) (st : State) : Host.Outcome State Fault Refusal := onDev (calRunDev ch r) st

/-- The pending set takes force as a whole (R390); afterwards the temperature is looked at again (R389). -/
def calApply (c outcome : Nat) (d : Dev) : Dev :=
  match (getCal d c).pending with
  | none => d
  | some (r, t) =>
    let d := modCalCh d c fun y =>
      { y with pending := none, force := some r, temp := t, calibrated := true, deferFrom := none }
    let d := calEvent c outcome d
    when (calTempMoved d c) (calTrigger c 1) d

/-- The bus engine is empty and no routine holds the bus (R390). -/
def busIdle (d : Dev) (c : Nat) : Bool := (getChan d c).bus.isEmpty && (getChan d c).running.isNone

/-- Class-0 work is queued, running or parked on the channel (R391). -/
def class0Present (d : Dev) (c : Nat) : Bool :=
  ((rangeFrom (32 * c) 32).any fun l => !(getSched d l).q0.isEmpty ||
    (match (getSched d l).chosen with | some o => decide (o.cls = 0) | none => false)) ||
  (getChan d c).recs.any fun r => decide (r.2.op.cls = 0)

/-- CAL_APPLY_GAP: the channel has had its 2 µs gap (R390). -/
def calGapDev (c : Nat) (d : Dev) : Dev :=
  if linkUp d (groupOf c) && d.mode.mode.flash && busIdle d c then calApply c 0 d else d

/-- CAL_APPLY_GAP (R390). -/
def execCalApplyGap (ch : Nat) (st : State) : Host.Outcome State Fault Refusal := onDev (calGapDev ch) st

/-- The forced gap of a channel goes on (R391): once no routine holds the bus its cycles are withheld; once the bus engine is empty the
switch is made. -/
def calGapGo (c : Nat) (d : Dev) : Dev :=
  if !(getCal d c).forcing || (getChan d c).running.isSome then d
  else
    let d := modCalCh d c fun y => { y with gapAt := some (y.gapAt.getD d.now) }
    if (getChan d c).bus.isEmpty then calApply c 1 d else d

/-- CAL_FORCE_EXPIRY: FORCE_MS has passed since the set became pending (R391). While class-0 work is present the force waits, and its
time counts in DEFER; without it no routine takes the bus after the next YIELD of the one that holds it. -/
def calForceDev (c : Nat) (d : Dev) : Dev :=
  let x := getCal d c
  if x.pending.isNone || x.forcing || !linkUp d (groupOf c) || !d.mode.mode.flash || decide (d.mode.mode = .holdup)
      || decide (d.now < x.pendingAt + ms (max 1 (getF d F.calCfg_FORCE_MS))) then d
  else if class0Present d c then
    modCalCh d c fun y => { y with deferFrom := some (y.deferFrom.getD d.now) }
  else
    let d := match x.deferFrom with
      | some t => hsend (groupOf c) 1 (.stats (regOff .calChstat c) 15 0 (min 0xFFFF ((d.now - t) / us 10)) 2) d
      | none => d
    calGapGo c (modCalCh d c fun y => { y with forcing := true, gapAt := none, deferFrom := none })

/-- A forced gap has ended: its set is in force, and 4 µs have passed since its first withheld cycle (R391). -/
def calGapOver (d : Dev) (c : Nat) : Bool :=
  let x := getCal d c
  x.forcing && x.pending.isNone && (match x.gapAt with | some t => decide (t + us 4 ≤ d.now) | none => true)

/-- The bus of the channel is not lent to a routine: a gap is being forced. -/
def calHolds (d : Dev) (c : Nat) : Bool := (getCal d c).forcing

/-- CAL_FORCE_EXPIRY (R391). -/
def execCalForceExpiry (ch : Nat) (st : State) : Host.Outcome State Fault Refusal := onDev (calForceDev ch) st

/-- Gating and HOLDUP entry discard a pending set (R389), and end a run in progress, which the next trigger starts again. -/
def calDiscard (c : Nat) (d : Dev) : Dev :=
  modCalCh d c fun x => { x with pending := none, running := 0, run1 := none, pairs := 0, deferFrom := none,
                                 forcing := false, gapAt := none,
                                 waiting := if x.running ≠ 0 then x.running else x.waiting }

/-- INTERVAL_H of the CAL section, 0 where it is absent (Table CAL-5). -/
def calIntervalH (d : Dev) : Nat := leAt d.cfg.calSec 0x04 2

/-- CAL_INTERVAL_EXPIRY: INTERVAL_H hours of age clock since the channel's last calibration; held at shed step 2 (R388, R421). -/
def calIntervalDev (c : Nat) (d : Dev) : Dev :=
  if decide (calIntervalH d ≠ 0) && decide (calIntervalH d * 60 ≤ d.ageMin - (getCal d c).lastMin) && decide (d.hk.shed < 2)
  then calAsk c 1 d else d

/-- CAL_INTERVAL_EXPIRY (R388). -/
def execCalIntervalExpiry (ch : Nat) (st : State) : Host.Outcome State Fault Refusal := onDev (calIntervalDev ch) st

/-- A request of PRM_CAL_REQ: one channel, or every present one. -/
def calReqDev (kind c : Nat) (all : Bool) (d : Dev) : Dev :=
  if !socUp d then d
  else if all then each (List.range d.build.channels) (fun d c => calAsk c kind d) d
  else calAsk c kind d

/-- CAL_REQ_RECAL (R388). -/
def execCalReqRecal (ch : Nat) (all : Bool) (st : State) : Host.Outcome State Fault Refusal := onDev (calReqDev 1 ch all) st
/-- CAL_REQ_FULL (R388). -/
def execCalReqFull (ch : Nat) (all : Bool) (st : State) : Host.Outcome State Fault Refusal := onDev (calReqDev 2 ch all) st
/-- CAL_REQ_CHECK (R388). -/
def execCalReqCheck (ch : Nat) (all : Bool) (st : State) : Host.Outcome State Fault Refusal := onDev (calReqDev 3 ch all) st

/-! ### Reference and ADC corrections (R382) -/

/-- REF_TOL in 0.01 %, 20 where the CAL section is absent. -/
def refTol (d : Dev) : Nat := if d.cfg.calSec.isEmpty then 20 else leAt d.cfg.calSec 0x08 2

/-- The bandgap pairs in the order of the measured differences. -/
def refPairs : List (Nat × Nat) := [(0, 1), (0, 2), (0, 3), (1, 2), (1, 3), (2, 3)]

/-- The pair whose difference is smallest, the first of equals: main, spare and difference. -/
def refPick (ds : List Nat) : Nat × Nat × Nat :=
  (ds.zip refPairs).foldl (fun b p => if p.1 < b.2.2 then (p.2.1, p.2.2, p.1) else b) (0, 1, ds.getD 0 0)

/-- REF_SEL and ADC_CAL run with these measurements (R382, Table CAL-3). -/
def calRefDev (m : RefMeas) (d : Dev) : Dev :=
  if !socUp d then d
  else
    let (a, b, df) := refPick m.diffs
    let d := modCal d fun x => { x with refRunning := false }
    let d := setF d F.calRef_DIFF (min 0xFFFF df)
    if refTol d < df then setF d F.calRef_REF_FAIL 1
    else
      let d := setF (setF d F.calRef_MAIN a) F.calRef_SPARE b
      let ok := decide (m.ofs0.natAbs ≤ 64) && decide (m.ofs1.natAbs ≤ 64) &&
        ([m.gain0, m.gain1].all fun g => decide (32768 * 95 ≤ g * 100 ∧ g * 100 ≤ 32768 * 105))
      if !ok then bump d F.calCnt_PLAUS_FAIL
      else
        let d := setF (setF d F.calAdc_OFS (wrapI 16 m.ofs0) 0) F.calAdc_GAIN m.gain0 0
        let d := setF (setF d F.calAdc_OFS (wrapI 16 m.ofs1) 1) F.calAdc_GAIN m.gain1 1
        modCal (setF d F.adcStat_CAL_OK 1) fun x =>
          { x with refDone := true, ref38 := m.i38, refTemp := adcCode d 36 * 2 }

/-- CAL_REQ_REF (R382). -/
def execCalReqRef (m : RefMeas) (st : State) : Host.Outcome State Fault Refusal := onDev (calRefDev m) st

/-! ### Die-temperature poll (R114, R354) -/

/-- The LUN can be polled: a sensor, ready, nothing suspended, no class-0 read waiting (R114). -/
def canPoll (d : Dev) (l : Nat) : Bool :=
  lunUsable d l && profFeat d l 8 && d.mode.mode.flash && linkUp d (groupOf (chanOf l)) &&
    !(getSched d l).suspended && (getSched d l).q0.isEmpty &&
    (nfind (getChan d (chanOf l)).recs (2 * (l % 32))).isNone && (nfind (getChan d (chanOf l)).recs (2 * (l % 32) + 1)).isNone

/-- The temperature that P1 of TEMP_FEAT gives: P1 + TEMP_OFS (Table CHN-3). DEDUCED (log 99): P1 is unsigned. -/
def dieTemp (d : Dev) (l : Nat) (p1 : BitVec 8) : Int := p1.toNat + sext 8 (prof d l 0x43 1)

/-- A poll that met a busy or suspended LUN is due again at its next ready state (R114). -/
def pollDue (l : Nat) (due : Bool) (d : Dev) : Dev := modThm d fun x => { x with retry := nset false x.retry l due }

/-- DIE_TEMP_POLL: one reading, by LUN GET FEATURES at TEMP_FEAT; zones follow, and a channel whose temperature has moved is calibrated
(R388). -/
def dieTempDev (l : Nat) (p1 : BitVec 8) (d : Dev) : Dev :=
  if canPoll d l then
    let d := zonesUpdate (takeReading l (dieTemp d l p1) (pollDue l false d))
    when (calTempMoved d (chanOf l)) (calAsk (chanOf l) 1) d
  else when (lunUsable d l && profFeat d l 8 && d.mode.mode.flash) (pollDue l true) d

/-- DIE_TEMP_POLL (R354). -/
def execDieTempPoll (lun : Nat) (p1 : BitVec 8) (st : State) : Host.Outcome State Fault Refusal := onDev (dieTempDev lun p1) st

/-- PENDING and RUNNING of each channel as the media side has them, for its report (PRM_CAL_CHSTATc, R462). -/
def calLevels (d : Dev) : List (FRef × Nat × Nat) :=
  d.cal.chans.flatMap fun p => [(F.calChstat_PENDING, p.1, b2n p.2.pending.isSome), (F.calChstat_RUNNING, p.1, b2n (decide (p.2.running ≠ 0)))]

/-- The summary that a calibration-done EVENT copies (R379, R380); outcome 4 is a bring-up's, which no count of PRM_CAL_CNT names. -/
def calDoneSoc (c outcome : Nat) (temp : Int) (set : Option CalSet) (d : Dev) : Dev :=
  let d := if outcome = 4 then d else bump d ([F.calCnt_APPLIED, F.calCnt_FORCED, F.calCnt_PLAUS_FAIL].getD outcome F.calCnt_AGREE_FAIL)
  match set with
  | none => d
  | some r =>
    let d := modCalCh d c fun y => { y with lastMin := d.ageMin }
    let eyes := r.lines.flatMap fun s => s.rdEyes ++ s.wrEyes
    let d := setF d F.calChstat_LAST_T (wrapI 8 (temp / 128)) c
    let d := setF d F.calChstat_SHORT (b2n (r.cells.any fun l => decide (l.length < 64))) c
    let d := setF d F.calChres_EYE (min 63 (eyes.foldl min 63)) c
    let d := setF d F.calChres_SPARES ((r.cells.map fun l => (l.filter fun i => decide (64 ≤ i)).length).foldl max 0) c
    setF (setF d F.calChres_DRV_LEGS (r.legs.getD 1 0).toNat c) F.calChres_ODT_LEGS (r.legs.getD 3 0).toNat c

end Sys2Proof.Machine
end

