-- ==== Sys2Proof/Machine/Integrity.lean ====
section
/-! DEFINITION. Machine/Integrity.lean: internal memory integrity (R396 to R402): the error log, counts, scrubbing. -/

namespace Sys2Proof.Machine

open Sys2Proof

/-- Memories whose errors the media side reports in EVENT messages (R397). -/
def memMedia (m : Nat) : Bool := [0x0, 0x2, 0x3, 0x6, 0x7, 0xA].contains m

/-- Memories that lose their power with their channel group (Table MEM-1). -/
def memGroup (m : Nat) : Bool := [0x2, 0x3].contains m

/-- An error enters the log: the word's entry, a free entry, or DROPPED and LOG_FULL (R399). -/
def memLogAdd (m i a k : Nat) (d : Dev) : Dev :=
  let hit := fun e : MemErr => decide (e.memid = m ∧ e.inst = i ∧ e.addr = a)
  if d.mem.log.any hit then
    let up := fun e : MemErr => { e with count := min 0xFF (e.count + 1), kind := max e.kind k }
    modMem d fun x => { x with log := x.log.map fun e => if hit e then up e else e }
  else if d.mem.log.length < 32 then
    modMem d fun x => { x with log := x.log ++ [⟨m, i, a, k, 1⟩] }
  else bump (setF d F.memEvt_LOG_FULL 1) F.memEvt_DROPPED

/-- The SoC side learns of an error: logged, and UE raised where it is uncorrectable (R397). -/
def memErrSoc (m i a k : Nat) (d : Dev) : Dev :=
  when (decide (k = 3)) (fun d => setF d F.memEvt_UE 1) (memLogAdd m i a k d)

/-- A word of the hatch send buffers is one of the media-side ends. DESIGN CHOICE (log 108): the manual does not say which words are. -/
def mediaEnd (i a : Nat) : Bool := decide (Config.wordHolds 0xB i a % 2 = 1)

/-- A read of a word finds a syndrome: 1 single, 2 double, 3 uncorrectable (R397). -/
def memError (m i a k : Nat) (d : Dev) : Dev :=
  let f := if k = 3 then F.memCnt_UE else F.memCnt_CE
  let d := modMem d fun x =>
    if k = 3 then { x with poison := if x.poison.contains (m, i, a) then x.poison else x.poison ++ [(m, i, a)] } else x
  if memGroup m then statsUp (groupOf i) f m 1 (hsend (groupOf i) 1 (.event (.memError m i a k)) d)
  else if decide (m = 0xB) && mediaEnd i a then statsUp i f m 1 (hsend i 1 (.event (.memError m i a k)) d)
  else if memMedia m then statsCommon f m 1 (commonSend (.event (.memError m i a k)) d)
  else bump (memErrSoc m i a k d) f m

/-- A word is known uncorrectable. -/
def poisoned (d : Dev) (m i a : Nat) : Bool := d.mem.poison.contains (m, i, a)

/-- A functional write replaces the words of a memory instance that satisfy p (R397). -/
def cleanWords (p : Nat × Nat × Nat → Bool) (d : Dev) : Dev :=
  modMem d fun x => { x with poison := x.poison.filter fun w => !p w }

/-- The scrubber's steps in one lap of an instance: 512-bit lines for the pantry and the map cache, words elsewhere
(Table MEM-1, R401). -/
def lapSteps (m : Nat) : Nat :=
  [8192, 8192, 512, 1024, 131072, 256, 2048, 327680, 1024, 196608, 2048, 2304].getD m 1

/-- Words read at one step. -/
def lineWords (m : Nat) : Nat := if m ≤ 1 then 8 else 1

/-- The clock of instance i of a memory runs: in STANDBY and DORMANT the retained register file's alone; on the media side where
its group, or media common, is powered (R11, R401). -/
def scrubRuns (d : Dev) (m i : Nat) : Bool :=
  running d && (decide (m = 5) || d.mode.mode.awake &&
    (if memGroup m then groupOn d (groupOf i) else if m = 0xB then groupOn d i else !memMedia m || commonOn d))

/-- The byte address in the pantry of word a of bank i: 64-byte lines are interleaved across the banks (R157). -/
def pantryAddr (d : Dev) (i a : Nat) : Nat := (a / 8 * d.build.channels + i) * 64 + a % 8 * 8

/-- Pantry bytes a..a + n − 1 are written: their words hold good data again (R397). -/
def pantryClean (a n : Nat) (d : Dev) : Dev :=
  cleanWords (fun w => decide (w.1 = 0) && decide (a ≤ pantryAddr d w.2.1 w.2.2 ∧ pantryAddr d w.2.1 w.2.2 < a + n)) d

/-- A poisoned word of the retained register file holds part of record r: 0 the journal head, 1 the epoch, 2 the hold-up record. DESIGN
CHOICE (log 108): the manual does not say which words hold which record. -/
def retBad (d : Dev) (r : Nat) : Bool := d.mem.poison.any fun w => decide (w.1 = 5 ∧ Config.wordHolds 5 w.2.1 w.2.2 = r)

/-- The queue whose state a word of the queue state holds: SQ 0 to 63, CQ 64 to 127 (log 108). -/
def queueOf (a : Nat) : Nat := Config.wordHolds 9 0 a % 128

/-- The state of a queue is used: a poisoned copy of a word is written again from the other copy (Table MEM-2). -/
def queueHeal (q : Nat) (d : Dev) : Dev := cleanWords (fun w => decide (w.1 = 9 ∧ queueOf w.2.2 = q)) d

/-- The number of instances of a memory (Table MEM-1). -/
def memInsts (d : Dev) (m : Nat) : Nat :=
  [d.build.channels, 8, d.build.channels, d.build.channels, 1, 1, d.build.channels, 1, 16, 2, 2, d.build.groups].getD m 0

/-- SCRUB_READ: the scrubber of an instance reads its next line, whose word w shows a syndrome, 0 for none (R401). After
the last line the lap is complete (R402). -/
def scrubDev (m i w k : Nat) (d : Dev) : Dev :=
  if decide (memInsts d m ≤ i) || !scrubRuns d m i then d
  else
    let key := 64 * m + i
    let at_ := nget 0 d.mem.scrubAt key
    let d := if (nfind d.mem.lapFrom key).isSome then d else modMem d fun x => { x with lapFrom := nset 0 x.lapFrom key d.now }
    let d := when (decide (1 ≤ k ∧ k ≤ 3 ∧ w < lineWords m)) (memError m i (at_ * lineWords m + w) k) d
    if at_ + 1 < lapSteps m then modMem d fun x => { x with scrubAt := nset 0 x.scrubAt key (at_ + 1) }
    else
      let lap := min 0xFFFF ((d.now - nget 0 d.mem.lapFrom key) / 4)
      let d := modMem d fun x => { x with scrubAt := nset 0 x.scrubAt key 0, lapFrom := nset 0 x.lapFrom key d.now }
      if memMedia m then statsVal F.memLap_LAP_MAX m lap 2 (statsVal F.memLap_LAP_LAST m lap 1 d)
      else peak (setF d F.memLap_LAP_LAST lap m) F.memLap_LAP_MAX lap m

/-- The time of a stop of the scrubbers' clocks is not part of a lap (R402): one AO tick. -/
def lapStop (d : Dev) : Dev :=
  modMem d fun x => { x with lapFrom := x.lapFrom.map fun p => if scrubRuns d (p.1 / 64) (p.1 % 64) then p else (p.1, p.2 + 1) }

/-- The log is emptied (R400). -/
def memClearDev (d : Dev) : Dev := when (socUp d) (fun d => modMem d fun x => { x with log := [] }) d

/-- MEM_LOG_CLEAR (R400). -/
def execMemLogClear (st : State) : Host.Outcome State Fault Refusal := onDev memClearDev st

/-- The entry that PRM_MEM_LOGSEL selects, as PRM_MEM_LOGW0 and PRM_MEM_LOGW1 read; a free entry reads zero. -/
def memLogWord (d : Dev) (n : Nat) : Nat :=
  match d.mem.log[getF d F.memLogsel_INDEX]? with
  | none => 0
  | some e => if n = 0 then e.memid * 2 ^ 28 + e.kind * 2 ^ 26 + e.inst * 2 ^ 20 + e.count else e.addr

end Sys2Proof.Machine
end

