-- ==== Sys2Proof/Machine/Sec.lean ====
section
/-! DEFINITION. Machine/Sec.lean: protection levels, credentials, the command sequence and the secured operations
(R404 to R414). -/

namespace Sys2Proof.Machine

open Sys2Proof

/-! ### The command sequence (R410 to R412) -/

/-- PRM_SEC_STAT.RESULT, and STATE back to LOCKED with nothing kept. -/
def secEnd (result : Nat) (d : Dev) : Dev :=
  setF (modSec d fun s => { s with st := 0, lkGiven := false, lkA := 0, lkB := 0, op := 0, addr := 0, data0 := 0, data1 := 0,
                                   busy := none }) F.secStat_RESULT result

/-- The interface relocks (R411). -/
def relock (d : Dev) : Dev := bump (secEnd 1 d) F.secStat_RELOCKS

/-- 1 ms has passed since the first write of the sequence (R411). -/
def secLate (d : Dev) : Bool := decide (1 ≤ d.sec.st ∧ d.sec.st ≤ 5) && decide (d.sec.since + ms 1 < d.now)

/-- A write to a sequence register: ignored while BUSY (R412); one that comes too late relocks. -/
def secWrite (f : Dev → Dev) (d : Dev) : Dev :=
  if !socUp d || decide (d.sec.st = 6) then d else if secLate d then relock d else f d

/-- PRM_SEC_LKEY: LK_A, then LK_B (R410 step 1). -/
def secLkeyDev (v : Word) (d : Dev) : Dev :=
  secWrite (fun d =>
    if d.sec.st = 0 then modSec d fun s => { s with st := 1, lkA := v, since := d.now }
    else if d.sec.st = 1 then modSec d fun s => { s with st := 2, lkB := v, lkGiven := true }
    else relock d) d

/-- PRM_SEC_KEY: 0x53454B41, then 0x53454B42 (R410 step 2). -/
def secKeyDev (v : Word) (d : Dev) : Dev :=
  secWrite (fun d =>
    if d.sec.st = 0 ∧ v = 0x53454B41 then modSec d fun s => { s with st := 3, since := d.now }
    else if d.sec.st = 2 ∧ v = 0x53454B41 then modSec d fun s => { s with st := 3 }
    else if d.sec.st = 3 ∧ v = 0x53454B42 then modSec d fun s => { s with st := 4 }
    else relock d) d

/-- PRM_SEC_CMD: an operation code of Table SEC-2 (R410 step 3). -/
def secCmdDev (v : Word) (d : Dev) : Dev :=
  secWrite (fun d =>
    let op := nbits v.toNat 7 0
    if d.sec.st = 4 ∧ 1 ≤ op ∧ op ≤ 0x0A then modSec d fun s => { s with st := 5, op := op } else relock d) d

/-- PRM_SEC_ADDR (0), PRM_SEC_DATA0 (1) and PRM_SEC_DATA1 (2) (R410 step 4). -/
def secOperandDev (which : Nat) (v : Word) (d : Dev) : Dev :=
  secWrite (fun d =>
    if d.sec.st = 5 then
      modSec d fun s =>
        if which = 0 then { s with addr := v } else if which = 1 then { s with data0 := v } else { s with data1 := v }
    else relock d) d

/-- SEC_LKEY_WRITE (R410). -/
def execSecLkeyWrite (v : Word) (st : State) : Host.Outcome State Fault Refusal := onDev (secLkeyDev v) st
/-- SEC_KEY_WRITE (R410). -/
def execSecKeyWrite (v : Word) (st : State) : Host.Outcome State Fault Refusal := onDev (secKeyDev v) st
/-- SEC_CMD_WRITE (R410). -/
def execSecCmdWrite (v : Word) (st : State) : Host.Outcome State Fault Refusal := onDev (secCmdDev v) st
/-- SEC_OPERAND_WRITE (R410). -/
def execSecOperandWrite (which : Nat) (v : Word) (st : State) : Host.Outcome State Fault Refusal :=
  onDev (secOperandDev which v) st

/-- 1 ms has passed between the first write of the sequence and GO (R411). -/
def secTimeoutDev (d : Dev) : Dev := when (socUp d && decide (1 ≤ d.sec.st ∧ d.sec.st ≤ 5)) relock d

/-- SEC_SEQUENCE_TIMEOUT (R411). -/
def execSecSequenceTimeout (st : State) : Host.Outcome State Fault Refusal := onDev secTimeoutDev st

/-! ### What the operations do (Table SEC-2) -/

/-- The eight bytes LK_A ∥ LK_B (R407). -/
def lkBytes (a b : Word) : List Byte := natLe 4 a.toNat ++ natLe 4 b.toNat

/-- The credential hash: SHA-384 of credential ∥ NSID ∥ NODE_ID[23:0] (R408), NSID one byte. -/
def credHash (d : Dev) (ns : Nat) (lo hi : Word) : List Byte :=
  Config.sha384 (natLe 4 lo.toNat ++ natLe 4 hi.toNat ++ natLe 1 ns ++ natLe 3 d.pins.nodeId.toNat)

/-- Namespace n is configured and PROTECTED. -/
def nsProtected (d : Dev) (n : Nat) : Bool := let x := nget {} d.cfg.nss n; x.present && x.prot

/-- Set or clear the lock of namespace n. -/
def setLock (n : Nat) (v : Bool) (d : Dev) : Dev :=
  let l := getF d F.secNslock_LOCKED
  setF d F.secNslock_LOCKED (if nbit l n = v then l else if v then l + 2 ^ n else l - 2 ^ n)

/-- Every namespace is locked (R409). -/
def lockAll (d : Dev) : Dev := setF d F.secNslock_LOCKED 0xFFFF

/-- Commands of namespace n meet its lock: PL1 or above, PROTECTED and locked (R404, R408). -/
def nsLocked (d : Dev) (n : Nat) : Bool :=
  decide (1 ≤ withholds d) && nsProtected d n && nbit (getF d F.secNslock_LOCKED) n

/-- A result that Table SEC-4 gives no code for. -/
def secFree (d : Dev) : Dev := let (v, d1) := free d; secEnd (v % 256) d1

/-- The operation's OTP write starts: STATE BUSY until it ends (R412). -/
def secBusy (op : Nat) (d : Dev) : Dev := modSec d fun s => { s with st := 6, busy := some op }

/-- WARM or a run mode. -/
def warmRun (d : Dev) : Bool := decide (d.mode.mode = .warm) || d.mode.mode.run

/-- Where each operation is allowed (Table SEC-2). -/
def secAllowed (d : Dev) (op : Nat) : Bool :=
  let m := d.mode.mode
  if op = 1 then warmRun d || decide (m = .standby ∨ m = .safe)
  else if op = 2 ∨ op = 4 ∨ op = 5 then warmRun d || decide (m = .safe)
  else if op = 3 then warmRun d
  else if op = 0x0A then true
  else decide (m = .standby ∨ m = .warm)

/-- Every word of an OTP item is nonzero, so it counts as programmed. -/
def otpDone (m : NMap Word) (n : Nat) : Bool := (List.range n).all fun i => decide (nget 0 m i ≠ 0)

/-- OTP key programming is withheld at this level (Table SEC-1). -/
def otpWithheld (d : Dev) : Bool :=
  decide (2 ≤ withholds d) || (decide (withholds d = 1) && otpDone d.otp.keyHash 12 && otpDone d.otp.capKey 8)

def goRaise (d : Dev) : Dev :=
  let t := d.sec.addr.toNat
  if t ≤ level d ∨ 3 < t then secEnd 4 d
  else if 32 ≤ d.otp.log.length then secEnd 5 d
  else if t = 3 ∧ 4 ≤ d.otp.pl3.length then secEnd 0x0E d
  else secBusy 1 d

/-- LOWER (R405, R414). Before the restoration is complete a LOWER without the lowering keys is not offered (R404); the manual names no
code for that. -/
def goLower (d : Dev) : Dev :=
  let t := d.sec.addr.toNat
  if d.sec.lkLock then secEnd 7 d
  else if level d ≤ t then secEnd 4 d
  else if 32 < d.otp.log.length + 2 then secEnd 5 d
  else if level d = 3 then
    if d.sec.lkGiven && decide (d.otp.pl3.getLast? = some (Config.sha384 (lkBytes d.sec.lkA d.sec.lkB))) then
      secBusy 2 (modSec d fun s => { s with badLk := 0 })
    else secEnd 6 (modSec d fun s => { s with badLk := s.badLk + 1, lkLock := s.lkLock || decide (7 ≤ s.badLk) })
  else if withholds d = 3 ∧ !d.sec.lkGiven then secFree d
  else secBusy 2 d

def goSetkey (d : Dev) : Dev :=
  let n := d.sec.addr.toNat
  if !nsProtected d n then secEnd 9 d
  else if (nfind d.sec.creds n).isSome && nbit (getF d F.secNslock_LOCKED) n then secFree d
  else
    let h := credHash d n d.sec.data0 d.sec.data1
    let d := modPgm (modSec d fun s => { s with creds := nput s.creds n h }) fun p => { p with ckptWanted := true }
    let k := getF d F.secNslock_KEYED
    secEnd 0 (setF d F.secNslock_KEYED (if nbit k n then k else k + 2 ^ n))

def goUnlock (d : Dev) : Dev :=
  let n := d.sec.addr.toNat
  if !nsProtected d n then secEnd 9 d
  else if 8 ≤ nget 0 d.sec.badCred n then secEnd 0x0D d
  else if nfind d.sec.creds n = some (credHash d n d.sec.data0 d.sec.data1) then
    secEnd 0 (setLock n false (modSec d fun s => { s with badCred := nset 0 s.badCred n 0 }))
  else secEnd 8 (modSec d fun s => { s with badCred := nset 0 s.badCred n (nget 0 s.badCred n + 1) })

def goLock (d : Dev) : Dev :=
  let n := d.sec.addr.toNat
  if n = 0xFF then secEnd 0 (lockAll d)
  else if !nsProtected d n then secEnd 9 d
  else secEnd 0 (setLock n true d)

/-- OTP_KEYHASH and OTP_CAPKEY. -/
def goOtpWord (op words : Nat) (m : NMap Word) (d : Dev) : Dev :=
  let i := d.sec.addr.toNat
  if otpWithheld d then secEnd 0x0A d
  else if words ≤ i then secFree d
  else if nget 0 m i ≠ 0 then secEnd 0x0A d
  else secBusy op d

def goFloor (d : Dev) : Dev := if d.sec.data0.toNat % 65536 < d.otp.floor then secEnd 0x0C d else secBusy 9 d

/-- Every generator is loaded from SEED (R431). -/
def fijReload (d : Dev) : Dev :=
  let s := getF d F.fijCtl_SEED
  modFij d fun f => { f with gens := (List.range 4).foldl (fun m p => nput m p (fijLoad s p)) f.gens }

/-- REG_WRITE: the RWL fields of the register named take their bits of the value (R413). -/
def goReg (d : Dev) : Dev :=
  match regAt d.sec.addr.toNat with
  | some (.secSancfg, _) => secEnd 0 (setF d F.secSancfg_PAR (nbits d.sec.data0.toNat 5 0))
  | some (.fijCtl, _) => secEnd 0 (fijReload (setF d F.fijCtl_ARM (nbits d.sec.data0.toNat 31 31)))
  | _ => secEnd 0x0B d

/-- PRM_SEC_GO for operation `op` (R410 step 5): allowed only with that operation's code taken. -/
def secGo (op : Nat) (d : Dev) : Dev :=
  secWrite (fun d =>
    if d.sec.st ≠ 5 ∨ d.sec.op ≠ op then relock d
    else if !secAllowed d op then secEnd 3 d
    else if op = 1 then goRaise d
    else if op = 2 then goLower d
    else if op = 3 then goSetkey d
    else if op = 4 then goUnlock d
    else if op = 5 then goLock d
    else if op = 6 then goOtpWord 6 12 d.otp.keyHash d
    else if op = 7 then goOtpWord 7 8 d.otp.capKey d
    else if op = 8 then secBusy 8 d
    else if op = 9 then goFloor d
    else goReg d) d

/-- RAISE (R412). -/
def execRaise (st : State) : Host.Outcome State Fault Refusal := onDev (secGo 1) st
/-- LOWER (R412). -/
def execLower (st : State) : Host.Outcome State Fault Refusal := onDev (secGo 2) st
/-- NS_SETKEY (R408). -/
def execNsSetkey (st : State) : Host.Outcome State Fault Refusal := onDev (secGo 3) st
/-- NS_UNLOCK (R408). -/
def execNsUnlock (st : State) : Host.Outcome State Fault Refusal := onDev (secGo 4) st
/-- NS_LOCK (R408). -/
def execNsLock (st : State) : Host.Outcome State Fault Refusal := onDev (secGo 5) st
/-- OTP_KEYHASH (R412). -/
def execOtpKeyhash (st : State) : Host.Outcome State Fault Refusal := onDev (secGo 6) st
/-- OTP_CAPKEY (R412). -/
def execOtpCapkey (st : State) : Host.Outcome State Fault Refusal := onDev (secGo 7) st
/-- OTP_SIGREQ (R412). -/
def execOtpSigreq (st : State) : Host.Outcome State Fault Refusal := onDev (secGo 8) st
/-- OTP_FLOOR (R412). -/
def execOtpFloor (st : State) : Host.Outcome State Fault Refusal := onDev (secGo 9) st
/-- REG_WRITE (R413). -/
def execRegWrite (st : State) : Host.Outcome State Fault Refusal := onDev (secGo 0x0A) st

/-- The microcode trace is discarded (R406, R433). -/
def traceDiscard (d : Dev) : Dev := setF (modFij d fun f => { f with trace := [], full := false }) F.dbgTrcfg_FULL 0

/-- A RAISE takes effect (R406, R428). -/
def raiseEffect (t : Nat) (d : Dev) : Dev :=
  let h := Config.sha384 (lkBytes d.sec.data0 d.sec.data1)
  let d := modOtp d fun o => { o with log := o.log ++ [(false, t)], pl3 := if t = 3 then o.pl3 ++ [h] else o.pl3 }
  let d := when (decide (1 ≤ t)) lockAll d
  let d := when (decide (2 ≤ t)) traceDiscard d
  let d := setF d F.fijCtl_ARM 0
  each (List.range 4) (fun d p => setF (setF d F.fijPt_RATE 0 p) F.fijPt_ONESHOT 0 p) d

/-- An OTP write of the operation in progress ends (R405, R412). A LOWER's PENDING entry stops the fetch (R415 step 1). -/
def otpDoneDev (d : Dev) : Dev :=
  let s := d.sec
  match s.busy with
  | none => d
  | some op =>
    if op = 1 then secEnd 0 (raiseEffect s.addr.toNat d)
    else if op = 2 then
      let d := modOtp d fun o => { o with log := o.log ++ [(true, s.addr.toNat)] }
      secEnd 0 (modSec d fun x => { x with sanitize := true, sanTarget := s.addr.toNat })
    else if op = 6 then secEnd 0 (modOtp d fun o => { o with keyHash := nset 0 o.keyHash s.addr.toNat s.data0 })
    else if op = 7 then secEnd 0 (modOtp d fun o => { o with capKey := nset 0 o.capKey s.addr.toNat s.data0 })
    else if op = 8 then secEnd 0 (modOtp d fun o => { o with sigReq := true })
    else secEnd 0 (modOtp d fun o => { o with floor := s.data0.toNat % 65536 })

/-! ### Registers read from this state -/

/-- PRM_SEC_LEVEL (R405). -/
def secLevelWord (d : Dev) : Nat :=
  b2n (match d.otp.log.getLast? with | some e => e.1 | none => false) * 2 ^ 31 + b2n (decide (32 ≤ d.otp.log.length)) * 2 ^ 30 +
    d.otp.log.length * 2 ^ 16 + d.otp.pl3.length * 2 ^ 8 + level d

/-- PRM_SEC_OTP. -/
def secOtpWord (d : Dev) : Nat :=
  b2n (otpDone d.otp.keyHash 12) * 2 ^ 31 + b2n (otpDone d.otp.capKey 8) * 2 ^ 30 + b2n d.otp.sigReq * 2 ^ 29 + d.otp.floor

/-- PRM_SEC_STAT's STATE and LK_LOCK. -/
def secStatBits (d : Dev) : Nat := d.sec.st * 2 ^ 29 + b2n d.sec.lkLock * 2 ^ 28

/-- PRM_SEC_NSLOCK.LOCKED: PROTECTED and locked. -/
def nslockWord (d : Dev) : Nat :=
  getF d F.secNslock_KEYED * 65536 +
    ((List.range 16).map fun n => if (nsProtected d n || !d.cfg.done) && nbit (getF d F.secNslock_LOCKED) n then 2 ^ n else 0).sum

end Sys2Proof.Machine
end

