-- ==== Sys2Proof/Machine/Fij.lean ====
section
/-! DEFINITION. Machine/Fij.lean: the fault-injection registers (R428 to R432) and the microcode trace (R433). -/

namespace Sys2Proof.Machine

open Sys2Proof

/-- A write to PRM_FIJ_CTL: SEED is set and every generator loaded; ARM is RWL and keeps its value (R413, R431). -/
def fijCtlDev (v : Nat) (d : Dev) : Dev := fijReload (setF d F.fijCtl_SEED (nbits v 15 0))

/-- FIJ_CTL_WRITE (R431). -/
def execFijCtlWrite (v : Word) (st : State) : Host.Outcome State Fault Refusal :=
  onDev (fun d => when (socUp d) (fijCtlDev v.toNat) d) st

/-- A write to PRM_DBG_TRCFG (R433): CH only while EN is 0; EN from 0 to 1 empties the buffer. -/
def trcfgDev (v : Nat) (d : Dev) : Dev :=
  let was := isSet d F.dbgTrcfg_EN
  let d := if was then d else setF d F.dbgTrcfg_CH (nbits v 5 0)
  let d := setF (setF d F.dbgTrcfg_MODE (nbits v 30 30)) F.dbgTrcfg_LUN_EN (nbits v 13 13)
  let d := setF (setF d F.dbgTrcfg_LUN (nbits v 12 8)) F.dbgTrcfg_EN (nbits v 31 31)
  if !was && nbit v 31 then traceDiscard (modFij d fun f => { f with enabledAt := d.now }) else d

/-- DBG_TRACE_ENABLE (R433). -/
def execDbgTraceEnable (v : Word) (st : State) : Host.Outcome State Fault Refusal :=
  onDev (fun d => when (socUp d) (trcfgDev v.toNat) d) st

/-- A trace record (Table FIJ-2). -/
def traceWord (d : Dev) (lun kind pc code value : Nat) : DWord :=
  BitVec.ofNat 64 ((d.now - d.fij.enabledAt) / 4 % 2 ^ 19 * 2 ^ 45 + lun % 32 * 2 ^ 40 + kind * 2 ^ 37 + pc % 2 ^ 13 * 2 ^ 24 +
    code % 256 * 2 ^ 16 + value % 65536)

/-- The sequencer of channel c records a step of LUN l (R433): sent in a STATS message, or lost where the stream has no
credit. -/
def traceRec (c l kind pc code value : Nat) (d : Dev) : Dev :=
  if isSet d F.dbgTrcfg_EN && decide (getF d F.dbgTrcfg_CH = c) && decide (withholds d < 2) &&
      (!isSet d F.dbgTrcfg_LUN_EN || decide (getF d F.dbgTrcfg_LUN = l % 32)) then
    if (getStream d (groupOf c) 1).unacked.length < 64 then
      hsend (groupOf c) 1 (.trace (traceWord d l kind pc code value)) d
    else statsUp (groupOf c) F.dbgTrlost_LOST 0 1 d
  else d

/-- The SoC side takes a trace record into the buffer of 4,096 (R433). -/
def traceSoc (w : DWord) (d : Dev) : Dev :=
  if !isSet d F.dbgTrcfg_EN || decide (2 ≤ withholds d) then d
  else if d.fij.trace.length < 4096 then
    let d := modFij d fun f => { f with trace := f.trace ++ [w] }
    if d.fij.trace.length = 4096 then setF d F.dbgTrcfg_FULL 1 else d
  else if isSet d F.dbgTrcfg_MODE then modFij d fun f => { f with trace := f.trace.drop 1 ++ [w] }
  else d

/-- The selected record's half, zero beyond COUNT and at PL2 and above. -/
def traceHalf (d : Dev) (hi : Bool) : Nat :=
  if 2 ≤ withholds d then 0
  else
    let w := (d.fij.trace.getD (getF d F.dbgTrsel_INDEX) 0).toNat
    if hi then w / 2 ^ 32 else w % 2 ^ 32

end Sys2Proof.Machine
end

