-- ==== Sys2Proof/Machine/Loader.lean ====
section
/-! DEFINITION. Machine/Loader.lean: the configuration image (R53 to R64, R463, R464) and its load checks (Table BOT-9). -/

namespace Sys2Proof.Machine

open Sys2Proof

/-- A section of the image (R57). -/
structure Section where
  typ : Nat
  flags : Nat
  val : List Byte
  crcOk : Bool
  /-- The SCRC as it stands, and the 4 bytes after it. -/
  scrc : Nat
  tail : List Byte
  deriving DecidableEq, Repr

/-- A commit record is valid (R54). -/
def recValid (r : List Byte) : Bool :=
  decide (slice r 0 4 = [0x4B, 0x4D, 0x52, 0x50]) && decide (leAt r 0x1C 4 = (crc32c (slice r 0 0x1C)).toNat) &&
    decide (leAt r 4 4 ≠ 0xFFFFFFFF) && decide (0x20 ≤ r.length)

/-- GEN of a commit record. -/
def recGen (r : List Byte) : Nat := leAt r 4 4

/-- The section at p, where one fits within the image (R57). -/
def sectionAt (img : List Byte) (p stop : Nat) : Option Section :=
  let len := leAt img (p + 4) 4
  if len % 8 ≠ 0 ∨ len < 8 ∨ 1048576 < len ∨ stop < p + 16 + len then none
  else some { typ := leAt img p 2, flags := leAt img (p + 2) 2, val := slice img (p + 8) len,
              crcOk := decide (leAt img (p + 8 + len) 4 = (crc32c (slice img p (8 + len))).toNat),
              scrc := leAt img (p + 8 + len) 4, tail := slice img (p + 12 + len) 4 }

/-- The section at p in the first of the readings in which it is good: one whose SCRC fails or whose header breaks the walk is read
again, up to two more times (R64). -/
def sectionRead (imgs : List (List Byte)) (p stop : Nat) : Option Section :=
  (imgs.filterMap fun img => sectionAt img p stop).find? (·.crcOk)

/-- n sections from p, and the place after them. -/
def sectionWalk (imgs : List (List Byte)) (stop : Nat) : Nat → Nat → Option (List Section × Nat)
  | 0, p => some ([], p)
  | n + 1, p =>
    match sectionRead imgs p stop with
    | none => none
    | some s => (sectionWalk imgs stop n (p + 16 + s.val.length)).map fun r => (s :: r.1, r.2)

/-- TYPE, SFLAGS and LEN of a section (R57). -/
def sectionHead (s : Section) : List Byte := natLe 2 s.typ ++ natLe 2 s.flags ++ natLe 4 s.val.length

/-- A USER section's bytes with its value zero, and with this SCRC; any other section's bytes as they stand. -/
def sectionBytes (userCrc : Section → Nat) (s : Section) : List Byte :=
  if nbit s.flags 1 then sectionHead s ++ zeros s.val.length ++ natLe 4 (userCrc s) ++ s.tail
  else sectionHead s ++ s.val ++ natLe 4 s.scrc ++ s.tail

/-- The bytes that the digest covers: USER values and their SCRC taken as zero (R62). -/
def digestBytes (img : List Byte) (secs : List Section) : List Byte :=
  slice img 0 0x80 ++ secs.flatMap (sectionBytes fun _ => 0)

/-- The copy of an image that SANITIZE writes: USER values zero, their SCRC written again, everything else unchanged (R57, R415). -/
def zeroUsers (img : List Byte) : List Byte :=
  match sectionWalk [img] img.length (leAt img 0x0C 2) 0x80 with
  | none => img
  | some (secs, p) =>
    slice img 0 0x80 ++ secs.flatMap (sectionBytes fun s => (crc32c (sectionHead s ++ zeros s.val.length)).toNat) ++ img.drop p

def userType (t : Nat) : Bool := decide (0x8000 ≤ t ∧ t ≤ 0xFFFE)
def knownType (t : Nat) : Bool := decide (1 ≤ t ∧ t ≤ 0x0A)
def ofType (secs : List Section) (t : Nat) : List (List Byte) := (secs.filter fun s => decide (s.typ = t)).map (·.val)

/-- The LEN that a known type fixes (check 11). -/
def lenOk (s : Section) : Bool :=
  let n := s.val.length
  if s.typ = 1 then decide (n = 64) else if s.typ = 2 then decide (n = 256) else if s.typ = 3 then decide (n = 1024)
  else if s.typ = 4 then decide (n = 24 + 8 * leAt s.val 6 1) else if s.typ = 5 then decide (n = 96)
  else if s.typ = 6 then decide (n = 208) else if s.typ = 7 then decide (n = 128) else if s.typ = 8 then decide (n = 1024)
  else if s.typ = 9 then decide (n = 64) else true

/-- Check 11: counts, unknown critical types, USER, lengths. -/
def check11 (secs : List Section) : Bool :=
  let c := fun t => (ofType secs t).length
  decide (c 1 = 1) && decide (1 ≤ c 2 ∧ c 2 ≤ 8) && decide (c 3 = 1) && decide (c 4 ≤ 16) && decide (2 ≤ c 5 ∧ c 5 ≤ 16) &&
    decide (c 6 ≤ 1) && decide (c 7 = 1) && decide (c 8 ≤ 1) && decide (c 9 ≤ 1) && decide (c 10 ≤ 1) &&
    secs.all fun s => (knownType s.typ || userType s.typ || !nbit s.flags 0) && (userType s.typ || !nbit s.flags 1) && lenOk s

/-- GLOBAL (Table BOT-5). -/
def globalOk (b : Build) (v : List Byte) : Bool :=
  decide (leAt v 0 4 < 8) && decide (leAt v 4 2 < 4) && decide (1 ≤ leAt v 6 2) && decide (leAt v 0x18 4 ≤ b.pantry / 2) &&
    decide (1 ≤ leAt v 0x20 2 ∧ leAt v 0x20 2 ≤ 1000) && zeroAt v 0x22 0x1E

/-- A rate of Table CHN-1 for SIG and EXT (R99, R107). -/
def rateOk (sig : Nat) (ext : Bool) (r : Nat) : Bool := (rateTable sig ext).contains r

/-- A die profile (Table CHN-3, R61, R107, R111, R115, R183) under STRAP[2]. -/
def profileOk (strap2 : Bool) (v : List Byte) : Bool :=
  let n := leAt v
  let ft := fun i => nbit (n 0x24 2) i
  let cw := 4128 + parityBytes (n 0x1C 1)
  let cmd := fun i => decide (n (0x48 + i) 1 ≠ 0)
  decide (n 0 1 ≤ 7) && decide (n 1 1 = 1) && decide (n 2 2 = 256) && decide (n 4 1 < 8) &&
  rateOk (n 4 1 % 4) (nbit (n 4 1) 2) (n 6 2) && decide ((n 4 1 % 4 = 1) ↔ strap2 = true) &&
  decide (1 ≤ n 0x0E 1 ∧ n 0x0E 1 ≤ 6) && zeroAt v 0x0F 1 && [1, 2, 4].contains (n 0x12 1) &&
  decide (1 ≤ n 0x13 1 ∧ n 0x13 1 ≤ 4) && decide (n 0x18 1 = 2) && decide (n 0x19 1 = 3 ∨ n 0x19 1 = 4) &&
  decide (n 0x1C 1 ≤ 4) && decide (n 0x1D 1 ≤ 16) && decide (n 0x1E 2 < 4096) && decide (n 0x24 2 < 4096) &&
  ([0x28, 0x2C, 0x30, 0x34, 0x38].all fun p => decide (n p 4 = 0) || decide (profHalf v p ≤ profHalf v (p + 2))) && (decide (0 < n 0x3C 2) || !(ft 3 || ft 4)) &&
  decide (n 0x40 1 ≤ 15) && decide (n 0x41 1 ≤ 15) && zeroAt v 0x46 2 && zeroAt v (0x48 + 27) 5 &&
  ((List.range 16).all fun k => zeroAt v (0x68 + 8 * k + 7) 1) && decide (n 0xF3 1 / 2 % 8 = 0) && zeroAt v 0xF4 12 &&
  (cmd 24 || !ft 0) && (cmd 22 && cmd 23 || !(ft 3 || ft 4)) && (cmd 25 || !ft 6) && (cmd 26 || !ft 7) &&
  decide (4 * cw ≤ n 0x10 2) && (decide (n 0x12 1 = 4) || (decide (n 0x12 1 = 1) && !ft 2)) &&
  decide (n 0x14 2 ≤ 2 ^ n 0x1A 1) && decide (n 0x1A 1 + Nat.clog 2 (n 0x12 1 * n 0x16 2) ≤ n 0x1B 1) &&
  decide (n 0x1B 1 < 8 * n 0x19 1) && (decide (0 < n 0x1D 1) || !ft 5) && !(decide (n 0x13 1 = 4) && ft 5)

/-- CHANNEL_MAP: only channels of the build, 0 to 2 LUNs, profiles that are present, VOLUMES where a line carries more
than one volume (R60, Table CHN-4). -/
def chanMapOk (b : Build) (profs : NMap (List Byte)) (v : List Byte) : Bool :=
  (List.range 1024).all fun i =>
    let x := leAt v i 1
    let line := i / 4 * 4
    let vols := ((List.range 4).filter fun k => decide (0 < leAt v (line + k) 1 / 8 % 4)).length
    decide (x < 32) && decide (x / 8 ≤ 2) && (decide (i < 16 * b.channels) || decide (x = 0)) &&
      (decide (x / 8 = 0) || ((nfind profs (x % 8)).isSome &&
        (decide (vols ≤ 1) || nbit (leAt (nget [] profs (x % 8)) 0x24 2) 10)))

/-- LOOP (Table LOOP-6). -/
def loopOk (v : List Byte) : Bool :=
  let n := leAt v
  let dst := n 0x1F 1
  let s := n 0 1
  let src := fun c => decide (c ≤ 0x2C ∨ c = 0x3F) && (decide (c ≠ 0x28) || decide (3 ≤ s ∧ s ≤ 14))
  decide (s ≤ 15) && decide (n 1 1 < 16) && decide (n 1 1 % 4 ≠ 3) && decide (1 ≤ n 2 1 ∧ n 2 1 ≤ 4) && decide (n 3 1 < 16) &&
  decide (1 ≤ n 4 4 ∧ n 4 4 ≤ 4000000) && src (n 8 1) && src (n 9 1) && src (n 0x0A 1) && decide (n 0x0B 1 < 2) &&
  (decide (dst < 24 ∨ dst = 0x3F) || (decide (dst = 0x20) && decide (s = 2)) || (decide (dst = 0x21) && decide (3 ≤ s ∧ s ≤ 14))) &&
  (List.range 4).all fun k => zeroAt v (0x2A + 16 * k) 2 && decide (n (0x2C + 16 * k) 1 ≤ 8) && zeroAt v (0x2D + 16 * k) 3

/-- THERMAL (Table LOOP-7, R378). -/
def thermalOk (b : Build) (v : List Byte) : Bool :=
  let n := leAt v
  let zs := List.range (n 0 1)
  decide (n 0 1 ≤ 12) && zeroAt v 1 1 && decide (100 ≤ n 2 2 ∧ n 2 2 ≤ 60000) && decide (1 ≤ n 4 1 ∧ n 4 1 ≤ 4) && zeroAt v 5 11 &&
  (zs.all fun z =>
    let q := 16 * z
    decide (n (0x18 + q) 1 ≤ 23) && decide (n (0x19 + q) 1 ≤ 23 ∨ n (0x19 + q) 1 = 0xFF) &&
    decide (n (0x1A + q) 1 ≤ 7 ∨ n (0x1A + q) 1 = 0xFF) && decide (n (0x1B + q) 1 ≤ 2) && zeroAt v (0x1E + q) 1) &&
  (List.range b.channels).all fun c => decide ((zs.filter fun z => nbit (n (0x10 + 16 * z) 8) c).length ≤ 1)

/-- No PWM is named by two destinations, or by a destination and a zone (R376). -/
def pwmOk (loops : List (List Byte)) (thermal : List Byte) : Bool :=
  let a := (loops.map fun v => leAt v 0x1F 1).filter fun x => decide (x < 24)
  let zs := List.range (leAt thermal 0 1)
  let named := (zs.map fun z => leAt thermal (0x18 + 16 * z) 1) ++ zs.map fun z => leAt thermal (0x19 + 16 * z) 1
  decide a.Nodup && !a.any fun x => named.contains x

/-- HOLDUP (Table HUP-1, R332). -/
def holdupOk (v : List Byte) : Bool :=
  let n := leAt v
  let rate := fun l => n (0x20 + 8 * l) 2
  let pow := fun l => n (0x22 + 8 * l) 2
  decide (n 0 1 < 8) && decide (1 ≤ n 1 1 ∧ n 1 1 ≤ 4) && decide (n 4 2 < n 2 2) && decide (n 6 2 ≠ 0) &&
  decide (50 ≤ n 8 1 ∧ n 8 1 ≤ 100) && decide (n 9 1 ≤ 100) && decide (n 0x0A 1 ≤ 31) && decide (n 0x0B 1 ≤ 31) &&
  decide (1 ≤ n 0x1E 2) && decide (rate 0 ≠ 0) && decide (pow 0 ≠ 0) &&
  ((List.range 4).all fun l => zeroAt v (0x25 + 8 * l) 3 &&
    (decide (rate l = 0) || decide (1 ≤ n (0x24 + 8 * l) 1 ∧ n (0x24 + 8 * l) 1 ≤ 32))) &&
  ((List.range 3).all fun l => decide (rate (l + 1) = 0) ||
    (decide (rate l ≠ 0) && decide (rate l < rate (l + 1)) && decide (pow l < pow (l + 1)))) &&
  zeroAt v 0x40 0x40

/-- FIFO_MAP (Table DMA-5). -/
def fifoMapOk (v : List Byte) : Bool :=
  (List.range 64).all fun k =>
    let n := fun p => leAt v (16 * k + p)
    decide (n 0 2 ≤ 256) && decide (n 2 1 < 8) && decide (n 3 1 < 16) && decide (n 8 1 < 32) && decide (n 9 1 = 0) &&
      decide (1 ≤ n 0xA 2 ∧ n 0xA 2 ≤ 1024) && decide (n 0xC 4 = 0)

/-- CAL (R392, Table CAL-5). -/
def calOk (v : List Byte) : Bool :=
  let n := leAt v
  decide (1 ≤ n 0 1 ∧ n 0 1 ≤ 60) && zeroAt v 1 1 && decide (1 ≤ n 2 2 ∧ n 2 2 ≤ 60000) && decide (40 ≤ n 6 1 ∧ n 6 1 ≤ 50) &&
    decide (60 ≤ n 7 1 ∧ n 7 1 ≤ 75) && zeroAt v 0x0A 0x16

/-- The bits of a register's RW fields. -/
def rwMask (r : Reg) : Nat :=
  (r.fields.map fun f => if f.acc = .rw then (2 ^ (f.hi - f.lo + 1) - 1) * 2 ^ f.lo else 0).sum

/-- REG_INIT pairs (R463). -/
def pairsOf (v : List Byte) : List (Nat × Nat) :=
  (List.range (v.length / 8)).map fun i => (leAt v (8 * i) 4, leAt v (8 * i + 4) 4)

def regInitOk (v : List Byte) : Bool :=
  (pairsOf v).all fun p =>
    decide (p.1 < 0x200000) && (match regAt p.1 with
      | some (r, _) => decide (rwMask r ≠ 0) && decide (p.2 &&& (0xFFFFFFFF - rwMask r) = 0)
      | none => false)

/-- A NAMESPACE section's own fields (R249, Table XLT-4). -/
def nsOk (v : List Byte) : Bool :=
  let n := leAt v
  decide (n 0 1 ≤ 15) && decide (n 1 1 ≤ 1) && decide (n 2 1 < 32) && [8, 16, 32, 64].contains (n 3 1) &&
    (decide (1 ≤ n 4 2) || decide (n 1 1 = 1)) && decide (1 ≤ n 6 1 ∧ n 6 1 ≤ 32) && zeroAt v 7 1 &&
    (decide (n 1 1 = 1) || decide (n 8 8 = 0)) && decide (1 ≤ n 0x12 2) && zeroAt v 0x16 2

/-- A NAMESPACE section read (Table XLT-4). -/
def nsParse (v : List Byte) : NsSec :=
  let n := leAt v
  { present := true, random := decide (n 1 1 = 1), verify := n 2 1 % 4, prot := nbit (n 2 1) 2, unwErr := nbit (n 2 1) 3,
    par := nbits (n 2 1) 4 4, width := n 3 1, g := n 4 2, lbaCount := n 8 8, refreshDays := n 0x10 2, ewLimit := n 0x12 2,
    mapCkpt := max 1 (n 0x14 2),
    groups := (List.range (n 6 1)).map fun i =>
      { sg := n (0x18 + 8 * i) 1, d := n (0x19 + 8 * i) 1, f := n (0x1A + 8 * i) 2, blo := n (0x1C + 8 * i) 2, bhi := n (0x1E + 8 * i) 2 } }

/-- The members of a stripe group (R226). -/
def sgMembers (ns : NsSec) (g : SgRow) : List Nat := (List.range ns.width).map fun k => g.f + g.d * k

/-- Stripe groups: members that CHANNEL_MAP declares, ranges within their blocks and clear of system and hold-up blocks,
one geometry within a namespace, disjoint ranges on a shared LUN, numbers used once (R224, R226). `d` holds the image's
CHANNEL_MAP, profiles and HOLDUP section. -/
def stripesOk (d : Dev) (nss : List NsSec) : Bool :=
  let all := nss.flatMap fun ns => ns.groups.map fun g => (ns, g)
  let geo := fun l => (profPlanes d l, profCell d l, profPages d l, profParity d l)
  decide (all.map fun p => p.2.sg).Nodup &&
  (all.all fun p => (sgMembers p.1 p.2).all fun l =>
    lunMapped d l && decide (8 + leAt d.cfg.holdup 1 1 ≤ p.2.blo) && decide (p.2.blo ≤ p.2.bhi) && decide (p.2.bhi < mpBlocks d l) &&
    decide (geo l = geo ((p.1.groups.head?.map (·.f)).getD l))) &&
  (all.all fun p => decide (sgMembers p.1 p.2).Nodup) &&
  all.all fun p => all.all fun q => decide (p.2.sg = q.2.sg) || decide (p.2.bhi < q.2.blo ∨ q.2.bhi < p.2.blo) ||
    !((sgMembers p.1 p.2).any fun l => (sgMembers q.1 q.2).contains l)

/-- The state with the parts of the image that later checks and rules read. -/
def withImage (d : Dev) (secs : List Section) : Dev :=
  let one := fun t => (ofType secs t).headD []
  let g := one 1
  modCfg d fun c =>
    { c with profiles := (ofType secs 2).foldl (fun m v => nput m (leAt v 0 1) v) [], chanMap := one 3,
             nss := (ofType secs 4).foldl (fun m v => nput m (leAt v 0 1) (nsParse v)) [],
             loops := (ofType secs 5).foldl (fun m v => nput m (leAt v 0 1) v) [], thermal := one 6, holdup := one 7,
             calSec := one 9, user := (secs.filter fun s => userType s.typ).map fun s => (s.typ, s.val),
             patchReq := nbit (leAt g 0 4) 0, autoWarm := nbit (leAt g 0 4) 1, zeroUnwErr := nbit (leAt g 0 4) 2,
             patchTargets := leAt g 4 2, patchWait := leAt g 6 2, workBase := leAt g 8 8, workSize := leAt g 0x10 8,
             fifoPool := leAt g 0x18 4, c0Share := leAt g 0x1C 4, hkWdt := leAt g 0x20 2 }

/-- Check 12. -/
def check12 (d : Dev) (secs : List Section) : Bool :=
  let x := withImage d secs
  let vals := ofType secs
  let loops := vals 5
  (secs.all fun s => (decide (s.flags < 4) && s.tail.all (· = 0)) || !(knownType s.typ || userType s.typ)) &&
  (vals 1).all (globalOk d.build) && (vals 2).all (profileOk (d.pins.straps.getLsbD 2)) &&
  decide ((vals 2).map fun v => leAt v 0 1).Nodup && (vals 3).all (chanMapOk d.build x.cfg.profiles) && (vals 4).all nsOk &&
  decide ((vals 4).map fun v => leAt v 0 1).Nodup && loops.all loopOk && decide (loops.map fun v => leAt v 0 1).Nodup &&
  (loops.any fun v => decide (leAt v 0 1 = 0)) && (loops.any fun v => decide (leAt v 0 1 = 1)) &&
  (vals 6).all (thermalOk d.build) && pwmOk loops ((vals 6).headD []) && (vals 7).all holdupOk && (vals 8).all fifoMapOk &&
  (vals 9).all calOk && (vals 10).all regInitOk && stripesOk x ((vals 4).map nsParse)

/-- n rounded up to a multiple of 64 KiB (R158). -/
def round64K (n : Nat) : Nat := ceilDiv n 65536 * 65536

/-- The class-0 write share in force (R149, R158). -/
def shareBytes (d : Dev) : Nat := round64K (min d.cfg.c0Share 2097152)

/-- The FIFO pool in force (R158). -/
def poolBytes (d : Dev) : Nat := round64K d.cfg.fifoPool

/-- The largest codeword of any die profile in use (R159). -/
def maxCw (d : Dev) : Nat := ((allLuns d).map (cwBytes d)).foldl max 4384

/-- Bytes of the page-buffer region (R23, R158). -/
def pbBytes (d : Dev) : Nat := d.build.pantry - poolBytes d - shareBytes d

/-- Check 13: the regions fit, the page-buffer region with the least that R23 asks of it (R23, R158, R159). -/
def check13 (d : Dev) (secs : List Section) : Bool :=
  let x := withImage d secs
  let maps := ofType secs 8
  decide (x.build.channels * 32 * maxCw x + poolBytes x + shareBytes x ≤ x.build.pantry) && decide (65536 ≤ x.cfg.fifoPool) &&
    maps.all fun v =>
      decide (((List.range 64).map fun k => leAt v (16 * k) 2).sum ≤ x.cfg.fifoPool / 65536) &&
        (List.range 64).any fun k => decide (0 < leAt v (16 * k) 2) && decide (leAt v (16 * k + 8) 1 % 2 = 0)

/-- Program units per multi-plane block of LUN l: PAGES ÷ CELL in both modes (R228). -/
def unitsPerBlock (d : Dev) (l : Nat) : Nat := profPages d l / profCell d l

/-- Sectors of a program unit (R227). -/
def unitSectors (d : Dev) (l : Nat) (slc : Bool) : Nat := profPlanes d l * (if slc then 1 else profCell d l) * 4

/-- ZCAP of a superblock of a group with m data members (R228). -/
def zcapOf (d : Dev) (g : SgRow) (m : Nat) (slc : Bool) : Nat := m * unitsPerBlock d g.f * unitSectors d g.f slc

/-- Check 14 (R20, R242). -/
def check14 (d : Dev) (secs : List Section) : Bool :=
  let x := withImage d secs
  let rs : List NsSec := ((ofType secs 4).map nsParse).filter fun n => n.random
  decide (x.cfg.workBase % 4096 = 0) && decide (x.cfg.workBase + x.cfg.workSize ≤ 2 ^ 48) &&
  decide (2 ^ 30 + (rs.map fun n : NsSec => round64K (4 * n.lbaCount)).sum ≤ x.cfg.workSize) &&
  decide ((rs.map fun n : NsSec => n.lbaCount * 4096).sum ≤ 2 ^ 41) &&
  rs.all fun n : NsSec =>
    let zs := n.groups.map fun g => zcapOf x g (n.width - n.par) false
    let sectors := ((n.groups.zip zs).map fun p => (p.1.bhi + 1 - p.1.blo) * p.2).sum
    decide (107 * n.lbaCount + 400 * zs.foldl max 0 ≤ 100 * sectors)

/-- KEY of a signature block names the key whose hash is h, and the signature over the digest is good (R62). -/
def sigOk (sig h digest : List Byte) : Bool :=
  decide (Config.sha384 (slice sig 0 97) = h) && zeroAt sig 97 7 &&
    Config.ecdsaOk (slice sig 0 97) (slice sig 104 48) (slice sig 152 48) digest

/-- The integrator key hash, where it is programmed: every word of it nonzero (Table BOT-10, R412). -/
def keyHash (d : Dev) : Option (List Byte) :=
  let ws := (List.range 12).map fun i => nget 0 d.otp.keyHash i
  if ws.any fun w => decide (w = 0) then none else some (ws.flatMap fun w => natLe 4 w.toNat)

/-- The checks 2 to 14 on an image of a slot, in up to three readings; the commit record's HDR_CRC and IMAGE_LEN where there is one. The
cause of the first failure, or the sections. DESIGN CHOICE (log 26): a SECT_COUNT above 256 (Table BOT-3) fails check 7. -/
def imageCheck (d : Dev) (slotBytes : Nat) (cr : Option (List Byte)) (imgs : List (List Byte)) : Nat ⊕ List Section :=
  let img := imgs.headD []
  let len := leAt img 8 4
  let signed := nbit (leAt img 0x0E 2) 0
  let hcrc := leAt img 0x7C 4
  if slice img 0 4 ≠ [0x50, 0x52, 0x4D, 0x43] ∨ leAt img 4 2 ≠ 1 ∨ leAt img 6 2 ≠ 0x80 then .inl 2
  else if hcrc ≠ (crc32c (slice img 0 0x7C)).toNat ∨ (cr.map fun r => leAt r 0x0C 4).getD hcrc ≠ hcrc ∨ 2 ≤ leAt img 0x0E 2 ∨
      !zeroAt img 0x16 2 ∨ !zeroAt img 0x20 0x5C then .inl 3
  else if slotBytes < len + 4096 ∨ (cr.map fun r => leAt r 8 4).getD len ≠ len then .inl 4
  else if leAt img 0x10 4 ≠ 0 ∧ leAt img 0x10 4 ≠ resetVal d.build .glbId 0 then .inl 5
  else if 0x4202 < leAt img 0x14 2 then .inl 6
  else
    match if 256 < leAt img 0x0C 2 then none else sectionWalk imgs len (leAt img 0x0C 2) 0x80 with
    | none => .inl 7
    | some (secs, p) =>
      if p + 48 + (if signed then 200 else 0) ≠ len then .inl 7
      else
        let digest := Config.sha384 (digestBytes img secs)
        if slice img p 48 ≠ digest then .inl 8
        else if signed && !(match keyHash d with | some h => sigOk (slice img (p + 48) 200) h digest | none => false) then .inl 9
        else if d.otp.sigReq && !signed then .inl 10
        else if !check11 secs then .inl 11
        else if !check12 d secs then .inl 12
        else if !check13 d secs then .inl 13
        else if !check14 d secs then .inl 14
        else .inr secs

/-- n bytes of the flash from an offset: pieces at rising offsets, 0xFF where none lies. -/
def flashRead : List (Nat × List Byte) → Nat → Nat → List Byte
  | [], _, n => List.replicate n 0xFF#8
  | (s, bs) :: rest, off, n =>
    if s + bs.length ≤ off then flashRead rest off n
    else
      let pre := min n (s - off)
      let k := min (n - pre) (s + bs.length - (off + pre))
      List.replicate pre 0xFF#8 ++ slice bs (off + pre - s) k ++ flashRead rest (off + pre + k) (n - pre - k)

/-- Bytes of a slot: half the flash, at most 32 MiB (R53). -/
def flashSlot (density : Nat) : Nat := min (density / 2) 0x02000000

/-- The commit record of slot s, in the last 4 KiB of the slot (R53, R54). -/
def flashRec (a : FlashAns) (s : Nat) : List Byte := flashRead a.bytes ((s + 1) * flashSlot a.density - 4096) 32

/-- The image of slot s in each of three readings, as far as its IMAGE_LEN and the slot go (R53, R63, R64). -/
def flashImgs (a : FlashAns) (s : Nat) : List (List Byte) :=
  let base := s * flashSlot a.density
  let len := max 0x80 (min (leNat (flashRead a.bytes (base + 8) 4)) (flashSlot a.density - 4096))
  [flashRead a.bytes base len, flashRead (a.again.getD 0 a.bytes) base len, flashRead (a.again.getD 1 a.bytes) base len]

/-- Table BOT-9 on slot s. -/
def slotCheck (d : Dev) (a : FlashAns) (s : Nat) : Nat ⊕ List Section :=
  if !recValid (flashRec a s) then .inl 1 else imageCheck d (flashSlot a.density) (some (flashRec a s)) (flashImgs a s)

/-- What the loader ends with: the slot loaded with its sections, or none; FALLBACK; the slot last tried and the cause of
the last failure (R55, R63). -/
structure LoadResult where
  secs : Option (List Section)
  fallback : Bool
  slot : Nat
  cause : Nat

/-- The loader's choice of slot (R55). -/
def loadSlots (d : Dev) (a : FlashAns) : LoadResult :=
  let ra := flashRec a 0
  let rb := flashRec a 1
  let first : Nat := if recValid rb && (!recValid ra || decide (recGen ra < recGen rb)) then 1 else 0
  match slotCheck d a first with
  | .inr secs => ⟨some secs, false, first, 0⟩
  | .inl c =>
    match slotCheck d a (1 - first) with
    | .inr secs => ⟨some secs, true, 1 - first, c⟩
    | .inl c2 => ⟨none, false, 1 - first, c2⟩

/-! ### What the sections give (R438, Table BOT-4) -/

/-- C0_OK and ERS_OK of a profile (R147). -/
def profC0Ok (v : List Byte) : Bool :=
  let n := leAt v
  let slc := nbit (n 0x24 2) 0
  nbit (n 0x24 2) 3 && decide (profHalf v 0x3E + profHalf v 0x3C ≤ 100) && decide (profHalf v 0x2E ≤ 90) && (!slc || decide (profHalf v 0x2A ≤ 90)) &&
    decide (ceilDiv (profHalf v 0x36) 160 ≤ n 0x40 1) && (!slc || decide (ceilDiv (profHalf v 0x32) 160 ≤ n 0x40 1)) && decide (3200 ≤ n 6 2)

def profErsOk (v : List Byte) : Bool :=
  profC0Ok v && nbit (leAt v 0x24 2) 4 && decide (ceilDiv (profHalf v 0x3A) 160 ≤ leAt v 0x41 1)

/-- The slot of a LOOP section: its image, OPEN with OUT_MAN (R377). -/
def loadLoop (d : Dev) (s : Nat) (v : List Byte) : Dev :=
  let img := (List.range 48).map fun w => BitVec.ofNat 16 (leAt v (2 * w) 2)
  { d with loops := { d.loops with slots := nmod {} d.loops.slots s fun x => { x with sect := true, img := img } } }

/-- One FIFO and its context (Table DMA-5). -/
def loadFifo (d : Dev) (k size align xen xline hi lo kind pace twev prio quantum : Nat) : Dev :=
  let d := setF (setF (setF (setF d F.fifoCfg_SIZE size k) F.fifoCfg_ALIGN align k) F.fifoCfg_XEN xen k) F.fifoCfg_XLINE xline k
  let d := setF (setF d F.fifoWm_HI hi k) F.fifoWm_LO lo k
  let d := setF (setF (setF d F.dmaCtxcfg_KIND kind k) F.dmaCtxcfg_PACE pace k) F.dmaCtxcfg_TW_EV twev k
  let d := setF (setF d F.dmaCtxcfg_PRIO prio k) F.dmaCtxcfg_QUANTUM quantum k
  setF d F.dmaCtxcfg_EN (b2n (decide (kind = 0 ∧ 0 < size))) k

/-- FIFO_MAP, or its defaults (R330). -/
def loadFifos (secs : List Section) (d : Dev) : Dev :=
  match (ofType secs 8).head? with
  | some v =>
    each (List.range 64) (fun d k =>
      let n := fun p => leAt v (16 * k + p)
      loadFifo d k (n 0 2) (n 2 1 % 4) (nbits (n 2 1) 2 2) (n 3 1 % 16) (n 4 2) (n 6 2) (n 8 1 % 2) (nbits (n 8 1) 1 1)
        (nbits (n 8 1) 2 2) (nbits (n 8 1) 4 3) (n 0xA 2)) d
  | none =>
    let n := d.cfg.fifoPool / 65536
    each (List.range 64) (fun d k =>
      let size := if 64 ≤ n then n / 64 else if k < n then 1 else 0
      loadFifo d k size 0 1 (k % 16) (size * 64 * 3 / 4) (size * 64 / 2) 0 0 0 2 64) d

/-- The zone's capacity, fixed at LOADING over the LUNs present and not isolated (R333, KL-12). At LOADING a LUN counts
as present where CHANNEL_MAP declares it. -/
def zoneCapacity (d : Dev) : Nat :=
  (((allLuns d).filter fun l => !lunIsol d l).map fun l =>
    leAt d.cfg.holdup 1 1 * (profPages d l / profCell d l) * profPlanes d l * 4 * 4096).sum

/-- Registers and records that take their values from the sections at the end of LOADING (R438). -/
def applySections (secs : List Section) (d : Dev) : Dev :=
  let d := withImage d secs
  let c := d.cfg
  let d := each c.profiles (fun d p =>
    let i := p.1
    let d := setF d F.schProfok_C0_OK (getF d F.schProfok_C0_OK + b2n (profC0Ok p.2) * 2 ^ i)
    setF d F.schProfok_ERS_OK (getF d F.schProfok_ERS_OK + b2n (profErsOk p.2) * 2 ^ i)) (setReg d .schProfok 0 0)
  let d := each c.loops (fun d p => loadLoop d p.1 p.2) d
  let d := each c.loops (fun d p => if nbit (leAt p.2 1 1) 3 && decide (leAt p.2 8 1 < 40) then setF d F.adcCfg_OPEN_EN 1 (leAt p.2 8 1) else d) d
  let d := loadFifos secs d
  let d := setF d F.hkCfg_WDT (min 0xFF c.hkWdt)
  let d := setF d F.thmPoll_POLL_MS (leAt c.thermal 2 2)
  let d := each (List.range (min 12 (leAt c.thermal 0 1))) (fun d z =>
    let sp := leAt c.thermal (0x1C + 16 * z) 1
    setF (setF (setF d F.thmZsp_SP_IDLE sp z) F.thmZsp_SP_ACT sp z) F.thmZsp_T_CRIT (leAt c.thermal (0x1D + 16 * z) 1) z) d
  let d := setF (setF d F.calCfg_DELTA_T (if c.calSec.isEmpty then 8 else leAt c.calSec 0 1)) F.calCfg_FORCE_MS
    (if c.calSec.isEmpty then 500 else leAt c.calSec 2 2)
  let d := setF (setF d F.hupKtl_C_MEAS (leAt c.holdup 6 2)) F.hupCfg_REGION_HOLD (nbits (leAt c.holdup 0 1) 2 2)
  let d := modHup d fun h => { h with zoneBytes := zoneCapacity d, cMeas := leAt c.holdup 6 2 }
  modCodec d fun k => { k with fifoBytes := poolBytes d, c0Bytes := shareBytes d, pbBytes := pbBytes d,
                               total := pbBytes d / (4 * maxCw d) }

end Sys2Proof.Machine
end

