-- ==== Sys2Proof/Machine/Mp.lean ====
section
/-! DEFINITION. Machine/Mp.lean: the memory ports (R24 to R29, R93, R94, R467): purposes and their requests, tags and
generations, credits and reissue. Ports 0 to 3 are MPR0 to MPR3, ports 4 to 7 MPW0 to MPW3. -/

namespace Sys2Proof.Machine

open Sys2Proof

def getPort (d : Dev) (p : Nat) : MPort := nget {} d.mp.ports p
def modPort (d : Dev) (p : Nat) (f : MPort → MPort) : Dev := modMp d fun m => { m with ports := nmod {} m.ports p f }
def getPurp (d : Dev) (i : Nat) : Option Purp := nfind d.mp.purps i
def modPurp (d : Dev) (i : Nat) (f : Purp → Purp) : Dev :=
  modMp d fun m => match nfind m.purps i with
    | some p => { m with purps := nput m.purps i (f p) }
    | none => m

/-- Open a purpose. -/
def newPurp (k : PurpKind) (d : Dev) : Nat × Dev :=
  (d.mp.nextPurp, modMp d fun m => { m with purps := nput m.purps m.nextPurp { kind := k }, nextPurp := m.nextPurp + 1 })

/-- Lay `bs` into the bytes of a purpose from position `off`. -/
def layAt (old : List Byte) (off : Nat) (bs : List Byte) : List Byte :=
  (old ++ zeros (off - old.length)).take off ++ bs ++ old.drop (off + bs.length)

/-- Close a purpose. -/
def endPurp (i : Nat) (d : Dev) : Dev := modMp d fun m => { m with purps := nerase m.purps i }

/-- The port can take new requests of its kind: present, enabled (PRM_GLB_MP_CFG) and not being withdrawn (R93). -/
def portUsable (d : Dev) (p : Nat) : Bool :=
  decide (p % 4 < d.build.ports) && nbit (if p < 4 then getF d F.glbMpCfg_MPR_EN else getF d F.glbMpCfg_MPW_EN) (p % 4)
    && !(getPort d p).pdreq && !(getPort d p).withdrawn && decide ((getPort d p).out.length < 256)

/-- The usable port of the kind with the fewest requests outstanding, the lowest first. -/
def pickPort (d : Dev) (write : Bool) : Option Nat :=
  ((List.range 4).map fun i => if write then i + 4 else i).foldl (fun b p =>
    if portUsable d p then
      match b with
      | none => some p
      | some q => if (getPort d p).out.length < (getPort d q).out.length then some p else b
    else b) none

/-- The lowest free tag of a port (R25). -/
def freeTag (m : MPort) : Nat := ((List.range 256).find? fun t => (nfind m.out t).isNone).getD 0

/-- The 64 bytes of a beat, byte k in bits 8k + 7 to 8k (R25). -/
def beatBytes (b : Beat) : List Byte := (List.range 64).map fun i => BitVec.ofNat 8 (b.toNat / 2 ^ (8 * i))

/-- Flits of a request: a read is one, a write one for each beat (R25). -/
def reqFlits (r : Req) : Nat := if r.write then r.beats else 1

/-- The flits of a request under tag t (Table PRT-2): the first carries the header; a write's carry its beats with QPAR. The bytes of a
beat that are not written are zero (DESIGN CHOICE, log 90). -/
def flitsOf (t : Nat) (r : Req) : List Flit :=
  let h : Flit := { adr := r.addr / 64, cnt := r.beats - 1, tag := t, gen := r.gen, fo := r.qfo, le := r.qle }
  if r.write then
    let bs := zeros r.qfo ++ r.data
    (List.range r.beats).map fun k =>
      let b := slice bs (64 * k) 64
      let b := b ++ zeros (64 - b.length)
      { h with first := decide (k = 0), data := b, par := parityOf b }
  else [h]

/-- Send flits of port p, in consecutive flits of a request, while it holds credits (R24, R25). -/
def sendFlits (p : Nat) : Nat → Dev → Dev
  | 0, d => d
  | n + 1, d =>
    let m := getPort d p
    match m.sendq with
    | [] => d
    | e :: es =>
      if m.credits = 0 then d
      else
        match e.flits with
        | [] => sendFlits p n (modPort d p fun m => { m with sendq := es })
        | f :: fs =>
          sendFlits p n (modPort d p fun m =>
            { m with credits := m.credits - 1, lane := some f, sendq := if fs.isEmpty then es else { e with flits := fs } :: es })

/-- What is still to be sent without the requests under tag t of which no flit has gone; one that is partly sent is sent to its
end (R25). -/
def dropUnsent (t : Nat) (q : List Sending) : List Sending := q.filter fun e => !(decide (e.tag = t) && decide (e.flits.length = e.total))

/-- Issue a request on port p under tag t, with the next generation of the tag (R25). -/
def issueAs (p t : Nat) (r : Req) (resend : Bool) (d : Dev) : Dev :=
  let (a, d) := if r.write then (0, d) else fijEvent d 1 p (if 2 ≤ r.beats then [2, 3] else [2]) resend
  let g := nget 0 (getPort d p).gens t
  let r := { r with gen := g, nextBeat := 0, data := if r.write then r.data else [],
                    issuedAt := d.now, again := false, inj := decide (a ≠ 0) }
  let d := modPort d p fun m =>
    { m with out := nput m.out t r, gens := nset 0 m.gens t ((g + 1) % 4),
             sendq := dropUnsent t m.sendq ++ [{ tag := t, flits := flitsOf t r, total := reqFlits r }] }
  sendFlits p 64 d

/-- The port that a request goes to: a capsule's MPR0 (R68) unless that is withdrawn (R93). -/
def portFor (d : Dev) (r : Req) : Option Nat :=
  if (getPurp d r.purp).map (·.kind) = some PurpKind.capsule && !((getPort d 0).pdreq || (getPort d 0).withdrawn) then
    (if portUsable d 0 then some 0 else none)
  else pickPort d r.write

/-- Issue a request on a usable port of its kind. -/
def tryIssue (d : Dev) (r : Req) : Option Dev :=
  (portFor d r).map fun p => issueAs p (freeTag (getPort d p)) r false d

/-- Issue what waits, in order; what finds no port goes on waiting. -/
def mpPump (d : Dev) : Dev :=
  let w := d.mp.wait
  each w (fun d r => match tryIssue d r with
    | some d1 => d1
    | none => modMp d fun m => { m with wait := m.wait ++ [r] }) (modMp d fun m => { m with wait := [] })

/-- Ask for a request of a purpose; a purpose that has failed issues no further one (R467). -/
def mpRequest (r : Req) (d : Dev) : Dev :=
  if ((getPurp d r.purp).map (·.failed)).getD false then d
  else mpPump (modMp (modPurp d r.purp fun p => { p with reqs := p.reqs + 1 }) fun m => { m with wait := m.wait ++ [r] })

/-- The pieces of at most 2 KiB, none across a 2 KiB boundary, that cover n bytes from a (R25). -/
def pieces : Nat → Nat → Nat → List (Nat × Nat)
  | 0, _, _ => []
  | fuel + 1, a, n =>
    if n = 0 then []
    else
      let k := min n (2048 - a % 2048)
      (a, k) :: pieces fuel (a + k) (n - k)

/-- Read n bytes from host address a for a purpose: whole beats, in pieces; tagA is the piece's offset. -/
def mpReadRange (purp : Nat) (use : ReqUse) (a n tagB cls : Nat) (d : Dev) : Dev :=
  each (pieces (n / 2048 + 2) a n) (fun d pc =>
    mpRequest { purp := purp, use := use, write := false, addr := pc.1 / 64 * 64,
                beats := (pc.1 % 64 + pc.2 + 63) / 64, tagA := pc.1 - a, tagB := tagB, cls := cls } d) d

/-- Write bytes to host address a for a purpose, in pieces. -/
def mpWriteRange (purp : Nat) (use : ReqUse) (a : Nat) (bs : List Byte) (tagB cls : Nat) (d : Dev) : Dev :=
  each (pieces (bs.length / 2048 + 2) a bs.length) (fun d pc =>
    mpRequest { purp := purp, use := use, write := true, addr := pc.1 / 64 * 64,
                beats := (pc.1 % 64 + pc.2 + 63) / 64, data := slice bs (pc.1 - a) pc.2, qfo := pc.1 % 64,
                qle := (pc.1 + pc.2 - 1) % 64, tagA := pc.1 - a, tagB := tagB, cls := cls } d) d

/-- A request of port p, tag t leaves the port. -/
def retire (p t : Nat) (d : Dev) : Dev :=
  modPort d p fun m => { m with out := nerase m.out t, sendq := dropUnsent t m.sendq }

/-- One request of a purpose has ended. -/
def reqEnded (i : Nat) (d : Dev) : Dev := modPurp d i fun p => { p with reqs := p.reqs - 1 }

/-- The purpose fails: nothing further is issued for it (R467). -/
def purpFail (i : Nat) (lost : Bool) (d : Dev) : Dev :=
  let dropped := (d.mp.wait.filter fun r => decide (r.purp = i)).length
  let d := modMp d fun m => { m with wait := m.wait.filter fun r => decide (r.purp ≠ i) }
  modPurp d i fun p => { p with failed := true, lost := p.lost || lost, reqs := p.reqs - dropped }

/-- A request has failed for good (R29): FAILED is set, and its purpose fails. -/
def reqFailed (p t : Nat) (r : Req) (lost : Bool) (d : Dev) : Dev :=
  purpFail r.purp lost (reqEnded r.purp (retire p t (if lost then d else setF d F.glbMpStat_FAILED 1 p)))

/-- A request goes back to those that wait for a port (R93). -/
def mpRequeue (p t : Nat) (r : Req) (d : Dev) : Dev :=
  mpPump (modMp (retire p t d) fun m => { m with wait := m.wait ++ [{ r with again := false }] })

/-- Issue a request again with the next generation; on another port where its own is being withdrawn (R28, R93). -/
def reissue (p t : Nat) (r : Req) (d : Dev) : Dev :=
  let d := bump d F.glbMpStat_REISSUES p
  if (getPort d p).pdreq ∨ (getPort d p).withdrawn then mpRequeue p t r d else issueAs p t r true d

/-- A request's answer counts as AGAIN or a parity error: reissue, 1 µs later or at once, unless RETRY_MAX reissues have
been made (R28, R29). -/
def reqAgain (p t : Nat) (r : Req) (atOnce : Bool) (d : Dev) : Dev :=
  if getF d F.glbMpCfg_RETRY_MAX ≤ r.reissues then reqFailed p t r false d
  else
    let r1 := { r with reissues := r.reissues + 1 }
    if atOnce then reissue p t r1 d
    else modPort d p fun m => { m with out := nput m.out t { r1 with again := true }, sendq := dropUnsent t m.sendq }

end Sys2Proof.Machine
end

