-- ==== Sys2Proof/Machine/Rail.lean ====
section
/-! DEFINITION. Machine/Rail.lean: what every SoC-side unit uses of the rail, the journal and the mode manager: error
posts (R293 to R296), isolation (R297), journal entries (R213), the issue of an operation (R139) and the entry to SAFE. -/

namespace Sys2Proof.Machine

open Sys2Proof

/-- Entry to SAFE from LOADING through MAINTAIN or FACTORY; a transition in progress ends with it (Table MOD-2, R300). -/
def enterSafe (cause : Nat) (d : Dev) : Dev :=
  let c := d.mode.mode.code
  if (2 ≤ c ∧ c ≤ 9) ∨ c = 13 then enterMode .safe cause (modMode d fun s => { s with onward := none, bgStop := false }) else d

/-- Isolate a LUN (R297): its bit, the notice to its scheduler, and a CHECKPOINT that records it. -/
def isolateLun (l : Nat) (d : Dev) : Dev :=
  if lunIsol d l || decide (d.build.luns ≤ l) then d
  else
    let d := setReg d .ordIsol (chanOf l) (getReg d .ordIsol (chanOf l) + 2 ^ (l % 32))
    let d := modPgm d fun p => { p with ckptWanted := true }
    hsend (groupOf (chanOf l)) 0 (.ctrlReq (.isolate l)) d

/-- Post an error (R293 to R296): TYPE, LUN (0xFFF none), UNIT, and the parent whose recovery failed. An entry that is
posted `resolved` carries `outcome`. A post that would reach NEST 3 isolates the LUN and resolves ISOLATED, and its parent is to
resolve ESCALATED (R295). A post that
finds 64 entries is lost, and SAFE is entered. -/
def eqPostFrom (typ lun unit : Nat) (resolved : Bool) (outcome : Nat) (parent : Option Nat) (d : Dev) : Dev :=
  if 64 ≤ d.ord.eq.length then
    enterSafe 6 (bump (setF d F.ordEqstat_OVERFLOW 1) F.ordEqstat_DROPPED)
  else
    let n := d.ret.lastEseq + 1
    let pe := match parent with | some p => d.ord.eq.find? (fun e : EqEntry => decide (e.eseq = p)) | none => none
    let nest := match pe with | some e => if e.lun = lun then e.nest + 1 else 1 | none => 1
    let iso := decide (3 ≤ nest) && decide (lun ≠ 0xFFF)
    let e : EqEntry := { eseq := n, resolved := resolved || iso, nest := min 3 nest, typ := typ, lun := lun, unit := unit,
                         outcome := if iso then 5 else if resolved then outcome else 0, parent := parent }
    let up := fun (x : EqEntry) => if iso ∧ some x.eseq = parent ∧ !x.resolved then { x with fin := some 4 } else x
    let d := modRet (modOrd d fun o => { o with eq := o.eq.map up ++ [e] }) fun r => { r with lastEseq := n }
    let d := setF d F.ordEqstat_NEW 1
    if iso then isolateLun lun d else d

/-- Post an error without recovery of its own (TYPE 0x08 to 0x13). -/
def eqNote (typ lun unit outcome : Nat) (d : Dev) : Dev := eqPostFrom typ lun unit true outcome none d

/-- The recovery of an entry has ended with an outcome; the entry resolves when its turn comes (R294). -/
def eqFin (eseq outcome : Nat) (d : Dev) : Dev :=
  modOrd d fun o =>
    { o with eq := o.eq.map fun e => if e.eseq = eseq && !e.resolved then { e with fin := some outcome } else e }

/-- Append a journal entry; its JSEQ is the one that `nextJseq` held (R213). -/
def jAdd (typ : Nat) (susp : Bool) (lun unit page arg : Nat) (d : Dev) : Dev :=
  modPgm d fun p =>
    { p with buf := p.buf ++ [{ jseq := p.nextJseq, typ := typ, susp := susp, lun := lun, unit := unit, page := page, arg := arg }],
             nextJseq := p.nextJseq + 1, bufSince := if p.buf.isEmpty then d.now else p.bufSince }

/-- The power-up of a gated group starts (R91). -/
def ungate (g : Nat) (d : Dev) : Dev :=
  if (getGroup d g).stage = .gated then
    modGroup (setF d F.pwrGate_REQ (getF d F.pwrGate_REQ &&& (255 - 2 ^ g))) g fun x => { x with stage := .ungating }
  else d

/-- Set a lapse cause (Table SCH-6). -/
def lapse (bit : Nat) (d : Dev) : Dev := setF d ⟨.schLapse, bit, bit⟩ 1

/-- An OP_REQ is handed over; one of class 0 goes ahead of every message that has no SEQ yet (R143). -/
def sendOp (g : Nat) (op : Op) (d : Dev) : Dev :=
  if op.cls = 0 then
    let c0 := fun b : MsgBody => match b with | .opReq o => decide (o.cls = 0) | _ => false
    let d := modStream d g 0 fun s =>
      { s with waiting := s.waiting.takeWhile c0 ++ (.opReq op) :: s.waiting.dropWhile c0 }
    pumpStream g 0 64 d
  else hsend g 0 (.opReq op) d

/-- Operations of a LUN's class or background queue that the rail has sent and that have not ended. -/
def opsOut (d : Dev) (l cls : Nat) : Nat :=
  (d.ord.ops.filter fun p => decide (p.2.lun = l ∧ p.2.cls = cls) && !(d.ord.held.any fun h => decide (h.2.tag = p.1))).length

/-- The group admits operations and the LUN's queue has a free place (R90, R139). -/
def opMaySend (d : Dev) (op : Op) : Bool :=
  decide ((getGroup d (groupOf (chanOf op.lun))).stage = .on) && decide (opsOut d op.lun op.cls < 16)

/-- Send what is held, in order, as places free; class-0 operations come first. -/
def pumpHeld (d : Dev) : Dev :=
  let hs := (d.ord.held.filter fun p => decide (p.2.cls = 0)) ++ d.ord.held.filter fun p => decide (p.2.cls ≠ 0)
  each hs (fun d p =>
    if opMaySend d p.2 then
      sendOp p.1 p.2 (modOrd d fun o => { o with held := o.held.filter fun h => decide (h.2.tag ≠ p.2.tag) })
    else d) d

/-- What HOLDUP lets be issued: hold-up programs and the journal (Table MOD-1, R156), and nothing where R84 or R347 applies. -/
def hupUse (d : Dev) (u : OpUse) : Bool :=
  !d.hup.empty && match u with | .holdup _ | .sysPage _ _ | .sysErase _ _ => true | _ => false

/-- Issue a flash operation: it takes the next tag, and its OP_REQ goes to the LUN's group, or the rail holds it while the
group admits none (R90, R91) or its queue at the LUN is full (R139). A held operation ungates the group where AUTO_UNGATE
says so. -/
def opIssue (op : Op) (d : Dev) : Dev :=
  if d.mode.mode = .holdup ∧ !hupUse d op.use then d
  else
  let op := { op with tag := d.ord.nextTag }
  let g := groupOf (chanOf op.lun)
  let d := modOrd d fun o =>
    { o with nextTag := o.nextTag + 1, ops := nput o.ops op.tag op, held := o.held ++ [(g, op)] }
  if (getGroup d g).stage = .on then pumpHeld d
  else
    let d := when (decide (op.cls = 0)) (lapse 5) d
    if nbit (getF d F.pwrGate_AUTO_UNGATE) g then ungate g d else d

/-- The operations held for a group are sent (R91). -/
def sendHeld (d : Dev) : Dev := pumpHeld d

/-- The rail's record of operation `tag` is closed. -/
def opClose (tag : Nat) (d : Dev) : Dev := pumpHeld (modOrd d fun o => { o with ops := nerase o.ops tag })

/-- Bytes of the extended-custody regions (R277). -/
def regionBytes (d : Dev) : Nat := (d.cq.regions.map fun p => p.2.len).sum

/-- The custody bound B for regions of r bytes in all: pool, share, records and regions (R331). -/
def boundWith (d : Dev) (r : Nat) : Nat := d.codec.fifoBytes + d.codec.c0Bytes + 131072 + r

/-- Words of the FIFOs that hold data not yet freed. -/
def fifosEmpty (d : Dev) : Bool := d.dma.fifos.all fun f => decide (f.2.mark = f.2.wr)

/-- Commands fetched whose completion entry has not been written. -/
def commandsOut (d : Dev) : Bool := d.ord.cmds.any fun c => decide (c.2.st ≠ .released)

/-- Commands that are STAGED and not DURABLE: TRIM and zone records, and write data (R18, R340). -/
def stagedLeft (d : Dev) : Bool := d.ord.cmds.any fun c => c.2.staged && !c.2.durable

/-- The pantry holds nothing that is not DURABLE (R81 step 4). -/
def pantryDurable (d : Dev) : Bool :=
  fifosEmpty d && !stagedLeft d &&
    d.pgm.units.all fun u => u.2.durable || decide (u.2.st = .abandoned)

/-- Custody is empty (R18, R84). -/
def custodyEmpty (d : Dev) : Bool := pantryDurable d && d.cq.regions.isEmpty

end Sys2Proof.Machine
end

