-- ==== Sys2Proof/Machine/Place.lean ====
section
/-! DEFINITION. Machine/Place.lean: where a sector lies (R116, R165, R224 to R230, R234, R238, R242): stripe groups, rings,
remap, zones, and the pages of a program unit. -/

namespace Sys2Proof.Machine

open Sys2Proof

/-- The NAMESPACE section of a namespace index. -/
def getNs (d : Dev) (n : Nat) : NsSec := nget {} d.cfg.nss n

/-- The namespaces that the image configures, with their indexes. -/
def nsList (d : Dev) : List (Nat × NsSec) := d.cfg.nss.filter fun p => p.2.present

/-- Every stripe group with its namespace. -/
def sgAll (d : Dev) : List (Nat × NsSec × SgRow) := (nsList d).flatMap fun p => p.2.groups.map fun g => (p.1, p.2, g)

/-- The namespace and row of a stripe group. -/
def sgFind (d : Dev) (sg : Nat) : Option (Nat × NsSec × SgRow) := (sgAll d).find? fun t => decide (t.2.2.sg = sg)

/-- Members of a stripe group (R226). -/
def sgLuns (d : Dev) (sg : Nat) : List Nat := match sgFind d sg with | some t => sgMembers t.2.1 t.2.2 | none => []

/-- The superblock number (R226). -/
def sbnOf (sg m : Nat) : Nat := sg * 65536 + m

/-- The remap table applied to a block of a LUN, chains included (R238). -/
def remapGo (t : List (Nat × Nat)) : Nat → Nat → Nat
  | 0, b => b
  | n + 1, b => match t.find? (fun p => decide (p.1 = b)) with
    | some p => remapGo t n p.2
    | none => b

/-- The block that stands for multi-plane block b of LUN l. -/
def remapBlk (d : Dev) (l b : Nat) : Nat := remapGo (nget [] d.xlt.remap l) 64 b

/-- The block that a spare serves for, chains included; a block that is no spare serves for itself (R236, R238). -/
def servesGo (t : List (Nat × Nat)) : Nat → Nat → Nat
  | 0, b => b
  | n + 1, b => match t.find? (fun p => decide (p.2 = b)) with
    | some p => servesGo t n p.1
    | none => b

def servesBlk (d : Dev) (l b : Nat) : Nat := servesGo (nget [] d.xlt.remap l) 64 b

/-- The superblock that a physical multi-plane block belongs to or serves. -/
def sbOfBlk (d : Dev) (l b : Nat) : Option Nat :=
  let m := servesBlk d l b
  ((sgAll d).find? fun t => (sgMembers t.2.1 t.2.2).contains l && decide (t.2.2.blo ≤ m ∧ m ≤ t.2.2.bhi)).map
    fun t => sbnOf t.2.2.sg m

/-- Hold-up blocks of a LUN follow its system blocks (R224, R331). -/
def isSysBlk (b : Nat) : Bool := decide (b < 8)
def isHupBlk (d : Dev) (b : Nat) : Bool := decide (8 ≤ b ∧ b < 8 + leAt d.cfg.holdup 1 1)

/-- A block of a LUN that is in no other class, and neither retired nor in use as a spare (R224, R238). -/
def isFreeSpare (d : Dev) (l b : Nat) : Bool :=
  let t := nget [] d.xlt.remap l
  !isSysBlk b && !isHupBlk d b && !(t.any fun p => decide (p.1 = b ∨ p.2 = b)) && !d.pgm.retired.contains (l, b) &&
    !((sgAll d).any fun s => (sgMembers s.2.1 s.2.2).contains l && decide (s.2.2.blo ≤ b ∧ b ≤ s.2.2.bhi))

/-- Spares left on a LUN. -/
def spareCount (d : Dev) (l : Nat) : Nat := ((List.range (mpBlocks d l)).filter fun b => isFreeSpare d l b).length

/-- The key of a LUN's multi-plane block in the erase counters. -/
def blkKey (l b : Nat) : Nat := l * 65536 + b

/-- The erase count of a multi-plane block. -/
def eraseCnt (d : Dev) (l b : Nat) : Nat := nget 0 d.xlt.erases (blkKey l b)

/-- The spare of a LUN with the lowest erase count, the lowest number on a tie (R238). -/
def pickSpare (d : Dev) (l : Nat) : Option Nat :=
  ((List.range (mpBlocks d l)).filter fun b => isFreeSpare d l b).foldl (fun best b =>
    match best with
    | none => some b
    | some x => if eraseCnt d l b < eraseCnt d l x then some b else some x) none

/-! ### Superblocks and units -/

/-- Parity members of a namespace, 0 or 1. -/
def parOf (ns : NsSec) : Nat := if ns.par = 0 then 0 else 1

/-- Place of sector n among w members with PAR p and units of u sectors: member, unit row, sector of the unit (R227). -/
def placeSec (w p u n : Nat) : Nat × Nat × Nat :=
  let i := n / u
  let row := i / (w - p)
  let k := i % (w - p)
  let k := if p = 1 ∧ row % w ≤ k then k + 1 else k
  (k, row, n % u)

/-- The sector number of sector s of unit `row` on member k: the inverse of `placeSec` for a data member. -/
def secOfPlace (w p u k row s : Nat) : Nat :=
  let j := if p = 1 ∧ row % w < k then k - 1 else k
  (row * (w - p) + j) * u + s

/-- The page row address and codeword of sector s of unit `row` in block b of LUN l (R116, R165). -/
def pageOf (d : Dev) (l b row s : Nat) (slc : Bool) : Nat × Nat :=
  let i := s / 4
  let q := i / profPlanes d l
  let p := i % profPlanes d l
  (rowAddr d l (b * profPlanes d l + p) (if slc then row else row * profCell d l + q), s % 4)

/-- LUN block and page of a row address (R116). -/
def blkOfRow (d : Dev) (l r : Nat) : Nat := r / 2 ^ profPageShift d l % 2 ^ (profLunShift d l - profPageShift d l)
def pgOfRow (d : Dev) (l r : Nat) : Nat := r % 2 ^ profPageShift d l

/-! ### Rings and zones -/

/-- Key of a zone: its namespace and number. -/
def zkey (ns z : Nat) : Nat := ns * 16777216 + z

def getRing (d : Dev) (sg : Nat) : Ring := nget {} d.xlt.rings sg
def modRing (d : Dev) (sg : Nat) (f : Ring → Ring) : Dev := modXlt d fun x => { x with rings := nmod {} x.rings sg f }
def getZone (d : Dev) (ns z : Nat) : Zone := nget {} d.cq.zones (zkey ns z)
def modZone (d : Dev) (ns z : Nat) (f : Zone → Zone) : Dev := modCq d fun c => { c with zones := nmod {} c.zones (zkey ns z) f }
def getSb (d : Dev) (sbn : Nat) : SbInfo := nget {} d.xlt.sbs sbn
def modSb (d : Dev) (sbn : Nat) (f : SbInfo → SbInfo) : Dev := modXlt d fun x => { x with sbs := nmod {} x.sbs sbn f }

/-- Zones of a ring: its positions but the gap (R230). -/
def ringS (g : SgRow) : Nat := g.bhi - g.blo

/-- Zones of a ZONED namespace. -/
def zoneCount (ns : NsSec) : Nat := (ns.groups.head?.map ringS).getD 0 * ns.groups.length

/-- The ring row of zone z. -/
def zoneRow (ns : NsSec) (z : Nat) : SgRow := ns.groups.getD (z % ns.groups.length) {}

/-- The position of local zone zl in a ring with offset w, gap g and s zones (R230). -/
def ringPos (w g s zl : Nat) : Nat := let q := (zl + w) % s; if g ≤ q then q + 1 else q

/-- The local zone at position p, where p is not the gap. -/
def ringZone (w g s p : Nat) : Nat := let q := if g < p then p - 1 else p; (q + s - w % s) % s

/-- The position of zone z. -/
def zonePos (d : Dev) (ns : NsSec) (z : Nat) : Nat :=
  let g := zoneRow ns z
  let r := getRing d g.sg
  ringPos r.w r.gap (ringS g) (z / ns.groups.length)

/-- The superblock of zone z at its own position. -/
def zoneSb (d : Dev) (ns : NsSec) (z : Nat) : Nat := let g := zoneRow ns z; sbnOf g.sg (g.blo + zonePos d ns z)

/-- The superblock that reads of zone z go to while a relocation runs (R234). -/
def zoneSbRead (d : Dev) (ns : NsSec) (z : Nat) : Nat :=
  let g := zoneRow ns z
  match (getRing d g.sg).reloc with
  | some r =>
    if r.zl = z / ns.groups.length ∧ r.kind ≠ .gapMove ∧ r.phase ≠ 1 then sbnOf g.sg (g.blo + r.dst) else zoneSb d ns z
  | none => zoneSb d ns z

/-- The zone that a superblock of a ring holds, where it is not the gap. -/
def zoneOfSb (d : Dev) (sbn : Nat) : Option (Nat × Nat) :=
  match sgFind d (sbn / 65536) with
  | some (n, ns, g) =>
    let r := getRing d g.sg
    let p := sbn % 65536 - g.blo
    if ns.random ∨ p = r.gap then none
    else
      let idx := (ns.groups.findIdx fun x => decide (x.sg = g.sg))
      some (n, ringZone r.w r.gap (ringS g) p * ns.groups.length + idx)
  | none => none

/-- Members of a group that a zone opened now skips: those isolated or not present (R226, R228). -/
def skipNow (d : Dev) (ns : NsSec) (g : SgRow) : List Nat :=
  (List.range ns.width).filter fun k => lunIsol d (g.f + g.d * k) || !lunMapped d (g.f + g.d * k)

/-- ZSZE: the power of two not below the native ZCAP with no member isolated (R229). -/
def zsze (d : Dev) (ns : NsSec) : Nat :=
  2 ^ Nat.clog 2 (zcapOf d (ns.groups.headD {}) (ns.width - parOf ns) false)

/-- ZCAP of zone z (R228, R240, R241): as it was opened, or as it would be opened now. -/
def zoneCap (d : Dev) (n : Nat) (ns : NsSec) (z : Nat) : Nat :=
  let x := getZone d n z
  if x.st = .empty then
    zcapOf d (zoneRow ns z) (ns.width - parOf ns - (skipNow d ns (zoneRow ns z)).length) false
  else x.zcap

/-- Members of a zone that hold data or parity, in order. -/
def zoneMembers (d : Dev) (n : Nat) (ns : NsSec) (z : Nat) : List Nat :=
  let g := zoneRow ns z
  let x := getZone d n z
  let skip := if x.st = .empty then skipNow d ns g else x.skipped
  ((List.range ns.width).filter fun k => !skip.contains k).map fun k => g.f + g.d * k

/-- Sectors of a program unit of zone z, in the zone's mode. -/
def zoneU (d : Dev) (n : Nat) (ns : NsSec) (z : Nat) : Nat := unitSectors d (zoneRow ns z).f (getZone d n z).slc

/-- A physical place of a sector: LUN, remapped block, page row, codeword, and whether the page is in SLC mode. -/
structure Place where
  lun : Nat
  blk : Nat
  row : Nat
  k : Nat
  slc : Bool
  /-- The unit's member index and row within the superblock, and the sector within the unit. -/
  member : Nat
  unitRow : Nat
  sec : Nat
  deriving DecidableEq, Repr

/-- The place of sector s of unit `row` on a member LUN of superblock sbn. -/
def unitPlace (d : Dev) (sbn l member row s : Nat) (slc : Bool) : Place :=
  let b := remapBlk d l (sbn % 65536)
  let pg := pageOf d l b row s slc
  { lun := l, blk := b, row := pg.1, k := pg.2, slc := slc, member := member, unitRow := row, sec := s }

/-- The mode that a superblock's pages are in. -/
def sbSlc (d : Dev) (sbn : Nat) : Bool := (getSb d sbn).slc

/-- Where sector n of zone z is read from (R227, R230, R234, R238). -/
def zonePlace (d : Dev) (nsi : Nat) (ns : NsSec) (z n : Nat) : Place :=
  let ms := zoneMembers d nsi ns z
  let sbn := zoneSbRead d ns z
  let slc := sbSlc d sbn
  let (k, row, s) := placeSec ms.length (parOf ns) (unitSectors d (zoneRow ns z).f slc) n
  unitPlace d sbn (ms.getD k 0) k row s slc

/-! ### RANDOM pools: physical sector numbers (R242) -/

/-- Sectors of one member block of a group in native mode. -/
def blkSectors (d : Dev) (g : SgRow) : Nat := profPages d g.f * profPlanes d g.f * 4

/-- Sectors of a group in the count of PSNs. -/
def sgSectors (d : Dev) (ns : NsSec) (g : SgRow) : Nat := ns.width * (g.bhi + 1 - g.blo) * blkSectors d g

/-- The PSN of codeword k at plane p and page q of block m of a member. -/
def psnOf (d : Dev) (ns : NsSec) (gi member m q p k : Nat) : Nat :=
  let g := ns.groups.getD gi {}
  ((ns.groups.take gi).map (sgSectors d ns)).sum +
    (member * (g.bhi + 1 - g.blo) + (m - g.blo)) * blkSectors d g + (q * profPlanes d g.f + p) * 4 + k

/-- Group index, member, block, page, plane and codeword of a PSN. -/
def psnGo (d : Dev) (ns : NsSec) : Nat → List SgRow → Nat → Option (Nat × Nat × Nat × Nat × Nat × Nat)
  | _, [], _ => none
  | gi, g :: gs, n =>
    let sz := sgSectors d ns g
    if n < sz then
      let bs := blkSectors d g
      let blk := n / bs
      let w := g.bhi + 1 - g.blo
      let r := n % bs
      some (gi, blk / w, g.blo + blk % w, r / 4 / profPlanes d g.f, r / 4 % profPlanes d g.f, r % 4)
    else psnGo d ns (gi + 1) gs (n - sz)

/-- The PSN of sector s of unit `row` on member k of superblock sbn. -/
def psnUnit (d : Dev) (ns : NsSec) (sbn member row s : Nat) : Nat :=
  let gi := ns.groups.findIdx fun g => decide (g.sg = sbn / 65536)
  let f := (ns.groups.getD gi {}).f
  psnOf d ns gi member (sbn % 65536) (row * profCell d f + s / 4 / profPlanes d f) (s / 4 % profPlanes d f) (s % 4)

/-- Where a PSN is read from, and the superblock that holds it. -/
def psnPlace (d : Dev) (ns : NsSec) (psn : Nat) : Option (Nat × Place) :=
  (psnGo d ns 0 ns.groups psn).map fun (gi, k, m, q, p, cw) =>
    let g := ns.groups.getD gi {}
    let sbn := sbnOf g.sg m
    let c := profCell d g.f
    (sbn, unitPlace d sbn (g.f + g.d * k) k (q / c) ((q % c * profPlanes d g.f + p) * 4 + cw) false)

/-- Key of a map entry. -/
def mapKey (ns lba : Nat) : Nat := ns * 281474976710656 + lba

/-- The map entry of an unmapped sector (R242). -/
def unmapped : Nat := 0xFFFFFFFF

/-- The map entry of a sector. -/
def mapGet (d : Dev) (ns lba : Nat) : Nat := nget unmapped d.xlt.map (mapKey ns lba)

end Sys2Proof.Machine
end

