-- ==== Sys2Proof/Machine/Rrc.lean ====
section
/-! DEFINITION. Machine/Rrc.lean: the read recovery unit's threshold table (R181 to R191): keys, predicted offsets, learning,
the age clock, sweeps and the refresh-candidate filter (R200). -/

namespace Sys2Proof.Machine

open Sys2Proof

/-! ### Keys (R182) -/

/-- The levels that a page type senses (Table RRC-1); type 3 is the SLC-mode read. -/
def levelsOf (cell ptype : Nat) : List Nat :=
  if ptype = 3 then [1]
  else if cell = 1 then [1]
  else if cell = 2 then (if ptype = 0 then [2] else [1, 3])
  else if ptype = 0 then [1, 5] else if ptype = 1 then [2, 4, 6] else [3, 7]

/-- The page type of page p of a LUN. -/
def pageType (d : Dev) (l p : Nat) (slc : Bool) : Nat := if slc then 3 else p % profCell d l

/-- The page type that senses level i of a native page. -/
def senserOf (cell i : Nat) : Nat :=
  if cell = 1 then 0
  else if cell = 2 then (if i = 2 then 0 else 1)
  else if i = 1 ∨ i = 5 then 0 else if i = 3 ∨ i = 7 then 2 else 1

/-- The levels that a read writes: level 1 in SLC mode, every level of the cell otherwise. -/
def writtenLevels (cell : Nat) (slc : Bool) : List Nat :=
  if slc ∨ cell = 1 then [1] else if cell = 2 then [1, 2, 3] else [1, 2, 3, 4, 5, 6, 7]

/-- The block group of LUN block b. -/
def blkGroup (d : Dev) (l b : Nat) : Nat := b / 2 ^ (Nat.clog 2 (profPlanes d l * profBlocks d l) - 4)

def thrKey (l g t : Nat) : Nat := 64 * l + 4 * g + t
def getThr (d : Dev) (l g t : Nat) : ThrEntry := nget {} d.rrc.table (thrKey l g t)
def modThr (d : Dev) (l g t : Nat) (f : ThrEntry → ThrEntry) : Dev :=
  modRrc d fun r => { r with table := nmod {} r.table (thrKey l g t) f }

/-- The superblock that LUN block b is in, where it is in one. -/
def sbOfLunBlk (d : Dev) (l b : Nat) : Option Nat := sbOfBlk d l (b / profPlanes d l)

/-- T_read in 1/128 °C (R182). -/
def readTemp (d : Dev) (l : Nat) : Int :=
  if profFeat d l 8 then
    match nget none d.thm.temps l with
    | some (t, _) => t * 128
    | none => chanTemp d (chanOf l)
  else chanTemp d (chanOf l)

/-- ΔT in 1/128 °C. -/
def deltaT (d : Dev) (l b : Nat) : Int :=
  match sbOfLunBlk d l b with
  | some s => match (getSb d s).progTemp with
    | some t => readTemp d l - t
    | none => 0
  | none => 0

/-- The age key, minutes. -/
def ageOf (d : Dev) (l b : Nat) : Nat :=
  match sbOfLunBlk d l b with
  | some s =>
    let x := getSb d s
    match x.closeStamp, x.openStamp with
    | some t, _ => d.ageMin - t
    | none, some t => d.ageMin - t
    | none, none => 0
  | none => 0

/-- The temperature bin of ΔT (Table RRC-2). -/
def tempBin (t : Int) : Nat := ([-40, -25, -10, 0, 10, 25, 40].filter fun (b : Int) => decide (b * 128 ≤ t)).length

/-- The age bin of minutes (Table RRC-2). -/
def ageBin (m : Nat) : Nat := ([60, 1440, 10080, 43200, 259200, 1051200, 5256000].filter fun b => decide (b ≤ m)).length

/-- Byte c of a correction row (R184): table 0 temperature, 1 age. -/
def corrByte (d : Dev) (prof tbl bin c : Nat) : Int :=
  sext 8 ((nget 0#64 d.rrc.corr (16 * prof + 8 * tbl + bin)).toNat / 2 ^ (8 * c))

/-- The sum of both corrections of column c for block b of LUN l. -/
def corrSum (d : Dev) (l b c : Nat) : Int :=
  corrByte d (profIdx d l) 0 (tempBin (deltaT d l b)) c + corrByte d (profIdx d l) 1 (ageBin (ageOf d l b)) c

/-- Whether the profile takes a positive offset to lower the level (R185). -/
def polNeg (d : Dev) (l : Nat) : Bool := nbit (getF d F.rrcCfg_POL) (profIdx d l)

/-! ### Prediction (R185) -/

/-- The predicted offset of level i for block b. -/
def predLevel (d : Dev) (l b i : Nat) (slc : Bool) : Int :=
  let t := if slc then 3 else senserOf (profCell d l) i
  let e := getThr d l (blkGroup d l b) t
  let v := clampI (-127) 127 (e.base.getD (i - 1) 0 + corrSum d l b (if slc then 0 else i))
  if polNeg d l then -v else v

/-- The seven offsets of a predicted read, zero where a level is not written. -/
def predict (d : Dev) (l b : Nat) (slc : Bool) : List Int :=
  (List.range 7).map fun j => if (writtenLevels (profCell d l) slc).contains (j + 1) then predLevel d l b (j + 1) slc else 0

/-- The seven offsets of retry row k (R193): an SLC-mode read uses byte 0 alone. -/
def rowOffsets (d : Dev) (l k : Nat) (slc : Bool) : List Int :=
  (List.range 7).map fun j =>
    if (writtenLevels (profCell d l) slc).contains (j + 1) then sext 8 (prof d l (0x68 + 8 * k + j) 1) else 0

/-- Offsets shifted by n units on every level written (R194). -/
def shiftOffsets (d : Dev) (l : Nat) (slc : Bool) (o : List Int) (n : Int) : List Int :=
  (List.range 7).map fun j => if (writtenLevels (profCell d l) slc).contains (j + 1) then o.getD j 0 + n else 0

/-- V6 and V7 for seven offsets (Table SEQ-3). -/
def packOffs (o : List Int) : Nat × Nat :=
  (((List.range 4).map fun j => wrapI 8 (o.getD j 0) * 2 ^ (8 * j)).sum,
   ((List.range 3).map fun j => wrapI 8 (o.getD (4 + j) 0) * 2 ^ (8 * j)).sum)

/-- The offsets last written to a LUN are forgotten (R186). -/
def forgetOfs (l : Nat) (d : Dev) : Dev := modRrc d fun r => { r with lastOfs := nset [] r.lastOfs l [] }

/-! ### Learning (R189) -/

/-- Updates are made: LEARN_EN, and the saved table has been loaded (R396). -/
def learnOn (d : Dev) : Bool := isSet d F.rrcCfg_LEARN_EN && d.mode.restored

/-- The step rule for a read of a page type that senses one level. -/
def learnStep (l b t lo hi : Nat) (d : Dev) : Dev :=
  match levelsOf (profCell d l) t with
  | [i] =>
    if !learnOn d then d
    else
      let m := getF d F.rrcCfg_LEARN_MIN
      let up : Int := if 2 * hi + m ≤ lo then 1 else if 2 * lo + m ≤ hi then -1 else 0
      modThr d l (blkGroup d l b) t fun e =>
        if up = 0 then { e with conf := min 7 (e.conf + 1) }
        else { e with base := e.base.set (i - 1) (clampI (-128) 127 (e.base.getD (i - 1) 0 + up)), conf := 0 }
  | _ => d

/-- The jump rule: the entry takes the base that reproduces the winning sense (R189). -/
def learnJump (l b t : Nat) (win : List Int) (row : Nat) (d : Dev) : Dev :=
  if !learnOn d then d
  else
    let s := polNeg d l
    modThr d l (blkGroup d l b) t fun e =>
      { e with base := (levelsOf (profCell d l) t).foldl (fun (bs : List Int) i =>
                 let w := win.getD (i - 1) 0
                 bs.set (i - 1) (clampI (-128) 127 ((if s then -w else w) - corrSum d l b (if t = 3 then 0 else i)))) e.base,
               lastRow := row, conf := 0 }

/-! ### Sweeps (R190) -/

/-- Native page types of the block group that sweep entry `key` belongs to, as keys. -/
def sweepTypes (d : Dev) (l key : Nat) : List Nat := (List.range (profCell d l)).map fun t => key / 4 * 4 + t

/-- A sweep is abandoned when MAINTAIN ends: it starts again from the first type of the group. -/
def sweepDrop (l key : Nat) (d : Dev) : Dev :=
  modRrc d fun x => { x with sweeps := nerase x.sweeps key, sweptAt := (sweepTypes d l key).foldl nerase x.sweptAt }

/-- Every sweep in progress is abandoned, for MAINTAIN has ended (R190). -/
def sweepsEnd (d : Dev) : Dev := each d.rrc.sweeps (fun d p => sweepDrop (p.1 / 64) p.1 d) d

/-! ### Refresh candidates (R200) -/

/-- The target of a candidate in the filter: the superblock, or the block of a RANDOM pool or outside one. -/
def candTarget (d : Dev) (l blk : Nat) : Nat :=
  match sbOfBlk d l blk with
  | some s => match sgFind d (s / 65536) with
    | some t => if t.2.1.random then 2 ^ 32 + blkKey l blk else s
    | none => s
  | none => 2 ^ 32 + blkKey l blk

/-- A refresh candidate of multi-plane block blk of LUN l passes the filter of the last 256 within 60 s and is posted. -/
def postCand (l blk sev : Nat) (d : Dev) : Dev :=
  let t := candTarget d l blk
  let f := d.rrc.filter.filter fun c => decide (d.now < c.at_ + ms 60000)
  if f.any fun c => decide (c.target = t ∧ sev ≤ c.sev) then modRrc d fun r => { r with filter := f }
  else
    let f := (f.filter fun c => decide (c.target ≠ t)) ++ [⟨t, sev, d.now⟩]
    let d := modRrc d fun r => { r with filter := f.drop (f.length - 256) }
    hsend (groupOf (chanOf l)) 1 (.event (.refresh l blk sev)) (statsCommon F.rrcEwcnt_CAND 0 1 d)

/-! ### The age clock (R188) -/

/-- AGE_CLOCK_MINUTE: one minute passes in any mode but OFF. -/
def ageMinuteDev (d : Dev) : Dev := if d.pins.poHigh && decide (d.mode.mode ≠ .off) then { d with ageMin := d.ageMin + 1 } else d

/-- AGE_CLOCK_MINUTE (R188). -/
def execAgeClockMinute (st : State) : Host.Outcome State Fault Refusal := onDev ageMinuteDev st

/-- OFFTIME_WRITE: hours are added to the clock. -/
def offtimeDev (v : Nat) (d : Dev) : Dev := if socUp d then { d with ageMin := d.ageMin + 60 * nbits v 19 0 } else d

/-- OFFTIME_WRITE (R188). -/
def execOfftimeWrite (v : Word) (st : State) : Host.Outcome State Fault Refusal := onDev (offtimeDev v.toNat) st

end Sys2Proof.Machine
end

