-- ==== Sys2Proof/Machine/Sched.lean ====
section
/-! DEFINITION. Machine/Sched.lean: the die schedulers (R139 to R149, R154 to R156) and page-buffer slots (R159, R160). -/

namespace Sys2Proof.Machine

open Sys2Proof

/-! ### Operations by kind -/

def isReadCop (c : Nat) : Bool := decide (c ≤ 3)
def isProgCop (c : Nat) : Bool := decide (4 ≤ c ∧ c ≤ 6)
def isEraseCop (c : Nat) : Bool := decide (c = 7)

/-- The operation's page is read or programmed in SLC mode. -/
def opSlc (o : Op) : Bool := nbit o.flags 4 || decide (o.cop = 5)

/-- An operation that media common has issued itself: no OP_RESULT leaves the media side. -/
def intBase : Nat := 1099511627776
def isInternal (o : Op) : Bool := decide (intBase ≤ o.tag)

def getRec (d : Dev) (c r : Nat) : Option Rec := nfind (getChan d c).recs r
def modRec (d : Dev) (c r : Nat) (f : Rec → Rec) : Dev :=
  modChan d c fun h => match nfind h.recs r with
    | some x => { h with recs := nput h.recs r (f x) }
    | none => h

/-- The record-A and record-B numbers of a LUN. -/
def recA (l : Nat) : Nat := 2 * (l % 32)
def recB (l : Nat) : Nat := 2 * (l % 32) + 1

/-- SUSP of a routine. -/
def recSusp (x : Rec) : Bool := x.f.getLsbD 7

/-- The LUN is INDETERMINATE (R136). -/
def lunIndet (d : Dev) (l : Nat) : Bool := nget false d.xlt.indet l

/-- Only RECOVER may run on the LUN: it is INDETERMINATE, and no RECOVER has ended OK since (R136). -/
def lunBarred (d : Dev) (l : Nat) : Bool := lunIndet d l && (nfind d.pgm.settling l).isNone

/-- Mark a LUN INDETERMINATE (R136). -/
def markIndet (l : Nat) (d : Dev) : Dev :=
  modPgm (modXlt d fun x => { x with indet := nset false x.indet l true }) fun p => { p with settling := nerase p.settling l }

/-! ### Page-buffer slots (R149, R159, R160) -/

/-- Bytes of a plane-page slot. -/
def slotBytes (d : Dev) : Nat := 4 * maxCw d

/-- Slots of the page-buffer region. -/
def slotsTotal (d : Dev) : Nat := pbBytes d / slotBytes d

/-- The first slot that is in no class-0 read buffer: four slots form that of each channel. -/
def slotsLo (d : Dev) : Nat := 4 * d.build.channels

/-- The pantry address of slot i: the page-buffer region stands after the FIFO pool and the share (R158). -/
def slotAddr (d : Dev) (i : Nat) : Nat := d.codec.fifoBytes + d.codec.c0Bytes + i * slotBytes d

/-- Slots free for work other than the class-0 read buffers. -/
def slotsFree (d : Dev) : Nat := slotsTotal d - slotsLo d - (d.codec.slots.filter fun p => decide (slotsLo d ≤ p.1)).length

/-- Note the fewest free slots (PRM_PAN_WAIT.LOW). -/
def slotsLow (d : Dev) : Dev := setF d F.panWait_LOW (min (getF d F.panWait_LOW) (slotsFree d))

/-- Slots i..i + n − 1 are free, and no plane page to program reaches into them. -/
def runFree (d : Dev) (i n : Nat) : Bool :=
  !(d.codec.slots.any fun p => decide (i ≤ p.1 ∧ p.1 < i + n) ||
    (p.2.prog && decide (p.2.addr < slotAddr d (i + n) ∧ slotAddr d i < p.2.addr + p.2.data.length)))

/-- The lowest n free slots one after another in lo..hi − 1: a transfer steps through pantry addresses (Table SEQ-3, V2 and V3). -/
def slotRun (d : Dev) (lo hi n : Nat) : Option Nat :=
  (rangeFrom lo (hi - lo)).find? fun i => decide (i + n ≤ hi) && runFree d i n

/-- The lowest n free slots outside the class-0 read buffers. -/
def openRun (d : Dev) (n : Nat) : Option Nat := slotRun d (slotsLo d) (slotsTotal d) n

/-- Bytes that a read moves: V3 is per plane for READ_MULTI, the total otherwise (Table SEQ-3). -/
def readBytes (o : Op) : Nat :=
  if o.cop = 1 then o.count * max 1 (o.flags % 8) else o.count

/-- Codewords that a read moves. -/
def readCws (d : Dev) (o : Op) : Nat := readBytes o / cwBytes d o.lun

/-- Plane pages that a read moves, one slot for each (R160). -/
def readSlots (d : Dev) (o : Op) : Nat :=
  if o.sample then readCws d o else (o.col / cwBytes d o.lun + readCws d o + 3) / 4

/-- The codewords lo..hi − 1 of a read that plane page j of it brings. -/
def readPart (d : Dev) (o : Op) (j : Nat) : Nat × Nat :=
  if o.sample then (j, j + 1)
  else
    let first := o.col / cwBytes d o.lun
    (4 * j - first, min (readCws d o) (4 * (j + 1) - first))

/-- The slots that a read can take: a class-0 read takes its channel's own buffer where that is free (R149). -/
def readRun (d : Dev) (o : Op) : Option Nat :=
  let c := chanOf o.lun
  let n := readSlots d o
  if o.cls = 0 then (slotRun d (4 * c) (4 * c + 4) n).orElse fun _ => openRun d n else openRun d n

/-- The slots of a read can be allocated now. -/
def slotsReady (d : Dev) (o : Op) : Bool := !isReadCop o.cop || (readRun d o).isSome

/-- A read takes its slots from slot i on. -/
def slotsTake (o : Op) (i : Nat) (d : Dev) : Dev :=
  slotsLow (each (List.range (readSlots d o)) (fun d j =>
    let p := readPart d o j
    modCodec d fun x =>
      { x with slots := nput x.slots (i + j) { addr := slotAddr d (i + j), prog := false, tag := o.tag, lun := o.lun, lo := p.1, hi := p.2 } }) d)

/-- The plane-page addresses of a program. -/
def progAddrs (o : Op) : List Nat :=
  if isProgCop o.cop then (List.range (max 1 (o.flags % 8))).map fun p => o.addr + p * o.count else []

/-- A program has ended, or will not be issued: slots of its plane pages that stand in the pantry yet are free. -/
def progFree (o : Op) (d : Dev) : Dev :=
  let as := progAddrs o
  modCodec d fun x => { x with slots := x.slots.filter fun p => !(p.2.prog && as.contains p.2.addr) }

/-- RDATA of the slot has not been credited (R13, R160). -/
def rdataOwed (d : Dev) (s : PbSlot) : Bool := decide ((getStream d (groupOf (chanOf s.lun)) 3).credits < s.due)

/-- A read's slot is still in use (Table CDC-1): a codeword of it without an outcome, RDATA of it not credited; of a retry sense or
strobe, until its COP has ended and the decode of what it brought. -/
def slotHeld (d : Dev) (s : PbSlot) : Bool :=
  s.prog || rdataOwed d s || (d.codec.cws.any fun w => w.2.src.contains s.tag) ||
    match nfind d.codec.mops s.tag with
    | some m => (match m.op.use with
      | .ladder _ _ => true
      | _ => !m.dead && (rangeFrom s.lo (s.hi - s.lo)).any fun i => (nfind m.outcomes i).isNone)
    | none => false

/-! ### Queues (R139) -/

def schedQ (s : Sched) (q : Nat) : List Op := [s.q0, s.q1, s.q2, s.q3].getD q s.q4
def schedSetQ (s : Sched) (q : Nat) (l : List Op) : Sched :=
  if q = 0 then { s with q0 := l } else if q = 1 then { s with q1 := l } else if q = 2 then { s with q2 := l }
  else if q = 3 then { s with q3 := l } else { s with q4 := l }
def schedServed (s : Sched) (q : Nat) : Nat := [0, s.served1, s.served2, s.served3].getD q s.served4

/-- The queue of an operation: its class, or 4 for background work. -/
def opQueue (o : Op) : Nat := min 4 o.cls

/-- Put an operation into its queue, at its end or, for a retry sense, at its front (R195); one that finds 16 operations there waits
for a place (R139). -/
def schedPush (o : Op) (front : Bool) (d : Dev) : Dev :=
  modSched d o.lun fun s =>
    let q := schedQ s (opQueue o)
    if 16 ≤ q.length then { s with spill := s.spill ++ [(o, front)] }
    else schedSetQ s (opQueue o) (if front then o :: q else q ++ [o])

/-- Operations that wait for a place take those that are free, oldest first. -/
def schedRefill (l : Nat) (d : Dev) : Dev :=
  let w := (getSched d l).spill
  each w (fun d p => schedPush p.1 p.2 d) (modSched d l fun s => { s with spill := [] })

/-- Every operation queued at a LUN. -/
def schedOps (s : Sched) : List Op := s.q0 ++ s.q1 ++ s.q2 ++ s.q3 ++ s.q4 ++ s.spill.map (·.1)

/-- The row of PRM_SCH_MODECFG in force (R154). -/
def schedRow (d : Dev) : Nat :=
  match d.mode.mode with
  | .ingest => 1
  | .drain => 2
  | .maintain => 3
  | _ => 0

/-- Free superblocks of a RANDOM namespace's pool. -/
def poolFree (d : Dev) (ns : NsSec) : Nat :=
  (ns.groups.map fun g => ((rangeFrom g.blo (g.bhi + 1 - g.blo)).filter fun m => decide ((getSb d (sbnOf g.sg m)).pool = 0)).length).sum

/-- The LUN belongs to a pool below GC_CRIT free superblocks (R243). -/
def gcCritical (d : Dev) (l : Nat) : Bool :=
  (nsList d).any fun p => p.2.random && (p.2.groups.any fun g => (sgMembers p.2 g).contains l) &&
    decide (poolFree d p.2 < getF d F.wearCfg_GC_CRIT)

/-- The weight of a queue. -/
def schedWeight (d : Dev) (l q : Nat) : Nat :=
  let m := schedRow d
  if q = 1 then getF d F.schModecfg_W1 m else if q = 2 then getF d F.schModecfg_W2 m
  else if q = 3 then getF d F.schModecfg_W3 m else if gcCritical d l then 15 else getF d F.schModecfg_WBG m

/-- An open zone's write waits for an erased superblock of the erase's group (R141). -/
def eraseWanted (d : Dev) (o : Op) : Bool :=
  match o.use with
  | .erase sg _ _ => (getRing d sg).waitErase
  | _ => false

/-- ERS_DEFER keeps the erase from its start (R141): not one of class 0. -/
def eraseDeferred (d : Dev) (o : Op) : Bool :=
  isEraseCop o.cop && decide (o.cls ≠ 0) && isSet d F.schModecfg_ERS_DEFER (schedRow d) && !eraseWanted d o

/-- The mode in force lets the scheduler start the operation (R141, R154, R156, R300). -/
def opAllowed (d : Dev) (o : Op) : Bool :=
  let media := isProgCop o.cop || isEraseCop o.cop
  match d.mode.mode with
  | .serve | .ingest | .drain | .maintain | .factory => !eraseDeferred d o
  | .safe => !media
  | .warm => d.mode.restoring || (match o.use with | .chan | .recover => true | _ => false)
  | .holdup => hupUse d o.use && (getGroup d (groupOf (chanOf o.lun))).hup
  | .sanitize => match o.use with | .sanitize _ _ | .recover | .chan => true | _ => false
  | _ => false

/-- The operation may be the next on its LUN: the first on an INDETERMINATE LUN is RECOVER (R136). -/
def opReady (d : Dev) (o : Op) : Bool :=
  opAllowed d o && (!lunBarred d o.lun || decide (o.cop = 18)) && slotsReady d o

/-- A retry sense or strobe of the recovery ladder. -/
def isLadder (o : Op) : Bool := match o.use with | .ladder _ _ => true | _ => false

/-- The order within a queue (R140): BIAS 1 programs and erases first, 2 reads first, otherwise arrival; a retry sense or strobe stands
ahead of new operations (R195). -/
def biasOrder (d : Dev) (q : List Op) : List Op :=
  let l := q.filter isLadder
  let q := q.filter fun o => !isLadder o
  let r := fun o : Op => isReadCop o.cop
  let w := fun o : Op => isProgCop o.cop || isEraseCop o.cop
  l ++ match getF d F.schModecfg_BIAS (schedRow d) with
  | 1 => q.filter w ++ q.filter fun o => !w o
  | 2 => q.filter r ++ q.filter fun o => !r o
  | _ => q

/-- The first operation of queue q that may start. -/
def queueFirst (d : Dev) (l q : Nat) : Option Op :=
  let ops := schedQ (getSched d l) q
  (if q = 0 then ops else biasOrder d ops).find? (opReady d)

/-- The queue that weighted round robin serves next, and whether a new round begins (R140). -/
def wrrQueue (d : Dev) (l : Nat) : Option (Nat × Bool) :=
  let s := getSched d l
  let work := [1, 2, 3, 4].filter fun q => (queueFirst d l q).isSome
  match work.find? (fun q => decide (schedServed s q < schedWeight d l q)) with
  | some q => some (q, false)
  | none =>
    match work.find? (fun q => decide (0 < schedWeight d l q)) with
    | some q => some (q, true)
    | none => work.head?.map fun q => (q, false)

/-- The LUN runs nothing and its scheduler has nothing chosen. -/
def lunFree (d : Dev) (l : Nat) : Bool :=
  (getSched d l).chosen.isNone && (getRec d (chanOf l) (recA l)).isNone && (getRec d (chanOf l) (recB l)).isNone

/-- Choose operation o from queue q. -/
def schedTake (o : Op) (q : Nat) (round : Bool) (d : Dev) : Dev :=
  schedRefill o.lun (modSched d o.lun fun s =>
    let s := schedSetQ s q ((schedQ s q).filter fun x => decide (x.tag ≠ o.tag))
    let s := if round then { s with served1 := 0, served2 := 0, served3 := 0, served4 := 0 } else s
    { s with chosen := some o, served1 := s.served1 + b2n (decide (q = 1)), served2 := s.served2 + b2n (decide (q = 2)),
             served3 := s.served3 + b2n (decide (q = 3)), served4 := s.served4 + b2n (decide (q = 4)) })

/-- A reset of the LUN: RESET_LUN or RECOVER. -/
def isResetCop (c : Nat) : Bool := decide (c = 13 ∨ c = 18)

/-- What may run while the LUN is suspended: a reset after a busy timeout of record B (R104, R133), class-0 reads, then the read that
asked (R145). -/
def suspRead (d : Dev) (l : Nat) : Option (Op × Nat) :=
  let s := getSched d l
  match (s.q0.filter fun o => isResetCop o.cop && opReady d o) ++ s.q0.filter (fun o => isReadCop o.cop && opReady d o) |>.head? with
  | some o => some (o, 0)
  | none =>
    match s.asker with
    | none => none
    | some t => ([1, 2, 3].flatMap fun q => (schedQ s q).map fun o => (o, q)).find? fun p => decide (p.1.tag = t) && opReady d p.1

/-- Resume is granted (R145): record A's WAKE 4 condition holds. -/
def grantResume (l : Nat) (d : Dev) : Dev :=
  modSched (modRec d (chanOf l) (recA l) fun x =>
    { x with resumeOk := true, wokenAt := if x.parkedAt.isSome ∧ x.wake = 4 then some d.now else x.wokenAt }) l
    fun s => { s with asker := none }

/-- Reads of the LUN that only wait for slots. -/
def slotWaiters (d : Dev) (l : Nat) : List Nat :=
  ((List.range 5).flatMap fun q => (schedQ (getSched d l) q).filter fun o => opAllowed d o && !slotsReady d o).map (·.tag)

/-- A read whose issue is delayed for a slot is counted once (PRM_PAN_WAIT.WAITS). -/
def slotWaitNote (l : Nat) (d : Dev) : Dev :=
  let ws := slotWaiters d l
  let new := ws.filter fun t => !(getSched d l).slotWait.contains t
  let d := modSched d l fun s => { s with slotWait := ws }
  when (decide (new ≠ [])) (fun d => statsUp (groupOf (chanOf l)) F.panWait_WAITS 0 new.length d) d

/-- The scheduler's choice for a free LUN (R140), or, for a suspended one, the next read of record B (R145). -/
def schedChoose (l : Nat) (d : Dev) : Dev :=
  if (getSched d l).suspended then
    if (getSched d l).chosen.isSome || (getRec d (chanOf l) (recB l)).isSome then d
    else if (getRec d (chanOf l) (recA l)).any (·.resumeOk) then d
    else match suspRead d l with
      | some (o, q) => schedTake o q false d
      | none => grantResume l d
  else if lunFree d l then
    if lunBarred d l then
      match ((List.range 5).flatMap fun q => (schedQ (getSched d l) q).map fun o => (o, q)).find? fun p => opReady d p.1 with
      | some (o, q) => schedTake o q false d
      | none => d
    else match queueFirst d l 0 with
      | some o => schedTake o 0 false d
      | none =>
        match wrrQueue d l with
        | some (q, r) => (match queueFirst d l q with | some o => schedTake o q r d | none => d)
        | none => slotWaitNote l d
  else d

/-! ### Suspend requests (R131, R144, R146, R148, R155) -/

/-- The suspend limits of an operation: feature bit, MAX_SUSP and T_MAX in µs. -/
def suspProf (d : Dev) (o : Op) : Bool × Nat × Nat :=
  if isEraseCop o.cop then (profFeat d o.lun 4, prof d o.lun 0x41 1, profTime d o.lun 0x3A)
  else (profFeat d o.lun 3, prof d o.lun 0x40 1, profTime d o.lun (if o.cop = 5 then 0x32 else 0x36))

/-- ARRAY_T of a record, µs (R129, R132). -/
def arrayT (d : Dev) (x : Rec) : Nat := min 0xFFFFF ((x.arrayAcc + (match x.arrayFrom with | some t => d.now - t | none => 0)) / 4)

/-- PROG_T of a record, µs. -/
def progT (d : Dev) (x : Rec) : Nat := min 0xFFFF ((match x.progFrom with | some t => d.now - t | none => 0) / 4)

/-- The read may ask for the routine's suspend (R144). -/
def mayAsk (d : Dev) (o : Op) (x : Rec) : Bool :=
  let (_, mx, tmax) := suspProf d x.op
  decide (o.cls = 0) || (decide (o.cls ≤ 3) && nbit (getF d F.schModecfg_SUSP_MASK (schedRow d)) (o.cls - 1) &&
    decide (x.suspCnt + 1 + ceilDiv (tmax - arrayT d x) 160 ≤ mx))

/-- SOK of a record (R131). -/
def recSok (d : Dev) (x : Rec) : Bool :=
  let (ok, mx, _) := suspProf d x.op
  x.sreq && x.committed && !recSusp x && (isProgCop x.op.cop || isEraseCop x.op.cop) && ok && decide (x.suspCnt < mx) &&
    decide (profTime d x.op.lun 0x3E ≤ progT d x)

/-- SREQ stands for the routine: one parked until SOK wakes where SOK is true (R128, R131). -/
def sreqSet (c r : Nat) (d : Dev) : Dev :=
  modRec d c r fun x =>
    let y := { x with sreq := true }
    if y.parkedAt.isSome ∧ y.wokenAt.isNone ∧ (y.wake = 2 ∨ y.wake = 3) ∧ recSok d y = true then { y with wokenAt := some d.now } else y

/-- A read asks for the program or erase on its LUN to be suspended (R144), or ends a CACHE_READ of another class (R146).
The sequencer refuses at once where no suspend is left or the die lacks it (R131, R148). -/
def askSuspend (o : Op) (d : Dev) : Dev :=
  let c := chanOf o.lun
  match getRec d c (recA o.lun) with
  | none => d
  | some x =>
    if !isReadCop o.cop then d
    else if x.op.cop = 2 && decide (x.op.cls ≠ o.cls) then sreqSet c (recA o.lun) d
    else if !(isProgCop x.op.cop || isEraseCop x.op.cop) || recSusp x || x.resumeOk || !mayAsk d o x then d
    else
      let (ok, mx, _) := suspProf d x.op
      if !ok || decide (mx ≤ x.suspCnt) then
        let d := statsUp (groupOf c) F.schSusp_REFUSED 0 1 d
        when (decide (o.cls = 0)) (statsUp (groupOf c) ⟨.schLapse, 4, 4⟩ 0 1) d
      else
        let d := sreqSet c (recA o.lun) d
        if o.cls = 0 then d
        else modSched d o.lun fun s => { s with asker := if s.asker.isNone then some o.tag else s.asker }

/-- Reads that wait on the LUN ask, oldest class first: after a program, an erase or a CACHE_READ has begun (R144, R146). -/
def askAll (l : Nat) (d : Dev) : Dev :=
  each ([0, 1, 2, 3].flatMap fun q => (schedQ (getSched d l) q).filter fun o => isReadCop o.cop) (fun d o => askSuspend o d) d

/-- A change between run modes withdraws the pending requests of classes that may no longer ask (R155). -/
def withdrawAsks (d : Dev) : Dev :=
  each (d.scheds.map (·.1)) (fun d l =>
    match (getSched d l).asker with
    | none => d
    | some t =>
      let k := (([1, 2, 3].filter fun q => (schedQ (getSched d l) q).any fun o => decide (o.tag = t))).head?.getD 0
      if (getSched d l).suspended || decide (k = 0) || nbit (getF d F.schModecfg_SUSP_MASK (schedRow d)) (k - 1) then d
      else
        let d := modSched d l fun s => { s with asker := none }
        if (getSched d l).q0.any fun o => isReadCop o.cop then d
        else modRec d (chanOf l) (recA l) fun x => { x with sreq := false }) d

/-- A mode change reaches the schedulers: asks that it withdraws, and each scheduler's next choice (R141, R155). -/
def schedMode (d : Dev) : Dev := each (d.scheds.map (·.1)) (fun d l => schedChoose l d) (withdrawAsks d)

/-- Slots that nothing holds any more are free, and the schedulers whose reads waited choose again (R160). -/
def slotsSweep (d : Dev) : Dev :=
  let keep := d.codec.slots.filter fun p => slotHeld d p.2
  if keep.length = d.codec.slots.length then d
  else
    let d := modCodec d fun x => { x with slots := keep }
    each (d.scheds.map (·.1)) (fun d l => schedChoose l d) d

end Sys2Proof.Machine
end

