-- ==== Sys2Proof/Machine/Ladder.lean ====
section
/-! DEFINITION. Machine/Ladder.lean: what the media side reports (R135, R177), the decoder pools (R176), the recovery ladder (R192 to
R198) and the end of an operation (R104, R135, R160). -/

namespace Sys2Proof.Machine

open Sys2Proof

/-! ### Reports of the media side -/

/-- A count of media common (PRM_CDC, PRM_RRC). -/
def mstat (f : FRef) (n : Nat) (d : Dev) : Dev := statsCommon f 0 n d

def getCw (d : Dev) (i : Nat) : Option Codeword := nfind d.codec.cws i
def modCw (i : Nat) (f : Codeword → Codeword) (d : Dev) : Dev :=
  modCodec d fun x => match nfind x.cws i with
    | some w => { x with cws := nput x.cws i (f w) }
    | none => x

def modMop (tag : Nat) (f : MediaOp → MediaOp) (d : Dev) : Dev :=
  modCodec d fun x => match nfind x.mops tag with
    | some m => { x with mops := nput x.mops tag (f m) }
    | none => x

/-- The operation whose read the codeword is of. -/
def cwOp (d : Dev) (w : Codeword) : Op := (nget {} d.codec.mops w.tag).op

/-- A read of the threshold sweep: no data goes up, and it climbs no ladder (R190). -/
def isSweep (o : Op) : Bool := match o.use with | .sweep _ _ _ => true | _ => false

/-- FILL, repeated over the 4,096 bytes of an ERASED sector (R179). -/
def fillData (d : Dev) : List Byte := (List.replicate 1024 (natLe 4 (getF d F.cdcFill_PATTERN))).flatten

/-- The OP_RESULT of an operation that has ended and whose codewords are all settled (R135); a read with predicted offsets that ended OK
makes the step update, but not a read-back, a sweep or a dropped read (R189, R190, R197, R204). -/
def sendResult (tag : Nat) (d : Dev) : Dev :=
  match nfind d.codec.mops tag with
  | none => d
  | some m =>
    match m.ended with
    | none => d
    | some r =>
      if m.left ≠ 0 then d
      else
        let n := if m.dead then m.total else m.arrived
        let r := { r with outcomes := (List.range n).map (fun i => nget (if m.dead then 5 else 0) m.outcomes i),
                          bits := (List.range n).map fun i => nget (0, 0) m.bits i, early := m.early, maxBits := m.maxBits }
        let d := modCodec d fun x => { x with mops := nerase x.mops tag }
        let learns := m.op.pred && decide (m.op.cop ≤ 2) && decide (r.code = 0) && !m.dead && decide (0 < m.conv) && profFeat d m.op.lun 5 &&
          (match m.op.use with | .readback _ | .sweep _ _ _ => false | _ => true)
        let d := when learns
          (fun d => let b := blkOfRow d m.op.lun m.op.row
                    learnStep m.op.lun b (pageType d m.op.lun (pgOfRow d m.op.lun m.op.row) (opSlc m.op)) m.eLo m.eHi d) d
        slotsSweep (if isInternal m.op then d else hsend (groupOf (chanOf m.op.lun)) 1 (.opResult r) d)

/-- The bytes of a codeword go up, 64 in each RDATA: the sector, then its metadata (R13); its slot is held until they are credited. -/
def rdataSend (g tag index outcome : Nat) (bs : List Byte) (d : Dev) : Dev :=
  let n := ceilDiv bs.length 64
  let d := each (List.range n) (fun d i =>
    hsend g 3 (.rdata { tag := tag, index := index, outcome := outcome, last := decide (i + 1 = n), data := slice bs (64 * i) 64 }) d) d
  let due := (getStream d g 3).given
  modCodec d fun x =>
    { x with slots := x.slots.map fun p =>
        if !p.2.prog && decide (p.2.tag = tag ∧ p.2.lo ≤ index ∧ index < p.2.hi) then (p.1, { p.2 with due := due }) else p }

/-- A codeword reaches its outcome: it leaves recovery, its sector goes up as RDATA where it has data, its slot is freed once nothing
holds it, and the OP_RESULT goes out with the last one (R135, R160, R177). Outcome 0 is recorded as 16, so that every settled codeword
is listed. `ew`: EW is reported for the sector. -/
def cwSettle (i outcome : Nat) (info : List Byte) (ew : Bool) (bits : Nat) (d : Dev) : Dev :=
  match getCw d i with
  | none => d
  | some w =>
    let o := cwOp d w
    let g := groupOf (chanOf w.lun)
    let d := modCodec d fun x => { x with cws := nerase x.cws i }
    let d := if (outcome = 0 ∨ outcome = 1) ∧ !w.verify ∧ !isInternal o ∧ !isSweep o then
        rdataSend g w.tag w.index outcome (if outcome = 1 then fillData d else info) d
      else d
    let d := modMop w.tag (fun m =>
      { m with outcomes := nput m.outcomes w.index (if outcome = 0 then 16 else outcome), left := m.left - 1,
               bits := nput m.bits w.index (bits, w.iters), early := if ew then m.early ++ [w.index] else m.early,
               maxBits := max m.maxBits bits }) d
    slotsSweep (sendResult w.tag d)

/-! ### The decoder pools (R174 to R176) -/

/-- The next codeword of a pool's queue: class 0, then verify reads, then channels in round robin, each oldest first. -/
def poolNext (d : Dev) (st : CwState) : Option Nat :=
  let q := d.codec.cws.filter fun p => decide (p.2.st = st)
  match q.find? (fun p => decide (p.2.cls = 0)) with
  | some p => some p.1
  | none =>
    match q.find? (fun p => p.2.verify) with
    | some p => some p.1
    | none => ((List.range d.build.channels).filterMap fun i =>
        q.find? fun p => decide (chanOf p.2.lun = (d.codec.rr + i) % d.build.channels)).head?.map (·.1)

/-- Codewords in a state. -/
def cwCount (d : Dev) (st : CwState) : Nat := (d.codec.cws.filter fun p => decide (p.2.st = st)).length

/-- The iteration limits (PRM_CDC_CFG): of a hard decode, with the ladder's first step, and of a soft decode. -/
def iterHard (d : Dev) : Nat := max 1 (getF d F.cdcCfg_ITER_HARD)
def iterExt (d : Dev) : Nat := max (iterHard d) (getF d F.cdcCfg_ITER_EXT)
def iterSoft (d : Dev) : Nat := max 1 (getF d F.cdcCfg_ITER_SOFT)

/-- A codeword enters a decoder, with the limits that are set now (R174, R175, Table RRC-3). -/
def decodeStart (soft : Bool) (d : Dev) (w : Codeword) : Codeword :=
  { w with st := if soft then .soft else .hard, iters := 0, ext := iterExt d,
           lim := if soft then iterSoft d else if w.step = 0 then iterHard d else iterExt d }

/-- Free decoders of a pool take what waits. -/
def poolTake (soft : Bool) : Nat → Dev → Dev
  | 0, d => d
  | n + 1, d =>
    if (if soft then d.build.soft else d.build.hard) ≤ cwCount d (if soft then .soft else .hard) then d
    else match poolNext d (if soft then .softQ else .hardQ) with
      | none => d
      | some i =>
        let c := ((getCw d i).map fun w => chanOf w.lun).getD 0
        poolTake soft n (modCodec (modCw i (decodeStart soft d) d) fun x => { x with rr := c + 1 })

def takeHard (d : Dev) : Dev := poolTake false 64 d
def takeSoft (d : Dev) : Dev := poolTake true 64 d

/-! ### The recovery ladder (R192 to R198) -/

/-- An operation that media common issues for itself goes to the front of its class's queue (R195): its tag. -/
def intPush (o : Op) (d : Dev) : Nat × Dev :=
  let t := intBase + d.codec.nextIop
  (t, schedPush { o with tag := t } true (modCodec d fun x => { x with nextIop := x.nextIop + 1 }))

/-- What was pushed for a LUN asks for its suspend, and a free LUN takes it. -/
def intChoose (o : Op) (d : Dev) : Dev := schedChoose o.lun (askSuspend o d)

/-- Page type and block of a codeword's page. -/
def cwBlk (d : Dev) (w : Codeword) : Nat := blkOfRow d w.lun w.row
def cwType (d : Dev) (w : Codeword) : Nat := pageType d w.lun (pgOfRow d w.lun w.row) w.slc

/-- A class-0 codeword needs a row or a soft pass, or is uncorrectable (Table SCH-6, DECODE). -/
def decodeLapse (w : Codeword) (d : Dev) : Dev :=
  when (decide (w.cls = 0)) (fun d => statsUp (groupOf (chanOf w.lun)) ⟨.schLapse, 2, 2⟩ 0 1 d) d

/-- A codeword is uncorrectable (R198): counted, an EVENT, a candidate of severity 4. -/
def cwUncorr (i outcome bits : Nat) (d : Dev) : Dev :=
  match getCw d i with
  | none => d
  | some w =>
    let d := decodeLapse w (mstat F.rrcOut1_UNCORR 1 d)
    let d := hsend (groupOf (chanOf w.lun)) 1 (.event (.uncorr w.lun w.row w.k)) d
    let d := postCand w.lun (cwBlk d w / profPlanes d w.lun) 4 d
    cwSettle i outcome [] false bits d

/-- Codewords whose strobes are being sensed, or that wait for a soft decoder (R196). -/
def softLoad (d : Dev) : Nat := cwCount d .softSense + cwCount d .softQ

/-- Strobe s of a codeword's soft pass (R194): 0 the base, 1 shifted down, 2 shifted up. -/
def strobeOp (d : Dev) (i : Nat) (w : Codeword) (s : Nat) : Op :=
  let pass := w.step - 100
  let cw := cwBytes d w.lun
  let n : Int := [0, -1, 1].getD s 0
  let base : Op :=
    { lun := w.lun, cls := w.cls, col := w.k * cw, row := w.row, count := cw, flags := b2n w.slc * 16, use := .ladder i (s + 1) }
  if profFeat d w.lun 6 then
    { base with cop := 3, offs := (packOffs w.bestOfs).1, offsHi := (packOffs w.bestOfs).2, arg := wrapI 32 (n * pass) }
  else
    let o := packOffs (shiftOffsets d w.lun w.slc w.bestOfs (n * pass * prof d w.lun 0x45 1))
    { base with cop := 0, offs := o.1, offsHi := o.2 }

/-- The three strobes of the codeword's soft pass are issued, and reach the die in their order (R194). -/
def softIssue (i : Nat) (d : Dev) : Dev :=
  match getCw d i with
  | none => d
  | some w =>
    let d := modCw i (fun w => { w with st := .softSense, strobes := [], soft := none, src := [] }) (decodeLapse w d)
    let d := each [2, 1, 0] (fun d s => (intPush (strobeOp d i w s) d).2) d
    intChoose (strobeOp d i w 0) d

/-- SOFT_PASS_ISSUE: with room in the soft pool, the strobes of a waiting pass are issued, class 0 first (R196). -/
def softPassDev (d : Dev) : Dev :=
  if 64 ≤ softLoad d then d
  else
    let q := d.codec.cws.filter fun p => decide (p.2.st = .softWait)
    match (q.find? fun p => decide (p.2.cls = 0)).orElse fun _ => q.head? with
    | some p => softIssue p.1 d
    | none => d

/-- The next soft pass, or the end of the ladder: with room the first of those that wait has its strobes issued; a codeword that is held
back is counted. -/
def ladderSoft (i pass : Nat) (d : Dev) : Dev :=
  match getCw d i with
  | none => d
  | some w =>
    if getF d F.rrcCfg_SOFT_PASSES < pass ∨ lunIsol d w.lun = true then cwUncorr i 2 0 d
    else
      let d := softPassDev (modCw i (fun w => { w with step := 100 + pass, st := .softWait, lop := none, src := [] }) d)
      if (getCw d i).any fun x => decide (x.st = .softWait) then mstat F.rrcWait_SOFT_HELD 1 d else d

/-- The retry rows in their order (R193): LAST_ROW first. -/
def rowOrder (d : Dev) (w : Codeword) : List Nat :=
  let n := prof d w.lun 0x1D 1
  let last := (getThr d w.lun (blkGroup d w.lun (cwBlk d w)) (cwType d w)).lastRow
  (if last < n then [last] else []) ++ (List.range n).filter fun k => decide (k ≠ last)

/-- The row read of the same plane page, row and class that is queued and not yet issued. -/
def rowQueued (d : Dev) (w : Codeword) : Option Nat :=
  let s := getSched d w.lun
  ((schedOps s ++ s.chosen.toList).find? fun o => match o.use with
    | .ladder j 0 => decide (o.row = w.row ∧ o.cls = w.cls ∧ opSlc o = w.slc) &&
        (getCw d j).any fun x => decide (x.st = .rowWait ∧ x.step = w.step ∧ x.lop = some o.tag)
    | _ => false).map (·.tag)

/-- The codeword's row read: one COP for each plane page, which the codeword joins where it is not issued yet (R193). -/
def rowIssue (i : Nat) (d : Dev) : Dev :=
  match getCw d i with
  | none => d
  | some w =>
    let ofs := rowOffsets d w.lun (w.step - 2) w.slc
    let join := fun (t : Nat) (d : Dev) => modCw i (fun x => { x with lop := some t, ofs := ofs, src := [] }) d
    let d := decodeLapse w d
    match rowQueued d w with
    | some t => join t d
    | none =>
      let cw := cwBytes d w.lun
      let s := packOffs ofs
      let o : Op := { lun := w.lun, cls := w.cls, cop := 0, col := w.k * cw, row := w.row, count := cw, flags := b2n w.slc * 16,
                      offs := s.1, offsHi := s.2, use := .ladder i 0 }
      let (t, d) := intPush o d
      intChoose { o with tag := t } (join t d)

/-- The codeword's next row, or the soft passes (R192, R193). -/
def ladderRow (i : Nat) (d : Dev) : Dev :=
  match getCw d i with
  | none => d
  | some w =>
    match if lunIsol d w.lun then none else (rowOrder d w).find? (fun r => !w.rowsTried.contains r) with
    | some r =>
      rowIssue i (modCw i (fun x => { x with step := 2 + r, rowsTried := x.rowsTried ++ [r], st := .rowWait, lop := none }) d)
    | none => ladderSoft i 1 d

/-- The recovery table has room for a codeword: 1,024 entries, 64 of them for class 0 alone (R196). -/
def tableRoom (d : Dev) (cls : Nat) : Bool :=
  let n := (d.codec.cws.filter fun p => p.2.inTable).length
  decide (n < if cls = 0 then 1024 else 960)

/-- A codeword that no decode of its first sense has settled enters recovery, or waits for an entry (R192, R196). A read-back and a
sweep read climb no ladder (R190, R204). -/
def ladderEnter (i outcome : Nat) (d : Dev) : Dev :=
  match getCw d i with
  | none => d
  | some w =>
    if w.verify ∨ isSweep (cwOp d w) then cwSettle i outcome [] false 0 d
    else if !profFeat d w.lun 5 then cwUncorr i 2 0 d
    else if tableRoom d w.cls then
      let d := modCw i (fun x => { x with inTable := true, enteredAt := d.now }) d
      let d := statsVal F.rrcOcc_PEAK 0 (d.codec.cws.filter fun p => p.2.inTable).length 2 d
      ladderRow i d
    else mstat F.rrcWait_TABLE_FULL 1 (modCw i (fun x => { x with st := .tableWait }) d)

/-- A codeword whose decode has failed goes on from its step to the next (Table RRC-3). -/
def ladderNext (i outcome : Nat) (d : Dev) : Dev :=
  match getCw d i with
  | none => d
  | some w => if 100 ≤ w.step then ladderSoft i (w.step - 99) d else if 2 ≤ w.step then ladderRow i d else ladderEnter i outcome d

/-- Note the unsatisfied checks of a failed hard decode: the soft base is the earliest sense with the fewest (R192, R194). -/
def noteChecks (i unsat : Nat) (d : Dev) : Dev :=
  modCw i (fun w =>
    if (w.bestChecks.getD (unsat + 1)) ≤ unsat then w
    else { w with bestChecks := some unsat, bestOfs := w.ofs, bestRow := if 2 ≤ w.step then some (w.step - 2) else none }) d

/-- Codewords that still wait for the bytes of a retry sense or strobe. -/
def ladderWaiters (d : Dev) (o : Op) : List Nat :=
  match o.use with
  | .ladder _ 0 => (d.codec.cws.filter fun p => decide (p.2.st = .rowWait ∧ p.2.lop = some o.tag)).map (·.1)
  | .ladder i (s + 1) => ([i].filter fun i => (getCw d i).any fun w => decide (w.st = .softSense) && (nfind w.strobes s).isNone)
  | _ => []

/-- A retry sense or strobe has ended: a codeword that it has brought nothing goes on as after a failed step. -/
def ladderEnd (o : Op) (d : Dev) : Dev := each (ladderWaiters d o) (fun d i => ladderNext i 2 d) d

/-- Retry senses and strobes were lost with their records (R136): codewords that wait for their bytes have them issued again. -/
def ladderLost (ops : List Op) (d : Dev) : Dev :=
  each ops (fun d o => each (ladderWaiters d o) (fun d i =>
    match o.use, getCw d i with
    | .ladder _ 0, some _ => rowIssue i (modCw i (fun x => { x with lop := none }) d)
    | .ladder _ (s + 1), some w => intChoose (strobeOp d i w s) (intPush (strobeOp d i w s) d).2
    | _, _ => d) d) d

/-- Codewords of a group's LUNs are DROPPED, and its reads with them (R92, R156, Table CDC-5): what they bring from here on is discarded. -/
def cwsDrop (sel : Nat → Bool) (d : Dev) : Dev :=
  let d := modCodec d fun x =>
    { x with mops := x.mops.map fun p => if isReadCop p.2.op.cop ∧ sel p.2.op.lun = true then (p.1, { p.2 with dead := true }) else p }
  each ((d.codec.cws.filter fun p => sel p.2.lun).map (·.1)) (fun d i => cwSettle i 5 [] false 0 d) d

/-! ### The end of an operation -/

/-- A routine, or an operation refused at entry, ends with a code of Table SEQ-8. -/
def opEnd (o : Op) (code : Nat) (v10 vr : Word) (arr susp : Nat) (d : Dev) : Dev :=
  let r : OpResult := { tag := o.tag, lun := o.lun, code := code, v10 := v10, vr := vr, arrayT := arr, suspCnt := susp, cls := o.cls }
  let d := modCodec d fun x => { x with mops := nput x.mops o.tag { (nget { op := o } x.mops o.tag) with ended := some r } }
  let d := when (decide (o.cop = 13 ∨ o.cop = 18) || (decide (o.cop = 12) && decide (code ≠ 0))) (forgetOfs o.lun) d
  let d := when (decide (code = 4)) (statsUp (groupOf (chanOf o.lun)) F.schSusp_DEFERRED 0 1) d
  let d := if code = 2 && o.cop = 13 then hsend (groupOf (chanOf o.lun)) 1 (.event (.lunTimeout o.lun)) d
    else if code = 2 && o.cop ≠ 18 then (intPush { lun := o.lun, cls := 0, cop := 13, use := .chan } d).2
    else d
  sendResult o.tag (ladderEnd o (progFree o d))

end Sys2Proof.Machine
end

