-- ==== Sys2Proof/Machine/Cop.lean ====
section
/-! DEFINITION. Machine/Cop.lean: the start of a channel operation (R123, R133, R134, R142) and OP_REQ (R139). -/

namespace Sys2Proof.Machine

open Sys2Proof

/-! ### The start of a channel operation (R123, R133, R134, R142) -/

/-- The FEATURES bits that a COP needs are set, and SUSPEND and RESUME are for FACTORY alone (Table SEQ-7). -/
def copSupported (d : Dev) (o : Op) : Bool :=
  let f := profFeat d o.lun
  let pln := decide (o.flags % 8 ≤ 1) || f 2
  match o.cop with
  | 0 => (!nbit o.flags 4 || f 0) && (!nbit o.flags 3 || f 5)
  | 1 => f 2
  | 2 => f 1
  | 3 => f 6
  | 4 => pln
  | 5 => f 0
  | 6 => f 7
  | 7 => pln
  | 8 | 9 => decide (d.mode.mode = .factory)
  | 16 => f 9
  | _ => true

/-- A mapped ROM address runs from the paired patch-RAM address (R120). -/
def patchTarget (h : Chan) (pc : Nat) : Nat :=
  match (h.patchMap.map fun p => (p.1, 0x1000 + p.2)).find? (fun p => decide (p.1 = pc)) with
  | some p => p.2
  | none => pc

/-- Class-0 work is queued on the channel, or chosen and not started (R146). -/
def c0Queued (d : Dev) (c : Nat) : Bool :=
  (rangeFrom (32 * c) 32).any fun l => !(getSched d l).q0.isEmpty || (getSched d l).chosen.any fun o => decide (o.cls = 0)

/-- The chosen operation of LUN l can start: a TRAIN not while class-0 work is queued (R146), a read once its slots are there. -/
def copReady (d : Dev) (l : Nat) : Option Op :=
  match (getSched d l).chosen with
  | some o => if (!decide (o.cop = 17) || !c0Queued d (chanOf l)) && slotsReady d o then some o else none
  | none => none

/-- The oldest class-0 operation among those of a list, by its OP_REQ. -/
def oldestC0 (l : List (Nat × Op)) : Option (Nat × Op) :=
  (l.filter fun p => decide (p.2.cls = 0)).foldl (fun (b : Option (Nat × Op)) p =>
    match b with
    | none => some p
    | some x => if p.2.tag < x.2.tag then some p else b) none

/-- New class-0 operations of the channel that can start, by LUN. -/
def c0New (d : Dev) (c : Nat) : List (Nat × Op) :=
  (rangeFrom (32 * c) 32).filterMap fun l => (copReady d l).map fun o => (l, o)

/-- The LUN, among those of the channel, whose chosen operation starts next: the oldest class-0 operation, then round robin from the
position after the last one (R142). -/
def nextCop (d : Dev) (c : Nat) : Option Nat :=
  match oldestC0 (c0New d c) with
  | some p => some p.1
  | none =>
    let order := (rangeFrom 0 32).map fun i => 32 * c + ((getChan d c).rr + i) % 32
    order.find? fun l => (copReady d l).isSome

/-- Parked routines of the channel whose wake condition holds. -/
def woken (d : Dev) (c : Nat) : List (Nat × Rec) := (getChan d c).recs.filter fun r => r.2.wokenAt.isSome

def anyWoken (d : Dev) (c : Nat) : Bool := !(woken d c).isEmpty

/-- The sequencer's next candidate among runnable routines (R142): the oldest class-0 one, else the earliest wake. DEDUCED (log 100): a
new class-0 COP is a runnable class-0 routine too, so that class 0 waits for one plane transfer at most; none where it comes first. -/
def pickWoken (d : Dev) (c : Nat) : Option (Nat × Rec) :=
  let ws := woken d c
  let first := ws.foldl (fun (b : Option (Nat × Rec)) r =>
    match b with
    | none => some r
    | some x => if r.2.wokenAt.getD 0 < x.2.wokenAt.getD 0 then some r else b) none
  match oldestC0 (ws.map fun r => (r.1, r.2.op)), oldestC0 (c0New d c) with
  | some w, some n => if w.2.tag < n.2.tag then ws.find? (fun r => decide (r.1 = w.1)) else none
  | some w, none => ws.find? fun r => decide (r.1 = w.1)
  | none, some _ => none
  | none, none => first

/-- The offsets and flags with which a read starts (R185, R186): OFS where they differ, on a level that
the read writes, from those last written. -/
def readEntry (o : Op) (d : Dev) : Op × Dev :=
  if !isReadCop o.cop || !profFeat d o.lun 5 then (o, d)
  else
    let ofs : List Int := if o.pred then predict d o.lun (blkOfRow d o.lun o.row) (opSlc o)
      else (List.range 7).map fun j => sext 8 ((if j < 4 then o.offs else o.offsHi) / 2 ^ (8 * (if j < 4 then j else j - 4)))
    let old := nget [] d.rrc.lastOfs o.lun
    let lv := writtenLevels (profCell d o.lun) (opSlc o)
    if lv.all fun i => old.getD (i - 1) none == some (ofs.getD (i - 1) 0) then (o, d)
    else
      let (a, b) := packOffs ofs
      let now := (List.range 7).map fun j => if lv.contains (j + 1) then some (ofs.getD j 0) else old.getD j none
      ({ o with flags := nput_bits o.flags 3 3 1, offs := a, offsHi := b },
       modRrc d fun r => { r with lastOfs := nset [] r.lastOfs o.lun now })

/-- A retry sense as it is issued: it carries every codeword of its plane page that stands at its step now, and moves the bytes from
the first of them to the end of the last (R193). -/
def ladderEntry (o : Op) (d : Dev) : Op :=
  match o.use with
  | .ladder _ 0 =>
    let ks := (d.codec.cws.filter fun p => decide (p.2.st = .rowWait ∧ p.2.lop = some o.tag)).map (·.2.k)
    match ks with
    | [] => o
    | k :: _ =>
      let lo := ks.foldl min k
      let cw := cwBytes d o.lun
      { o with col := lo * cw, count := (ks.foldl max k + 1 - lo) * cw }
  | _ => o

/-- A read takes its slots, and its record on the media side is opened; answers it with the pantry address of its data. -/
def mopOpen (o : Op) (d : Dev) : Op × Dev :=
  let (o, d) := match if isReadCop o.cop then readRun d o else none with
    | some i => ({ o with addr := slotAddr d i }, slotsTake o i d)
    | none => (o, d)
  (o, modCodec d fun x => { x with mops := nput x.mops o.tag { op := o, total := if isReadCop o.cop then readCws d o else 0 } })

/-- Entry registers (Table SEQ-3). -/
def entryRegs (o : Op) : NMap Word :=
  ([o.col, o.row, o.addr, o.count, o.lun % 32, o.flags % 32, o.offs, o.offsHi % 2 ^ 24, o.arg].zipIdx).foldl
    (fun m p => nset 0#32 m p.2 (BitVec.ofNat 32 p.1)) []

/-- COP o starts on its LUN: refused at entry, or its routine runs from its entry address. -/
def copStart (o : Op) (d : Dev) : Dev :=
  let c := chanOf o.lun
  let d := modSched d o.lun fun s => { s with chosen := none }
  let a := getRec d c (recA o.lun)
  let susp := a.any recSusp
  let d := modChan d c fun h => { h with rr := (o.lun + 1) % 32 }
  if !copSupported d o then schedChoose o.lun (opEnd o 5 0 0 0 0 d)
  else if susp && !isReadCop o.cop && !isResetCop o.cop then opEnd o 7 0 0 0 0 d
  else
    let o := if isResetCop o.cop then { o with row := rowAddr d o.lun 0 0 } else o
    let (o, d) := readEntry (ladderEntry o d) d
    let (o, d) := mopOpen o d
    let r := if susp then recB o.lun else recA o.lun
    let d := modChan d c fun h =>
      { h with recs := nput h.recs r { op := o, v := entryRegs o, pc := patchTarget h (128 * o.cop), sel := o.lun % 32 },
               running := some r, curLun := o.lun % 32, pc := patchTarget h (128 * o.cop) }
    when (isProgCop o.cop || isEraseCop o.cop || decide (o.cop = 2)) (askAll o.lun) d

/-- A COP row's step: the chosen operation of LUN l is of that COP and the sequencer takes it next (R142). -/
def copDev (cop c l : Nat) (d : Dev) : Dev :=
  match (getSched d l).chosen with
  | none => d
  | some o =>
    if o.cop = cop && decide (chanOf l = c) && (getChan d c).running.isNone && !calHolds d c && (pickWoken d c).isNone && (getChan d c).up &&
        linkUp d (groupOf c) && decide (nextCop d c = some l)
    then copStart o d else d

/-- READ_PAGE (R134). -/
def execCopReadPage (ch lun : Nat) (st : State) : Host.Outcome State Fault Refusal := onDev (copDev 0 ch lun) st
/-- READ_MULTI (R134). -/
def execCopReadMulti (ch lun : Nat) (st : State) : Host.Outcome State Fault Refusal := onDev (copDev 1 ch lun) st
/-- CACHE_READ (R134). -/
def execCopCacheRead (ch lun : Nat) (st : State) : Host.Outcome State Fault Refusal := onDev (copDev 2 ch lun) st
/-- SOFT_READ (R134). -/
def execCopSoftRead (ch lun : Nat) (st : State) : Host.Outcome State Fault Refusal := onDev (copDev 3 ch lun) st
/-- PROGRAM (R134). -/
def execCopProgram (ch lun : Nat) (st : State) : Host.Outcome State Fault Refusal := onDev (copDev 4 ch lun) st
/-- PROGRAM_SLC (R134). -/
def execCopProgramSlc (ch lun : Nat) (st : State) : Host.Outcome State Fault Refusal := onDev (copDev 5 ch lun) st
/-- PROGRAM_STEP (R134, R205). -/
def execCopProgramStep (ch lun : Nat) (st : State) : Host.Outcome State Fault Refusal := onDev (copDev 6 ch lun) st
/-- ERASE (R134, R210). -/
def execCopErase (ch lun : Nat) (st : State) : Host.Outcome State Fault Refusal := onDev (copDev 7 ch lun) st
/-- SUSPEND (R134). -/
def execCopSuspend (ch lun : Nat) (st : State) : Host.Outcome State Fault Refusal := onDev (copDev 8 ch lun) st
/-- RESUME (R134). -/
def execCopResume (ch lun : Nat) (st : State) : Host.Outcome State Fault Refusal := onDev (copDev 9 ch lun) st
/-- READ_STATUS (R134). -/
def execCopReadStatus (ch lun : Nat) (st : State) : Host.Outcome State Fault Refusal := onDev (copDev 10 ch lun) st
/-- GET_FEAT (R134). -/
def execCopGetFeat (ch lun : Nat) (st : State) : Host.Outcome State Fault Refusal := onDev (copDev 11 ch lun) st
/-- SET_FEAT (R134). -/
def execCopSetFeat (ch lun : Nat) (st : State) : Host.Outcome State Fault Refusal := onDev (copDev 12 ch lun) st
/-- RESET_LUN (R134, R104). -/
def execCopResetLun (ch lun : Nat) (st : State) : Host.Outcome State Fault Refusal := onDev (copDev 13 ch lun) st
/-- READ_ID (R134). -/
def execCopReadId (ch lun : Nat) (st : State) : Host.Outcome State Fault Refusal := onDev (copDev 14 ch lun) st
/-- READ_PARAM (R134). -/
def execCopReadParam (ch lun : Nat) (st : State) : Host.Outcome State Fault Refusal := onDev (copDev 15 ch lun) st
/-- ZQ_CAL (R134). -/
def execCopZqCal (ch lun : Nat) (st : State) : Host.Outcome State Fault Refusal := onDev (copDev 16 ch lun) st
/-- TRAIN (R134, R384). -/
def execCopTrain (ch lun : Nat) (st : State) : Host.Outcome State Fault Refusal := onDev (copDev 17 ch lun) st
/-- RECOVER (R134, R136). -/
def execCopRecover (ch lun : Nat) (st : State) : Host.Outcome State Fault Refusal := onDev (copDev 18 ch lun) st

/-! ### OP_REQ (R139) -/

/-- The command, or the unit of commands' data, that a class-0 operation belongs to: commands by arrival, units from 2^40 on. -/
def opOwner (o : Op) : Option Nat :=
  match o.use with
  | .cmd a _ => some a
  | .prog u => some (2 ^ 40 + u)
  | _ => none

/-- A lapse cause that the media side meets (Table SCH-6). -/
def lapseUp (l bit : Nat) (d : Dev) : Dev := statsUp (groupOf (chanOf l)) ⟨.schLapse, bit, bit⟩ 0 1 d

/-- A class-0 read would touch a LUN whose profile fails R147's test, or a channel below 3,200 MT/s (Table SCH-6, PROFILE). -/
def profLapse (d : Dev) (l : Nat) : Bool :=
  !nbit (getF d F.schProfok_C0_OK) (profIdx d l) || decide ((getChan d (chanOf l)).rate < 3200)

/-- The lapses of a class-0 operation that reaches its LUN: whether DEMAND holds, and the causes set (Table SCH-6). -/
def c0Lapses (o : Op) (d : Dev) : Bool × Dev :=
  if o.cls ≠ 0 then (false, d)
  else
    let d := when (lunIndet d o.lun || lunIsol d o.lun) (lapseUp o.lun 6) d
    let d := when (isReadCop o.cop && profLapse d o.lun) (lapseUp o.lun 3) d
    match opOwner o with
    | none => (false, d)
    | some b =>
      let demand := match (getSched d o.lun).lastC0 with
        | some (t, a) => decide (a ≠ b) && decide (d.now < t + us 400)
        | none => false
      (demand, when demand (lapseUp o.lun 1) (modSched d o.lun fun s => { s with lastC0 := some (d.now, b) }))

/-- An operation reaches its LUN's scheduler: the lapses of class 0 (Table SCH-6), its queue, its request to suspend, and the choice of
a free LUN. HOLDUP and an isolated LUN let it end without having begun (R156, R297). -/
def opArrive (o : Op) (d : Dev) : Dev :=
  let (demand, d) := c0Lapses o d
  if (d.mode.mode = .holdup ∧ !hupUse d o.use) ∨ (lunIsol d o.lun ∧ d.mode.mode ≠ .sanitize) then opEnd o 3 0 0 0 0 d
  else
    let o := if demand && isSet d F.schC0cfg_DEMOTE && isReadCop o.cop then { o with cls := 1 } else o
    let d := schedPush o false d
    schedChoose o.lun (askSuspend o d)

/-- OP_REQ (R139). -/
def execOpReq (g seq : Nat) (crc : BitVec 16) (st : State) : Host.Outcome State Fault Refusal :=
  onDev (deliver g 0 seq crc (fun b => match b with | .opReq _ => true | _ => false)
    (fun b d => match b with | .opReq o => opArrive o d | _ => d)) st

end Sys2Proof.Machine
end

