-- ==== Sys2Proof/Machine/Ldpc.lean ====
section
/-! DEFINITION. Machine/Ldpc.lean: the codeword (R162 to R171), plane pages and their slack (R164). -/

namespace Sys2Proof.Machine

open Sys2Proof

/-! ### The codeword (Table CDC-2, R166 to R171) -/

/-- Metadata bytes 0x00 to 0x1B of a sector with DCRC of its user bytes. -/
def metaHead (m : Meta) (data : List Byte) : List Byte :=
  natLe 6 m.lba ++ natLe 1 (m.ns % 16 + 16 * (m.kind % 16)) ++ natLe 1 m.flags ++ natLe 8 m.wseq ++ natLe 4 m.epoch ++
    natLe 3 m.node ++ natLe 1 1 ++ natLe 4 (crc32c data).toNat

/-- The 4,128 bytes of a sector before randomising. -/
def infoBytes (m : Meta) (data : List Byte) : List Byte :=
  let h := metaHead m data
  data ++ h ++ natLe 4 (crc32c h).toNat

/-- The metadata that 4,128 information bytes carry. -/
def infoMeta (i : List Byte) : Meta :=
  { lba := leAt i 4096 6, ns := leAt i 4102 1 % 16, kind := leAt i 4102 1 / 16, flags := leAt i 4103 1, wseq := leAt i 4104 8,
    epoch := leAt i 4112 4, node := leAt i 4116 3 }

/-- MCRC and DCRC of derandomised information bytes are good (R177 step 4). -/
def infoOk (i : List Byte) : Bool :=
  decide (leAt i 4124 4 = (crc32c (slice i 4096 28)).toNat) && decide (leAt i 4120 4 = (crc32c (slice i 0 4096)).toNat)

/-- The initial state of the stream of codeword k, or of the slack (k = 4) (R167). -/
def streamState (seed row k : Nat) : BitVec 32 :=
  let s := BitVec.ofNat 32 seed ^^^ BitVec.ofNat 32 row ^^^ BitVec.ofNat 32 (k * 0x01010101)
  if s = 0 then 0xFFFFFFFF#32 else s

/-- Row block and shift of entry t of information column block j (R170). -/
def ldpcEntry (mb w j t : Nat) : Nat × Nat :=
  let r := (j + t * (mb / w)) % mb
  (r, ([1, 37, 101, 151].getD t 0 * j + [0, 64, 128, 192].getD t 0 + 7 * r) % 256)

/-- The 256-bit vector of 32 bytes. -/
def block256 (bs : List Byte) : BitVec 256 := BitVec.ofNat 256 (leNat bs)

/-- Parity column blocks for information column blocks u (R171). -/
def ldpcParity (mb w : Nat) (u : List (BitVec 256)) : List (BitVec 256) :=
  let s := fun r => (u.zipIdx).foldl (fun (a : BitVec 256) p =>
    (List.range w).foldl (fun a t =>
      let e := ldpcEntry mb w p.2 t
      if e.1 = r then a ^^^ p.1.rotateRight e.2 else a) a) 0#256
  ((List.range mb).foldl (fun (acc : List (BitVec 256) × BitVec 256) r =>
    let p := s r ^^^ acc.2
    (acc.1 ++ [p], p)) ([], 0#256)).1

/-- Check rows and column weight of a PARITY code (Table CDC-3). -/
def ldpcShape (p : Nat) : Nat × Nat := [(8, 3), (12, 4), (14, 4), (16, 4), (20, 4)].getD p (8, 3)

/-- The codeword of 4,128 randomised information bytes: they, then the parity that satisfies every check (R171). -/
def ldpcWord (parity : Nat) (x : List Byte) : List Byte :=
  let u := (List.range 129).map fun j => block256 (slice x (32 * j) 32)
  x ++ (ldpcParity (ldpcShape parity).1 (ldpcShape parity).2 u).flatMap fun b => natLe 32 b.toNat

/-- An encoded codeword (R162, R168, R171): randomised information bytes, then parity. -/
def codewordBytes (parity seed row k : Nat) (info : List Byte) : List Byte := ldpcWord parity (randomise info (streamState seed row k))

/-- The slack of a plane page: stream k = 4 over zero bytes (R164, R167). -/
def slackBytes (d : Dev) (l row : Nat) : List Byte :=
  randomise (zeros (prof d l 0x10 2 - 4 * cwBytes d l)) (streamState (profSeed d l) row 4)

/-- The four codewords of a plane page, as they stand in its slot (R164). -/
def planePage (d : Dev) (l row : Nat) (infos : List (List Byte)) : List Byte :=
  (infos.zipIdx).flatMap fun p => codewordBytes (profParity d l) (profSeed d l) row p.2 p.1

/-- The bytes that a DOUT of n bytes from pantry address a puts on the bus: of a program the plane page, and the slack of its page after
it (R164). -/
def outBytes (d : Dev) (o : Op) (a n : Nat) : List Byte :=
  match d.codec.slots.find? (fun p => p.2.prog && decide (p.2.addr = a)) with
  | some p => p.2.data.take n ++ slackBytes d o.lun (o.row + (a - o.addr) / max 1 o.count * 2 ^ profPageShift d o.lun)
  | none => (nget [] d.codec.bufs a).take n

end Sys2Proof.Machine
end

