-- ==== Sys2Proof/Machine/Rom.lean ====
section
/-! DEFINITION. Machine/Rom.lean: the microword encodings (Table SEQ-4) and the ROM routines of the COPs (Table SEQ-7). The words of PROGRAM
are those of Table SEQ-9. The manual prints no other routine: the others are the model's, DESIGN CHOICE (log 11), written from
Table SEQ-7, R104, R113, R131, R132, R136 and the pattern of Table SEQ-9; their addresses and PHASE codes are the model's. -/

namespace Sys2Proof.Machine

open Sys2Proof

/-! ### Microwords (Table SEQ-4) -/

/-- CMD of a slot, and of an opcode of its own. -/
def cmdW (slot : Nat) : Nat := 0x08000000 + slot * 0x200000
def cmdI (opc : Nat) : Nat := 0x0C000000 + opc
/-- ADR of register va in FORM f, and of an immediate byte. -/
def adrW (f va : Nat) : Nat := 0x10000000 + f * 0x1000000 + va * 0x100000
def adrI (b : Nat) : Nat := 0x14000000 + b
/-- DOUT and DIN of a pantry transfer, and of nb + 1 bytes of a register. -/
def doutW (va vl : Nat) : Nat := 0x18000000 + va * 0x100000 + vl * 0x10000
def doutR (nb va : Nat) : Nat := 0x1C000000 + nb * 0x1000000 + va * 0x100000
def dinW (va vl : Nat) : Nat := 0x20000000 + va * 0x100000 + vl * 0x10000
def dinR (nb va : Nat) : Nat := 0x24000000 + nb * 0x1000000 + va * 0x100000
/-- WAIT for condition k, inverted where neg is 1; POLL with the row in va. -/
def waitW (k neg : Nat) : Nat := 0x28000000 + k * 0x400000 + neg * 0x200000
def pollW (va : Nat) : Nat := 0x30000000 + va * 0x100000
/-- BR and BRC. -/
def brW (t : Nat) : Nat := 0x38000000 + t
def brcW (k neg t : Nat) : Nat := 0x40000000 + k * 0x400000 + neg * 0x200000 + t
/-- LDI into the low half, and into the high half; LDP of two bytes, and of one. -/
def ldiW (vd v : Nat) : Nat := 0x48000000 + vd * 0x800000 + v
def ldiH (vd v : Nat) : Nat := 0x48400000 + vd * 0x800000 + v
def ldpW (vd o : Nat) : Nat := 0x50000000 + vd * 0x800000 + o
def ldpB (vd o : Nat) : Nat := 0x50000100 + vd * 0x800000 + o
/-- ADD of registers, and of a 12-bit immediate; AND of an immediate; SHL to the left. -/
def addR (vd va vb : Nat) : Nat := 0x58000000 + vd * 0x800000 + va * 0x80000 + vb * 0x4000
def addI (vd va v : Nat) : Nat := 0x58040000 + vd * 0x800000 + va * 0x80000 + v
def andI (vd va v : Nat) : Nat := 0x60040000 + vd * 0x800000 + va * 0x80000 + v
def shlI (vd va n : Nat) : Nat := 0x68000000 + vd * 0x800000 + va * 0x80000 + n
def shlR (vd va vb : Nat) : Nat := 0x68020000 + vd * 0x800000 + va * 0x80000 + vb * 0x2000
/-- SETF, SEL, EVT, YIELD, COMMIT, END and PHY. -/
def setfW (set clr : Nat) : Nat := 0x70000000 + set * 0x10000 + clr * 0x100
def selW (va : Nat) : Nat := 0x78000000 + va * 0x100000
def evtW (va code : Nat) : Nat := 0x80000000 + va * 0x100000 + code
def yieldW (wake vt phase : Nat) : Nat := 0x88000000 + wake * 0x1000000 + vt * 0x100000 + phase
def commitW (phase : Nat) : Nat := 0x90000000 + phase
def endW (vr code : Nat) : Nat := 0x98000000 + vr * 0x100000 + code
def phyW (va proc : Nat) : Nat := 0xA0000000 + va * 0x100000 + proc

/-! ### Pieces of routines, from address b -/

/-- The target, and the busy limit of a read: TR_MAX, or TR_SLC_MAX in SLC mode. -/
def romRead (b : Nat) : List Nat := [selW 4, ldpW 9 0x2E, andI 12 5 16, brcW 0 0 (b + 5), ldpW 9 0x2A]

/-- Where OFS is set, the offsets of levels 1 to 4 and, in a native read of more than two bits a cell, of levels 5 to 7 (R113); y stands in
the wait for ready. -/
def romOffsets (b : Nat) (y : List Nat) : List Nat :=
  let n := y.length
  [andI 12 5 8, brcW 0 0 (b + 22 + 2 * n), andI 13 4 1, ldpB 12 0x44, cmdW 15, adrW 3 13, adrW 3 12, doutR 3 6] ++ y ++
  [pollW 1, brcW 3 1 (b + 8), andI 10 5 16, brcW 0 1 (b + 22 + 2 * n), ldpB 10 0x13, addI 10 10 0xFFD, brcW 2 0 (b + 22 + 2 * n),
   addI 12 12 1, cmdW 15, adrW 3 13, adrW 3 12, doutR 3 7] ++ y ++ [pollW 1, brcW 3 1 (b + 20 + n)]

/-- V13 the bytes of an encoded codeword by PARITY, V15 their negative. -/
def romSize (b : Nat) : List Nat :=
  [ldpB 12 0x1C, ldiW 13 4384, ldiW 15 61152, andI 12 12 15, brcW 0 0 (b + 19), ldiW 13 4512, ldiW 15 61024, addI 12 12 0xFFF,
   brcW 0 0 (b + 19), ldiW 13 4576, ldiW 15 60960, addI 12 12 0xFFF, brcW 0 0 (b + 19), ldiW 13 4640, ldiW 15 60896, addI 12 12 0xFFF,
   brcW 0 0 (b + 19), ldiW 13 4768, ldiW 15 60768, ldiH 15 0xFFFF]

/-- The SLC-mode prefix, in an SLC-mode read. -/
def romSlc (b : Nat) : List Nat := [andI 12 5 16, brcW 0 0 (b + 3), cmdW 24]

/-- COMMIT of a read and its array wait: TR_TYP or TR_SLC_TYP first, then R/B_n, until ready or the busy timeout, at t. -/
def romArray (b t : Nat) : List Nat :=
  [commitW 2, evtW 4 1, ldpW 14 0x2C, andI 12 5 16, brcW 0 0 (b + 6), ldpW 14 0x28, yieldW 3 14 3, pollW 1, brcW 3 0 (b + 12), brcW 13 0 t,
   yieldW 2 0 4, brW (b + 7)]

/-- One codeword from column V0 of row V1 to V2. -/
def romMove : List Nat := [cmdI 0x06, adrW 2 0, cmdI 0xE0, dinW 2 13, waitW 9 0]

/-- The planes of a program are loaded, each after its prefix, and confirmed; at t a read that asks before COMMIT is given way. -/
def romLoad (b t pre most typ : Nat) : List Nat :=
  [selW 4, ldpW 9 most, ldpB 12 0x1A, ldiW 13 1, shlR 13 13 12, andI 14 5 7, cmdW pre, cmdW 5, adrW 2 0, doutW 2 3, waitW 9 0,
   addI 14 14 0xFFF, brcW 0 0 (b + 21), cmdW 7, pollW 1, brcW 3 1 (b + 14), addR 1 1 13, addR 2 2 3, yieldW 0 0 1, brcW 10 0 t, brW (b + 6)] ++
  [cmdW 6, commitW 2, evtW 4 1, ldpW 15 typ, yieldW 3 15 3]

/-- The wait of a program or erase with its suspends (Table SEQ-9, 0x0219 to 0x022C): TIMEOUT, PROTECT at t, or ready. -/
def romBusy (b t : Nat) : List Nat :=
  [pollW 1, brcW 3 0 (b + 19), brcW 11 0 (b + 6), brcW 13 0 (b + 18), yieldW 2 0 4, brW b, cmdW 22, evtW 4 2, yieldW 2 0 5, pollW 1,
   brcW 3 1 (b + 8), setfW 0x80 0, evtW 4 3, yieldW 4 0 6, cmdW 23, setfW 0 0x80, evtW 4 4, brW (b + 4), endW 11 2, brcW 7 0 t]

/-- RESET_LUN clears the partial plane load, and the routine ends DEFERRED. -/
def romDefer (b : Nat) : List Nat := [cmdW 12, yieldW 2 0 7, pollW 1, brcW 3 1 (b + 1), endW 11 4]

/-- The wait for ready within V9: OK or TIMEOUT. -/
def romReady (b : Nat) : List Nat :=
  [yieldW 2 0 1, pollW 1, brcW 3 0 (b + 5), brcW 13 0 (b + 6), brW b, endW 11 0, endW 11 2]

/-- The wait of a feature operation for ready. -/
def romFeature (b : Nat) : List Nat := [yieldW 2 0 1, pollW 1, brcW 3 1 b]

/-! ### The routines (Table SEQ-7) -/

/-- READ_PAGE: COMMIT at the read confirm; YIELDs after offsets, in the array wait and between codewords; V11 bytes moved. -/
def readPageRoutine : List Nat :=
  romRead 0x000 ++ romOffsets 0x005 [yieldW 2 0 1] ++ romSize 0x01D ++ romSlc 0x031 ++ [cmdW 0, adrW 2 0, cmdW 1] ++ romArray 0x037 0x050 ++
  romMove ++ [addR 11 11 13, addR 2 2 13, addR 0 0 13, addR 3 3 15, brcW 0 0 0x04F, yieldW 0 0 5, brW 0x043, endW 11 0, endW 11 2]

/-- READ_MULTI: COMMIT at the last read confirm; YIELDs between plane cycles, in the array wait and between codewords; V11 bytes moved. A
column that reaches the end of the fourth codeword starts again at the first (R204). -/
def readMultiRoutine : List Nat :=
  romRead 0x080 ++ romOffsets 0x085 [] ++ romSize 0x09B ++
  [shlI 7 15 2, addI 8 1 0, andI 14 5 7, ldpB 12 0x1A, ldiW 6 1, shlR 6 6 12] ++ romSlc 0x0B5 ++
  [cmdW 0, adrW 2 0, addI 14 14 0xFFF, brcW 0 0 0x0C2, cmdW 2, pollW 1, brcW 3 1 0x0BD, addR 1 1 6, yieldW 0 0 1, brW 0x0B5, cmdW 1] ++
  romArray 0x0C3 0x0E7 ++ [addI 1 8 0, andI 14 5 7, addI 8 3 0] ++ romMove ++
  [addR 11 11 13, addR 2 2 13, addR 0 0 13, addR 12 0 7, brcW 0 1 0x0DD, ldiW 0 0, addR 8 8 15, brcW 0 0 0x0E1, yieldW 0 0 5, brW 0x0D2,
   addI 14 14 0xFFF, brcW 0 0 0x0E6, addR 1 1 6, yieldW 0 0 5, brW 0x0D1, endW 11 0, endW 11 2]

/-- CACHE_READ: COMMIT at the first read confirm; YIELDs in the array wait and between pages and codewords; a request to suspend ends it at
the page boundary (R146); V11 pages completed. V9 grows by TR_MAX with each page. -/
def cacheReadRoutine : List Nat :=
  romRead 0x100 ++ romOffsets 0x105 [] ++ romSize 0x11B ++ romSlc 0x12F ++ [cmdW 0, adrW 2 0, cmdW 1] ++ romArray 0x135 0x163 ++
  [addI 8 8 0xFFF, brcW 0 0 0x146, brcW 10 0 0x146, cmdW 3, brW 0x148, cmdW 4, ldiW 8 0, ldiW 14 4, pollW 1, brcW 3 0 0x14E,
   brcW 13 0 0x163, yieldW 2 0 4, brW 0x149] ++ romMove ++
  [addR 2 2 13, addR 0 0 13, addI 14 14 0xFFF, brcW 0 0 0x159, yieldW 0 0 5, brW 0x14E, addI 11 11 1, addI 8 8 0, brcW 0 0 0x162, ldiW 0 0,
   addI 1 1 1, ldpW 12 0x2E, addR 9 9 12, yieldW 0 0 6, brW 0x141, endW 11 0, endW 11 2]

/-- SOFT_READ: as READ_PAGE, after the soft-read prefix with the low byte of V8 as its address. -/
def softReadRoutine : List Nat :=
  romRead 0x180 ++ romOffsets 0x185 [] ++ romSize 0x19B ++ romSlc 0x1AF ++ [cmdW 25, adrW 3 8, cmdW 0, adrW 2 0, cmdW 1] ++
  romArray 0x1B7 0x1D0 ++ romMove ++
  [addR 11 11 13, addR 2 2 13, addR 0 0 13, addR 3 3 15, brcW 0 0 0x1CF, yieldW 0 0 5, brW 0x1C3, endW 11 0, endW 11 2]

/-- The ROM routine for PROGRAM from 0x0200 (Table SEQ-9). -/
def programRoutine : List Nat :=
  [0x78400000, 0x54800036, 0x5600011A, 0x4E800001, 0x6EEB8000, 0x672C0007, 0x08A00000, 0x12000000, 0x18230000, 0x2A400000] ++
  [0x5F740FFF, 0x40000214, 0x08E00000, 0x30100000, 0x40E0020D, 0x588B4000, 0x5910C000, 0x88000001, 0x42800231, 0x38000206] ++
  [0x08C00000, 0x90000002, 0x80400001, 0x57800034, 0x8BF00003, 0x30100000, 0x40C0022C, 0x42C0021F, 0x4340022B, 0x8A000004] ++
  [0x38000219, 0x0AC00000, 0x80400002, 0x8A000005, 0x30100000, 0x40E00221, 0x70800000, 0x80400003, 0x8C000006, 0x0AE00000] ++
  [0x70008000, 0x80400004, 0x3800021D, 0x98B00002, 0x41C00230, 0x4140022F, 0x98B00000, 0x98B00001, 0x98B00009, 0x09800000] ++
  [0x8A000007, 0x30100000, 0x40E00232, 0x98B00004]

/-- PROGRAM_SLC: as PROGRAM, each plane after the SLC-mode prefix. -/
def programSlcRoutine : List Nat :=
  romLoad 0x280 0x2B2 24 0x32 0x30 ++ romBusy 0x29A 0x2B1 ++ [brcW 5 0 0x2B0, endW 11 0, endW 11 1, endW 11 9] ++ romDefer 0x2B2

/-- PROGRAM_STEP: pulses until the die reports pass or V8 are applied; COMMIT at the first confirm; YIELDs as PROGRAM and between pulses;
V11 pulses applied. -/
def programStepRoutine : List Nat :=
  romLoad 0x300 0x339 26 0x36 0x34 ++ romBusy 0x31A 0x338 ++
  [addI 11 11 1, brcW 5 1 0x336, addI 8 8 0xFFF, brcW 0 0 0x337, yieldW 0 0 8, cmdW 26, cmdW 6, brW 0x317, endW 11 0, endW 11 1, endW 11 9] ++
  romDefer 0x339

/-- ERASE: the planes' rows, then the confirm, which is its COMMIT; YIELDs in the array wait and for suspend. -/
def eraseRoutine : List Nat :=
  [selW 4, ldpW 9 0x3A, ldpB 12 0x1A, ldiW 13 1, shlR 13 13 12, andI 14 5 7, cmdW 8, adrW 1 1, addI 14 14 0xFFF, brcW 0 0 0x38C, addR 1 1 13,
   brW 0x386, cmdW 9, commitW 2, evtW 4 1, ldpW 15 0x38, yieldW 3 15 3] ++ romBusy 0x391 0x3A8 ++
  [brcW 5 0 0x3A7, endW 11 0, endW 11 1, endW 11 9]

/-- SUSPEND: COMMIT at the suspend cycle; YIELD in the ready wait, which SUSP_LAT limits. -/
def suspendRoutine : List Nat := [selW 4, ldpW 9 0x3C, cmdW 22, commitW 2] ++ romReady 0x404

/-- RESUME: COMMIT at the resume cycle. -/
def resumeRoutine : List Nat := [selW 4, cmdW 23, commitW 2, endW 11 0]

/-- READ_STATUS: V11 the status byte. -/
def readStatusRoutine : List Nat := [selW 4, pollW 1, addI 11 10 0, endW 11 0]

/-- GET_FEAT: LUN, feature address, the busy wait, and P1 to P4 in V11. -/
def getFeatRoutine : List Nat :=
  [selW 4, andI 13 4 1, cmdW 14, adrW 3 13, adrW 3 8] ++ romFeature 0x585 ++ [cmdW 0, dinR 3 11, endW 11 0]

/-- SET_FEAT: LUN, feature address, P1 to P4, and the busy wait. -/
def setFeatRoutine : List Nat :=
  [selW 4, andI 13 4 1, cmdW 15, adrW 3 13, adrW 3 8, doutR 3 6] ++ romFeature 0x606 ++ [brcW 5 0 0x60B, endW 11 0, endW 11 1]

/-- RESET_LUN and RECOVER from b: the status before the reset in V11, the reset cycle, which is the COMMIT, and the wait for ready within
TRST (R134, R136). -/
def romReset (b : Nat) : List Nat := [selW 4, pollW 1, addI 11 10 0, ldpW 9 0xF0, cmdW 12, commitW 2] ++ romReady (b + 6)
def resetLunRoutine : List Nat := romReset 0x680
def recoverRoutine : List Nat := romReset 0x900

/-- READ_ID: the first four bytes in V11, V3 bytes to V2. -/
def readIdRoutine : List Nat := [selW 4, cmdW 16, adrW 3 8, dinR 3 11, cmdW 16, adrW 3 8, dinW 2 3, waitW 9 0, endW 11 0]

/-- READ_PARAM: YIELDs in the ready wait and between 256-byte copies; V11 bytes moved. -/
def readParamRoutine : List Nat :=
  [selW 4, cmdW 17, adrI 0, ldiW 14 256] ++ romFeature 0x784 ++
  [cmdW 0, dinW 2 14, waitW 9 0, addR 11 11 14, addR 2 2 14, addI 3 3 0xF00, brcW 0 0 0x790, yieldW 0 0 2, brW 0x787, endW 11 0]

/-- ZQ_CAL, long or short by V8: COMMIT at the ZQ command; YIELD in the ready wait, limited by TRST; V11 status. -/
def zqCalRoutine : List Nat :=
  [selW 4, ldpW 9 0xF0, andI 13 4 1, addI 12 8 0, brcW 0 1 0x807, cmdW 18, brW 0x808, cmdW 19, adrW 3 13, commitW 2, yieldW 2 0 1, pollW 1,
   brcW 3 0 0x80F, brcW 13 0 0x813, brW 0x80A, addI 11 10 0, brcW 5 0 0x812, endW 11 0, endW 11 1, endW 11 2]

/-- TRAIN: the PHY procedure that V8 names, with V6 as its argument; V11 its result. -/
def trainRoutine : List Nat :=
  [selW 4, addI 12 8 0] ++ (List.range 10).flatMap (fun k => [addI 12 12 0xFFF, brcW 0 0 (0x897 + 2 * k)]) ++ [endW 11 1] ++
  (List.range 10).flatMap fun k => [phyW 6 (k + 1), endW 11 0]

/-- The routine of a COP code. -/
def romRoutine (k : Nat) : List Nat :=
  match k with
  | 0 => readPageRoutine
  | 1 => readMultiRoutine
  | 2 => cacheReadRoutine
  | 3 => softReadRoutine
  | 4 => programRoutine
  | 5 => programSlcRoutine
  | 6 => programStepRoutine
  | 7 => eraseRoutine
  | 8 => suspendRoutine
  | 9 => resumeRoutine
  | 10 => readStatusRoutine
  | 11 => getFeatRoutine
  | 12 => setFeatRoutine
  | 13 => resetLunRoutine
  | 14 => readIdRoutine
  | 15 => readParamRoutine
  | 16 => zqCalRoutine
  | 17 => trainRoutine
  | 18 => recoverRoutine
  | _ => []

/-- The microword at a ROM address: the routine of COP code k stands from 0x0080·k; elsewhere it is free. -/
def romWord (a : Nat) : Nat :=
  match (romRoutine (a / 128))[a % 128]? with
  | some w => w
  | none => (Config.rom a).toNat

end Sys2Proof.Machine
end

