-- ==== Sys2Proof/Machine/Seq.lean ====
section
/-! DEFINITION. Machine/Seq.lean: the channel microsequencer (R117 to R138): fetch, micro-operations, parking and waking,
aborts, resets and faults. A micro-operation row is one cycle of channel ch's sequencer in which the microword at the
running routine's PC is of that row. -/

namespace Sys2Proof.Machine

open Sys2Proof

/-! ### The control store (R118 to R121) -/

/-- An address from which the channel can fetch (R121). -/
def pcLegal (h : Chan) (a : Nat) : Bool := decide (a < 0x1000) || decide (0x1000 ≤ a ∧ a < 0x1400 ∧ a - 0x1000 < h.wordCount)

/-- The microword at a legal address. -/
def storeWord (h : Chan) (a : Nat) : Nat := if a < 0x1000 then romWord a else (nget 0#32 h.patchRam (a - 0x1000)).toNat

/-! ### Routines ending, faults and reset handling (R130, R136, R138) -/

/-- The channel's bus engine after the routine that owns the bus has parked or ended: CE_n high once its queued cycles are done (R124). -/
def busDrop (c : Nat) (d : Dev) : Dev :=
  modChan d c fun h => { h with running := none, phy := none, ceLow := if h.bus.isEmpty then none else h.ceLow }

/-- A queued entry as it stands on the bus: a pantry transfer to the die shows its bytes. -/
def busWire (d : Dev) (c : Nat) (b : BusCycle) : BusEntry :=
  match b.entry, getRec d c b.owner with
  | .out a n, some x => .outReg ((outBytes d x.op a n).map (·.toNat))
  | e, _ => e

/-- The engine turns to the first cycle of its queue: CE_n of that cycle's LUN low, every other line high, and Volume Select before it
where the volume is not the last one selected on that line (R102, R124). -/
def busFront (c : Nat) (d : Dev) : Dev :=
  match (getChan d c).bus with
  | [] => modChan d c fun h => { h with ceLow := if h.running.isSome then h.ceLow else none }
  | b :: _ =>
    let e := b.lun / 8
    let v := b.lun / 2 % 4
    let l := 32 * c + b.lun
    let sel := profFeat d l 10 && decide (nget 0 (getChan d c).lastVol e ≠ v + 1)
    modChan d c fun h =>
      { h with ceLow := some e, lastVol := nset 0 h.lastVol e (v + 1),
               wire := (if sel then [.cmd (cmdOpcode d l 20), .adr [v]] else []) ++ [busWire d c b] }

/-- The queued cycles of a record are dropped with it; the engine goes on with what follows. -/
def busForget (c r : Nat) (d : Dev) : Dev :=
  let q := (getChan d c).bus
  let keep := q.filter fun b => decide (b.owner ≠ r)
  if keep.length = q.length then d else busFront c (modChan d c fun h => { h with bus := keep })

/-- The routine of record r ends: its record is freed and the LUN's scheduler chooses again. -/
def recEnd (c r code : Nat) (vr : Nat) (d : Dev) : Dev :=
  match getRec d c r with
  | none => d
  | some x =>
    let l := x.op.lun
    let d := modChan d c fun h => { h with recs := nerase h.recs r }
    let d := if (getChan d c).running = some r then busDrop c d else d
    let d := if r % 2 = 0 then modSched d l fun s => { s with suspended := false, asker := none } else d
    let d := when (decide (x.op.cop = 16 ∧ code = 1)) (fun d => bump d F.chnErr_ZQ_FAIL c) d
    let d := when (decide (code = 2)) (fun d => bump d F.chnErr_BUSY_TO c) d
    let d := opEnd x.op code (nget 0 x.v 10) (nget 0 x.v vr) (arrayT d x) x.suspCnt d
    schedChoose l d

/-- The sequencer takes the next parked routine that can run; with none, it waits for a new COP (R142). -/
def seqPick (c : Nat) : Nat → Dev → Dev
  | 0, d => d
  | n + 1, d =>
    if (getChan d c).running.isSome || calHolds d c then d
    else match pickWoken d c with
      | none => d
      | some (r, x) =>
        if x.abrq && !x.committed then seqPick c n (recEnd c r 3 11 d)
        else
          modChan (modRec d c r fun y => { y with parkedAt := none, wokenAt := none, words := 0 }) c fun h =>
            { h with running := some r, curLun := r / 2, pc := x.pc }

/-- Reset handling for a LUN: its routines end without an END, and it is INDETERMINATE (R136, R138). An operation chosen
and not started goes back to its queue; an EVENT names the operations that were lost. -/
def lunReset (c l : Nat) (d : Dev) : Dev :=
  let rs := [recA l, recB l].filter fun r => (getRec d c r).isSome
  let ops := rs.filterMap fun r => (getRec d c r).map fun x => x.op
  let tags := (ops.filter fun o => !isInternal o).map (·.tag)
  let d := each rs (fun d r =>
    let d := match getRec d c r with
      | some x =>
        slotsSweep (modCodec (progFree x.op d) fun m =>
          { m with mops := nerase m.mops x.op.tag, cws := m.cws.filter fun w => decide (w.2.tag ≠ x.op.tag) })
      | none => d
    let d := busForget c r (modChan d c fun h => { h with recs := nerase h.recs r })
    if (getChan d c).running = some r then busDrop c d else d) d
  if rs.isEmpty then d
  else
    let d := match (getSched d l).chosen with
      | some o => schedPush o true d
      | none => d
    let d := modSched d l fun s => { s with chosen := none, suspended := false, asker := none }
    let d := ladderLost ops (markIndet l (forgetOfs l d))
    when (linkUp d (groupOf c)) (hsend (groupOf c) 1 (.event (.lost l tags))) d

/-- Every routine of a channel ends at once and each LUN that held a record is INDETERMINATE (R136). -/
def seqResetAll (c : Nat) (d : Dev) : Dev :=
  let d := each (rangeFrom (32 * c) 32) (fun d l => lunReset c l d) d
  modChan d c fun h => { h with bus := [], wire := [], phy := none, running := none, ceLow := none }

/-- The bits of PRM_SEQ_FAULT (Table SEQ-11). -/
inductive SeqFault where
  | recordErr | illegalOp | illegalCond | illegalSlot | doubleCommit | noYield | badTarget | csUncorr
  deriving DecidableEq, Repr

def SeqFault.bit : SeqFault → Nat
  | .recordErr => 0 | .illegalOp => 1 | .illegalCond => 2 | .illegalSlot => 3 | .doubleCommit => 4 | .noYield => 5
  | .badTarget => 6 | .csUncorr => 7

/-- Faults whose handling is reset handling wherever the routine stands. -/
def SeqFault.resets : SeqFault → Bool
  | .recordErr | .doubleCommit | .noYield | .csUncorr => true
  | _ => false

/-- A fault of the routine of record r at address pc (R138, Table SEQ-11). -/
def seqFault (c r pc : Nat) (k : SeqFault) (d : Dev) : Dev :=
  match getRec d c r with
  | none => d
  | some x =>
    let l := x.op.lun
    let was := getReg d .seqFault c
    let d := traceRec c l 4 pc k.bit 0 d
    let d := if nbit was k.bit then d
      else
        let d := setReg d .seqFault c (was + 2 ^ k.bit)
        let d := modChan d c fun h => { h with faults := (h.faults.filter fun p => decide (p.1 ≠ k.bit)) ++ [(k.bit, l % 32, pc)] }
        hsend (groupOf c) 1 (.event (.seqFault c l k.bit pc)) d
    let d := if k = .csUncorr then modChan d c fun h => { h with patchMap := [], patchLost := true } else d
    if k.resets || x.committed then lunReset c l d else recEnd c r 8 11 d

/-- The location that PRM_SEQ_FAULTINFO names: LUN and PC of the first fault not yet cleared, zeros where there is none. -/
def faultInfo (d : Dev) (c : Nat) : Nat × Nat :=
  (((getChan d c).faults.find? fun p => nbit (getReg d .seqFault c) p.1).map (·.2)).getD (0, 0)

/-- The running routine goes on at address a (R119, R121); `bad`: by a step that has no target. -/
def goTo (c r a : Nat) (bad : Bool) (d : Dev) : Dev :=
  let h := getChan d c
  let d := modRec d c r fun x => { x with pc := a % 8192, badStep := bad }
  let d := modChan d c fun h => { h with pc := a % 8192 }
  if pcLegal h a && !bad then d else seqPick c 64 (seqFault c r (a % 8192) .badTarget d)

/-- The running routine goes on at PC + 1: a step from 0x0FFF has no target (R121). -/
def nextPc (c r pc : Nat) (d : Dev) : Dev := goTo c r (pc + 1) (decide (pc = 0xFFF)) d

/-- A branch is taken, through the patch map (R120). -/
def branchTo (c r a : Nat) (d : Dev) : Dev := goTo c r (patchTarget (getChan d c) a) false d

/-! ### The microword -/

/-- Bits [26:0] that a micro-operation names (Table SEQ-4). -/
def uwMask : Nat → Nat
  | 0x00 => 0x0000000 | 0x01 => 0x7E000FF | 0x02 => 0x7F000FF | 0x03 => 0x7FF0000 | 0x04 => 0x7FF0000 | 0x05 => 0x7E00000
  | 0x06 => 0x4F00000 | 0x07 => 0x0001FFF | 0x08 => 0x7E01FFF | 0x09 => 0x7C0FFFF | 0x0A => 0x78003FF | 0x0B => 0x7FFCFFF
  | 0x0C => 0x7FFCFFF | 0x0D => 0x7FFE01F | 0x0E => 0x0FFFF00 | 0x0F => 0x0F00000 | 0x10 => 0x0F000FF | 0x11 => 0x7F000FF
  | 0x12 => 0x00000FF | 0x13 => 0x0F000FF | 0x14 => 0x0F000FF
  | _ => 0

/-- The microword breaks Table SEQ-4: a reserved opcode, FORM or WAKE, or a nonzero reserved bit (R125). -/
def uwIllegal (w : Nat) : Bool :=
  let op := nbits w 31 27
  decide (0x15 ≤ op) || decide (nbits w 26 0 &&& (0x7FFFFFF - uwMask op) ≠ 0) ||
    (decide (op = 2) && decide (5 ≤ nbits w 26 24)) || (decide (op = 0x11) && decide (5 ≤ nbits w 26 24))

/-- A condition code of Table SEQ-5 that exists. -/
def condLegal (k : Nat) : Bool := decide (k ≤ 0x0E) || decide (0x10 ≤ k ∧ k ≤ 0x17) || decide (k = 0x1F)

/-- A register of the routine. -/
def vReg (x : Rec) (i : Nat) : Nat := (nget 0#32 x.v i).toNat
def setV (x : Rec) (i v : Nat) : Rec := { x with v := nset 0#32 x.v i (BitVec.ofNat 32 v) }

/-- XD: no pantry transfer is on its way. -/
def busXd (h : Chan) : Bool := !(h.bus.any fun b => match b.entry with | .out _ _ | .inp _ _ => true | _ => false)

/-- The condition of BRC and WAIT (Table SEQ-5). -/
def condHolds (d : Dev) (c : Nat) (x : Rec) (k : Nat) : Bool :=
  let h := getChan d c
  match k with
  | 0x00 => x.z
  | 0x01 => x.c
  | 0x02 => x.n
  | 0x03 => h.sr.getLsbD 6
  | 0x04 => h.sr.getLsbD 5
  | 0x05 => h.sr.getLsbD 0
  | 0x06 => h.sr.getLsbD 1
  | 0x07 => !h.sr.getLsbD 7
  | 0x08 => h.bus.isEmpty
  | 0x09 => busXd h
  | 0x0A => x.sreq
  | 0x0B => recSok d x
  | 0x0C => x.abrq
  | 0x0D => decide (3 * vReg x 9 < 2 * arrayT d x)
  | 0x0E => h.rbHigh.getLsbD (x.sel / 8)
  | 0x17 => recSusp x
  | 0x1F => true
  | _ => decide (0x10 ≤ k ∧ k ≤ 0x16) && x.f.getLsbD (k - 0x10)

/-- Place an entry in the bus queue, for the LUN of SEL; the routine has issued a cycle. -/
def busPush (c r : Nat) (b : BusEntry) (d : Dev) : Dev :=
  let sel := ((getRec d c r).map (·.sel)).getD 0
  let idle := (getChan d c).bus.isEmpty
  let d := modChan d c fun h => { h with bus := h.bus ++ [{ owner := r, lun := sel, entry := b }] }
  modRec (if idle then busFront c d else d) c r fun x => { x with issued := true }

/-- One microword has executed or stalled: it counts towards R127 unless it waits on XD, BQE or a full queue. -/
def countWord (c r : Nat) (d : Dev) : Dev := modRec d c r fun x => { x with words := x.words + 1 }

/-- A cycle in which a routine executes or stalls (PRM_SEQ_UTIL). -/
def cycleCount (c : Nat) (d : Dev) : Dev := bump d F.seqUtil_CYCLES c

/-- The channel's sequencer can run a cycle: its group up and a routine executing. -/
def seqCycle (d : Dev) (c : Nat) : Option (Nat × Rec) :=
  if linkUp d (groupOf c) then (getChan d c).running.bind fun r => (getRec d c r).map fun x => (r, x) else none

/-- The patch-RAM word, or the record, that the cycle reads is known uncorrectable (R398). -/
def csPoison (d : Dev) (c pc : Nat) : Bool := decide (0x1000 ≤ pc) && poisoned d 2 c ((pc - 0x1000) / 2)
def recPoison (d : Dev) (c r : Nat) : Bool := (List.range 21).any fun w => poisoned d 3 c (32 * r + w)

/-- One cycle in which the microword's opcode is `op`: f acts on the record number, the record and the microword. What
raises a fault instead is found first. -/
def microDev (c op : Nat) (f : Nat → Rec → Nat → Dev → Dev) (d : Dev) : Dev :=
  match seqCycle d c with
  | none => d
  | some (r, x) =>
    let w := storeWord (getChan d c) x.pc
    let fault := fun k => seqPick c 64 (seqFault c r x.pc k (cycleCount c d))
    if recPoison d c r then fault .recordErr
    else if x.badStep || !pcLegal (getChan d c) x.pc then fault .badTarget
    else if csPoison d c x.pc then fault .csUncorr
    else if 8192 ≤ x.words && decide (nbits w 31 27 ≠ 0x11 ∧ nbits w 31 27 ≠ 0x13) then fault .noYield
    else if uwIllegal w then fault .illegalOp
    else if nbits w 31 27 = op then f r x w (cycleCount c d)
    else d

/-- The record after a data micro-operation, at PC + 1. -/
def setRec (c r : Nat) (x : Rec) (g : Rec → Rec) (d : Dev) : Dev := nextPc c r x.pc (countWord c r (modRec d c r g))

/-! ### Bus micro-operations -/

/-- A queuing micro-operation: it stalls while the bus queue holds 16 entries. -/
def queueOp (c r : Nat) (x : Rec) (b : BusEntry) (d : Dev) : Dev :=
  if 16 ≤ (getChan d c).bus.length then d else nextPc c r x.pc (countWord c r (busPush c r b d))

/-- n low bytes of v, low byte first. -/
def lowBytes (n v : Nat) : List Nat := (List.range n).map fun i => v / 2 ^ (8 * i) % 256

/-- CMD: an immediate opcode or the profile's slot; a slot with no opcode is a fault. -/
def uCmdDev (c : Nat) : Dev → Dev := microDev c 1 fun r x w d =>
  let l := 32 * c + x.sel
  let slot := nbits w 25 21
  let opc := if nbit w 26 then nbits w 7 0 else cmdOpcode d l slot
  if !nbit w 26 && decide (opc = 0) && decide (slot ≠ 0) then seqPick c 64 (seqFault c r x.pc .illegalSlot d)
  else queueOp c r x (.cmd opc) d

/-- ADR: column and row bytes, least significant first. -/
def uAdrDev (c : Nat) : Dev → Dev := microDev c 2 fun r x w d =>
  let l := 32 * c + x.sel
  let a := nbits w 23 20
  let col := lowBytes (prof d l 0x18 1) (vReg x a)
  let bytes := match nbits w 26 24 with
    | 0 => col
    | 1 => lowBytes (prof d l 0x19 1) (vReg x a)
    | 2 => col ++ lowBytes (prof d l 0x19 1) (vReg x ((a + 1) % 16))
    | 3 => lowBytes 1 (vReg x a)
    | _ => [nbits w 7 0]
  queueOp c r x (.adr bytes) d

/-- DOUT: a pantry transfer; register bytes go low byte first. -/
def uDoutDev (c : Nat) : Dev → Dev := microDev c 3 fun r x w d =>
  if nbit w 26 then queueOp c r x (.outReg (lowBytes (nbits w 25 24 + 1) (vReg x (nbits w 23 20)))) d
  else queueOp c r x (.out (vReg x (nbits w 23 20)) (vReg x (nbits w 19 16))) d

/-- A micro-operation that waits for bytes from the bus: it queues its entry, stalls until they are in the routine's register, and goes
on. A stall on a full queue is not counted (R127). -/
def inputOp (c r : Nat) (x : Rec) (b : BusEntry) (d : Dev) : Dev :=
  if x.waitIn = 2 then setRec c r x (fun y => { y with waitIn := 0 }) d
  else if x.waitIn = 1 then countWord c r d
  else if 16 ≤ (getChan d c).bus.length then d
  else countWord c r (modRec (busPush c r b d) c r fun y => { y with waitIn := 1 })

/-- DIN: a pantry transfer, or bytes for a register; the row names the LUN that answers, which is the routine's target. -/
def uDinDev (c l : Nat) : Dev → Dev := microDev c 4 fun r x w d =>
  if l ≠ 32 * c + x.sel then d
  else if nbit w 26 then inputOp c r x (.inReg (nbits w 23 20) (nbits w 25 24 + 1)) d
  else queueOp c r x (.inp (vReg x (nbits w 23 20)) (vReg x (nbits w 19 16))) d

/-- POLL: READ STATUS ENHANCED with the row in VA, or READ STATUS; the status byte arrives in V10. The row names the LUN that answers, which
is the routine's target. -/
def uPollDev (c l : Nat) : Dev → Dev := microDev c 6 fun r x w d =>
  let b := if nbit w 26 then BusEntry.status (cmdOpcode d l 11) []
    else .status (cmdOpcode d l 10) (lowBytes (prof d l 0x19 1) (vReg x (nbits w 23 20)))
  if l ≠ 32 * c + x.sel then d else inputOp c r x b d

/-- The bytes that a routine waits for arrive: V10 and the status for POLL, with a mismatch counted where R/B_n is high and the status
busy (R103); else the register that DIN names. -/
def inputCome (c : Nat) (b : BusCycle) (bs : List Byte) (d : Dev) : Dev :=
  match b.entry with
  | .status _ _ =>
    let sr := bs.headD 0
    let d := modChan d c fun h => { h with sr := sr }
    let d := when ((getChan d c).rbHigh.getLsbD (b.lun / 8) && !sr.getLsbD 6) (fun d => bump d F.chnErr_RB_MISMATCH c) d
    modRec d c b.owner fun y => { setV y 10 sr.toNat with waitIn := 2, polls := y.polls + 1 }
  | .inReg v n => modRec d c b.owner fun y => { setV y v (leNat (bs.take n)) with waitIn := 2 }
  | _ => d

/-- The cycle of LUN l of the channel starts a busy time (R103): the confirms, resets, calibrations and resumes of Table CHN-5, and the
last cycle of a parameter page or feature operation; `last` is the opcode before it. PRESUMED of ONFI (log 99). -/
def startsBusy (d : Dev) (l last : Nat) (b : BusEntry) : Bool :=
  match b with
  | .cmd o => [1, 2, 3, 4, 6, 7, 9, 12, 13, 18, 19, 23].any fun i => decide (cmdOpcode d l i = o)
  | .adr _ => decide (last = cmdOpcode d l 14 ∨ last = cmdOpcode d l 17)
  | .outReg _ => decide (last = cmdOpcode d l 15)
  | _ => false

/-- A cycle has been driven: R/B_n of its line falls where it starts a busy time. -/
def busDriven (c : Nat) (b : BusCycle) (d : Dev) : Dev :=
  let h := getChan d c
  let low := startsBusy d (32 * c + b.lun) h.lastOpc b.entry
  modChan d c fun h =>
    { h with rbHigh := if low then h.rbHigh &&& ~~~(1#4 <<< (b.lun / 8)) else h.rbHigh,
             lastOpc := match b.entry with | .cmd o => o | .status o _ => o | _ => h.lastOpc }

/-! ### Control micro-operations -/

/-- NOP. -/
def uNopDev (c : Nat) : Dev → Dev := microDev c 0 fun r x _ d => setRec c r x id d

/-- WAIT stalls until its condition holds (R126). -/
def uWaitDev (c : Nat) : Dev → Dev := microDev c 5 fun r x w d =>
  let k := nbits w 26 22
  if !condLegal k then seqPick c 64 (seqFault c r x.pc .illegalCond d)
  else if condHolds d c x k != nbit w 21 then setRec c r x id d
  else if k = 8 ∨ k = 9 then d
  else countWord c r d

/-- BR. -/
def uBrDev (c : Nat) : Dev → Dev := microDev c 7 fun r _ w d => branchTo c r (nbits w 12 0) (countWord c r d)

/-- BRC. -/
def uBrcDev (c : Nat) : Dev → Dev := microDev c 8 fun r x w d =>
  let k := nbits w 26 22
  if !condLegal k then seqPick c 64 (seqFault c r x.pc .illegalCond d)
  else if condHolds d c x k != nbit w 21 then
    branchTo c r (nbits w 12 0) (countWord c r d)
  else setRec c r x id d

/-- YIELD (R128): an aborted routine ends before COMMIT; WAKE 0 goes on without contention; otherwise it parks. -/
def uYieldDev (c : Nat) : Dev → Dev := microDev c 0x11 fun r x w d =>
  let wake := nbits w 26 24
  let d := traceRec c x.op.lun 0 x.pc (nbits w 7 0) 0 d
  let d := modRec d c r fun y => { y with phase := nbits w 7 0, words := 0 }
  if x.abrq && !x.committed then seqPick c 64 (recEnd c r 3 11 d)
  else if wake = 0 && !x.abrq && !anyWoken d c && (nextCop d c).isNone && !calHolds d c then nextPc c r x.pc d
  else
    let sok := recSok d x && decide (wake = 2 ∨ wake = 3)
    let now := decide (wake = 0) || sok || (decide (wake = 4) && x.resumeOk)
    let d := modRec d c r fun y =>
      { y with pc := (x.pc + 1) % 8192, badStep := decide (x.pc = 0xFFF), wake := wake, vt := vReg x (nbits w 23 20),
               parkedAt := some d.now, wokenAt := if now then some d.now else none }
    seqPick c 64 (busDrop c d)

/-- COMMIT (R129): once in a routine. -/
def uCommitDev (c : Nat) : Dev → Dev := microDev c 0x12 fun r x w d =>
  if x.committed then seqPick c 64 (seqFault c r x.pc .doubleCommit d)
  else
    let d := traceRec c x.op.lun 1 x.pc (nbits w 7 0) 0 d
    setRec c r x (fun y => { y with committed := true, phase := nbits w 7 0, arrayAcc := 0, arrayFrom := some d.now,
                                    progFrom := some d.now }) d

/-- END (R135). -/
def uEndDev (c : Nat) : Dev → Dev := microDev c 0x13 fun r x w d =>
  let d := traceRec c x.op.lun 3 x.pc (nbits w 7 0) (vReg x 10) d
  seqPick c 64 (recEnd c r (nbits w 7 0) (nbits w 23 20) d)

/-- EVT: an event for the trace and the die scheduler. -/
def uEvtDev (c : Nat) : Dev → Dev := microDev c 0x10 fun r x w d =>
  let d := modSched d x.op.lun fun s => { s with posted := some (nbits w 7 0, vReg x (nbits w 23 20)) }
  setRec c r x id (traceRec c x.op.lun 2 x.pc (nbits w 7 0) (vReg x (nbits w 23 20)) d)

/-- SEL: the LUN of the next bus cycle. -/
def uSelDev (c : Nat) : Dev → Dev := microDev c 0x0F fun r x w d =>
  setRec c r x (fun y => { y with sel := vReg x (nbits w 23 20) % 32 }) d

/-- SETF and its effects on SUSP (R132). -/
def uSetfDev (c : Nat) : Dev → Dev := microDev c 0x0E fun r x w d =>
  let f := (x.f &&& ~~~BitVec.ofNat 8 (nbits w 15 8)) ||| BitVec.ofNat 8 (nbits w 23 16)
  let l := x.op.lun
  let now := d.now
  if f.getLsbD 7 && !recSusp x then
    let acc := x.arrayAcc + (match x.arrayFrom with | some t => now - t | none => 0)
    let d := modSched d l fun s => { s with suspended := true }
    let d := statsUp (groupOf c) F.schSusp_ISSUED 0 1 d
    let d := setRec c r x (fun y => { y with f := f, suspCnt := min 15 (y.suspCnt + 1), sreq := false, arrayAcc := acc, arrayFrom := none,
                                             resumeOk := false }) d
    schedChoose l d
  else if !f.getLsbD 7 && recSusp x then
    let d := modSched d l fun s => { s with suspended := false }
    let d := setRec c r x (fun y => { y with f := f, arrayFrom := some now, progFrom := some now, resumeOk := false }) d
    askAll l d
  else setRec c r x (fun y => { y with f := f }) d

/-- PHY: with the queued cycles done, the bus is lent to the calibration unit for procedure PROC with the argument in VA; the routine
stalls until the procedure ends, with its result in V11 (R384). DESIGN CHOICE (log 104): one that does not run in the channel's signalling
mode (R385) ends at once and leaves V11. -/
def uPhyDev (res : Option Word) (c : Nat) : Dev → Dev := microDev c 0x14 fun r x w d =>
  if !(getChan d c).bus.isEmpty then countWord c r d
  else
    match (getChan d c).phy, res with
    | some _, some v => setRec c r x (fun y => setV y 11 v.toNat) (modChan d c fun h => { h with phy := none })
    | some _, none => countWord c r d
    | none, _ =>
      let h := getChan d c
      if procRuns h.sig h.ext (nbits w 7 0) then
        countWord c r (modChan d c fun h => { h with phy := some (nbits w 7 0, vReg x (nbits w 23 20)) })
      else setRec c r x id d

/-- What the procedure in progress on the channel compares with (Table CAL-2, R385). -/
def phySource (d : Dev) (c : Nat) : Option PatSource :=
  (getChan d c).phy.map fun p => procSource (getChan d c).sig p.1 (calPattern d)

/-! ### Data micro-operations -/

/-- LDI. -/
def uLdiDev (c : Nat) : Dev → Dev := microDev c 9 fun r x w d =>
  let i := nbits w 26 23
  setRec c r x (fun y => setV y i (if nbit w 22 then nbits w 15 0 * 65536 + vReg x i % 65536 else nbits w 15 0)) d

/-- LDP: a profile byte or halfword of SEL's volume; a time field of zero reads as the ONFI value (R109). -/
def uLdpDev (c : Nat) : Dev → Dev := microDev c 10 fun r x w d =>
  let l := 32 * c + x.sel
  let o := nbits w 7 0
  let v := if nbit w 8 then (if nbit w 9 then wrapI 32 (sext 8 (prof d l o 1)) else prof d l o 1) else profTime d l o
  setRec c r x (fun y => setV y (nbits w 26 23) v) d

/-- The second operand of ADD and AND. -/
def uwB (x : Rec) (w : Nat) (signed : Bool) : Nat :=
  if nbit w 18 then (if signed then wrapI 32 (sext 12 (nbits w 11 0)) else nbits w 11 0) else vReg x (nbits w 17 14)

/-- ADD. -/
def uAddDev (c : Nat) : Dev → Dev := microDev c 11 fun r x w d =>
  let s := vReg x (nbits w 22 19) + uwB x w true
  setRec c r x (fun y => { setV y (nbits w 26 23) s with z := decide (s % 2 ^ 32 = 0), c := decide (2 ^ 32 ≤ s), n := nbit s 31 }) d

/-- AND. -/
def uAndDev (c : Nat) : Dev → Dev := microDev c 12 fun r x w d =>
  let s := vReg x (nbits w 22 19) &&& uwB x w false
  setRec c r x (fun y => { setV y (nbits w 26 23) s with z := decide (s = 0), c := false, n := nbit s 31 }) d

/-- SHL. -/
def uShlDev (c : Nat) : Dev → Dev := microDev c 13 fun r x w d =>
  let k := if nbit w 17 then vReg x (nbits w 16 13) % 32 else nbits w 4 0
  let a := vReg x (nbits w 22 19)
  let s := if nbit w 18 then a / 2 ^ k else a * 2 ^ k % 2 ^ 32
  setRec c r x (fun y => { setV y (nbits w 26 23) s with z := decide (s = 0) }) d

/-- NOP (R125). -/
def execUNop (ch : Nat) (st : State) : Host.Outcome State Fault Refusal := onDev (uNopDev ch) st
/-- CMD (R125). -/
def execUCmd (ch : Nat) (st : State) : Host.Outcome State Fault Refusal := onDev (uCmdDev ch) st
/-- ADR (R125). -/
def execUAdr (ch : Nat) (st : State) : Host.Outcome State Fault Refusal := onDev (uAdrDev ch) st
/-- DOUT (R125). -/
def execUDout (ch : Nat) (st : State) : Host.Outcome State Fault Refusal := onDev (uDoutDev ch) st
/-- DIN (R125). -/
def execUDin (ch lun : Nat) (st : State) : Host.Outcome State Fault Refusal := onDev (uDinDev ch lun) st
/-- WAIT (R125, R126). -/
def execUWait (ch : Nat) (st : State) : Host.Outcome State Fault Refusal := onDev (uWaitDev ch) st
/-- POLL (R125). -/
def execUPoll (ch lun : Nat) (st : State) : Host.Outcome State Fault Refusal := onDev (uPollDev ch lun) st
/-- BR (R125). -/
def execUBr (ch : Nat) (st : State) : Host.Outcome State Fault Refusal := onDev (uBrDev ch) st
/-- BRC (R125, R126). -/
def execUBrc (ch : Nat) (st : State) : Host.Outcome State Fault Refusal := onDev (uBrcDev ch) st
/-- LDI (R125). -/
def execULdi (ch : Nat) (st : State) : Host.Outcome State Fault Refusal := onDev (uLdiDev ch) st
/-- LDP (R125). -/
def execULdp (ch : Nat) (st : State) : Host.Outcome State Fault Refusal := onDev (uLdpDev ch) st
/-- ADD (R125). -/
def execUAdd (ch : Nat) (st : State) : Host.Outcome State Fault Refusal := onDev (uAddDev ch) st
/-- AND (R125). -/
def execUAnd (ch : Nat) (st : State) : Host.Outcome State Fault Refusal := onDev (uAndDev ch) st
/-- SHL (R125). -/
def execUShl (ch : Nat) (st : State) : Host.Outcome State Fault Refusal := onDev (uShlDev ch) st
/-- SETF (R132). -/
def execUSetf (ch : Nat) (st : State) : Host.Outcome State Fault Refusal := onDev (uSetfDev ch) st
/-- SEL (R125). -/
def execUSel (ch : Nat) (st : State) : Host.Outcome State Fault Refusal := onDev (uSelDev ch) st
/-- EVT (R125). -/
def execUEvt (ch : Nat) (st : State) : Host.Outcome State Fault Refusal := onDev (uEvtDev ch) st
/-- YIELD (R128). -/
def execUYield (ch : Nat) (st : State) : Host.Outcome State Fault Refusal := onDev (uYieldDev ch) st
/-- COMMIT (R129). -/
def execUCommit (ch : Nat) (st : State) : Host.Outcome State Fault Refusal := onDev (uCommitDev ch) st
/-- END (R135). -/
def execUEnd (ch : Nat) (st : State) : Host.Outcome State Fault Refusal := onDev (uEndDev ch) st
/-- PHY (R125, R384). -/
def execUPhy (ch : Nat) (res : Option Word) (st : State) : Host.Outcome State Fault Refusal := onDev (uPhyDev res ch) st

/-! ### Events at the sequencer -/

/-- The microword at hand stalls in a way that counts towards R127, or the count is already used up. -/
def stallCounts (d : Dev) (c : Nat) (x : Rec) : Bool :=
  let w := storeWord (getChan d c) x.pc
  let op := nbits w 31 27
  let k := nbits w 26 22
  let full := x.waitIn = 0 && decide (16 ≤ (getChan d c).bus.length)
  (decide (8192 ≤ x.words) && decide (op ≠ 0x11 ∧ op ≠ 0x13)) || decide (op = 0x14) || ((decide (op = 6) || (decide (op = 4) && nbit w 26)) && !full) ||
    (decide (op = 5) && decide (k ≠ 8 ∧ k ≠ 9) && (condHolds d c x k == nbit w 21))

/-- NO_YIELD: the routine passes 8,192 microwords, stalled cycles included, without a YIELD (R127). -/
def noYieldDev (c : Nat) (d : Dev) : Dev :=
  match seqCycle d c with
  | none => d
  | some (r, x) => if stallCounts d c x then seqPick c 64 (seqFault c r x.pc .noYield d) else d

/-- NO_YIELD (R127). -/
def execNoYield (ch : Nat) (st : State) : Host.Outcome State Fault Refusal := onDev (noYieldDev ch) st

/-- A parked record wakes. -/
def wakeRec (c r : Nat) (d : Dev) : Dev :=
  modRec d c r fun x => if x.parkedAt.isSome ∧ x.wokenAt.isNone then { x with wokenAt := some d.now } else x

/-- POLL_INT of the channel, in AO ticks. -/
def pollInt (d : Dev) (c : Nat) : Nat := us (getF d F.chnCfg_POLL_INT c + 1)

/-- The wake condition of a parked routine holds (Table SEQ-6). R/B_n's rise is RB_RISE's own; a line that is high already when the
routine parks is polled after POLL_INT too: DEDUCED (log 99), or the routine would never go on. -/
def wakeHolds (d : Dev) (c : Nat) (x : Rec) : Bool :=
  let gone := match x.parkedAt with | some t => d.now - t | none => 0
  let early := recSok d x || (x.abrq && !x.committed)
  match x.wake with
  | 0 => true
  | 1 => decide (pollInt d c ≤ gone)
  | 2 => decide (pollInt d c ≤ gone) || early
  | 3 => decide (us x.vt ≤ gone) || early
  | _ => x.resumeOk

/-- YIELD_WAKE: the wake condition of a parked routine of the LUN comes to hold (R128). -/
def yieldWakeDev (c l : Nat) (d : Dev) : Dev :=
  if !linkUp d (groupOf c) then d
  else
    let ready := fun r => (getRec d c r).any fun x => x.parkedAt.isSome && x.wokenAt.isNone && wakeHolds d c x
    match [recA l, recB l].find? ready with
    | some r => seqPick c 64 (wakeRec c r d)
    | none => d

/-- YIELD_WAKE (R128). -/
def execYieldWake (ch lun : Nat) (st : State) : Host.Outcome State Fault Refusal := onDev (yieldWakeDev ch lun) st

/-- RB_RISE: line e of the channel goes high; the routines that wait on it wake, to poll (R103), unless RB_IGN is set. -/
def rbRiseDev (c e : Nat) (d : Dev) : Dev :=
  if !linkUp d (groupOf c) || decide (4 ≤ e) then d
  else
    let d := modChan d c fun h => { h with rbHigh := h.rbHigh ||| (1#4 <<< e) }
    if nbit (getF d F.chnCfg_RB_IGN c) e then d
    else
      let rs := ((getChan d c).recs.filter fun r => decide (r.2.wake = 2 ∧ r.2.sel / 8 = e)).map (·.1)
      seqPick c 64 (each rs (fun d r => wakeRec c r d) d)

/-- RB_RISE (R103). -/
def execRbRise (ch e : Nat) (st : State) : Host.Outcome State Fault Refusal := onDev (rbRiseDev ch e) st

/-- ABORT_REQUEST: the LUN's routine is to be abandoned (R130). Before COMMIT a parked one wakes to end, but where it waits for POLL_INT
or resume alone (Table SEQ-6); after COMMIT the request stays pending. -/
def abortDev (c l : Nat) (d : Dev) : Dev :=
  let r := if (getRec d c (recB l)).isSome then recB l else recA l
  if !linkUp d (groupOf c) then d
  else
    let d := modRec d c r fun x => { x with abrq := true }
    match getRec d c r with
    | some x => if x.parkedAt.isSome && !x.committed && decide (x.wake ≠ 1 ∧ x.wake ≠ 4) then seqPick c 64 (wakeRec c r d) else d
    | none => d

/-- ABORT_REQUEST (R130). -/
def execAbortRequest (ch lun : Nat) (st : State) : Host.Outcome State Fault Refusal := onDev (abortDev ch lun) st

/-- A record word as PRM_SEQ_RECc reads (Table SEQ-12); words 5 to 20 are withheld from PL2 on (Table SEC-1). -/
def recWord (d : Dev) (c : Nat) : Nat :=
  let r := 2 * getF d F.seqRecsel_LUN c + getF d F.seqRecsel_SLOT_B c
  match getRec d c r, getF d F.seqRecsel_WORD c with
  | none, _ => 0
  | some x, 0 => 2 ^ 31 + b2n x.committed * 2 ^ 30 + b2n x.issued * 2 ^ 29 + b2n x.abrq * 2 ^ 28 + x.wake % 8 * 2 ^ 25 +
      x.op.cop % 32 * 2 ^ 20 + x.suspCnt % 16 * 2 ^ 16 + x.pc % 2 ^ 13
  | some x, 1 => x.phase % 256 * 2 ^ 24 + x.f.toNat * 2 ^ 16 + x.sel % 32 * 2 ^ 11 + b2n x.z * 2 ^ 10 + b2n x.c * 2 ^ 9 + b2n x.n * 2 ^ 8
  | some x, 2 => arrayT d x
  | some x, 3 => progT d x
  | some x, 4 => x.op.tag % 2 ^ 32
  | some x, n + 5 => if n < 16 ∧ withholds d < 2 then vReg x n else 0

end Sys2Proof.Machine
end

