-- ==== Sys2Proof/Machine/Codec.lean ====
section
/-! DEFINITION. Machine/Codec.lean: what a decode ends with (R174, R175, R177, R199), and the receipt of codewords (R177). -/

namespace Sys2Proof.Machine

open Sys2Proof

/-! ### Decode outcomes (R174, R175, R177, R189, R199) -/

/-- What a converged codeword is after its checks: 0 OK, 3 CRC_FAIL, 4 TAG_FAIL; and its derandomised bytes. Pad has another tag than any
sector (R233, Table CDC-2). -/
def checkInfo (d : Dev) (w : Codeword) (info : List Byte) : Nat × List Byte :=
  let x := randomise info (streamState (profSeed d w.lun) w.row w.k)
  if !infoOk x then (3, x)
  else if w.verify then (0, x)
  else match w.expect with
    | some (n, l) => let m := infoMeta x; if m.ns = n ∧ m.lba = l ∧ m.kind = 0 then (0, x) else (4, x)
    | none => (0, x)

/-- A read-back codeword carries the LBA, namespace and WSEQ that were written (R204). -/
def verifyTag (d : Dev) (w : Codeword) (x : List Byte) : Bool :=
  let o := cwOp d w
  match o.use with
  | .readback u =>
    match (nfind d.pgm.units u).bind fun p => p.sectors[if o.sample then 4 * (o.arg + w.index) + w.k else 4 * o.arg + w.index]? with
    | some s => let m := infoMeta x; s.pad || decide (m.lba = s.info.lba ∧ m.ns = s.info.ns ∧ m.wseq = s.info.wseq)
    | none => true
  | _ => true

/-- Bits set in a but not in b. -/
def bitsOnly (a b : List Byte) : Nat := ((a.zip b).map fun p => ((byteBits (p.1 &&& ~~~p.2)).filter id).length).sum

/-- What a converged decode corrected: the bits sensed 0 that decoded as 1, and the reverse (R177, R189). -/
def cwCorrected (d : Dev) (w : Codeword) (info : List Byte) : Nat × Nat :=
  let out := ldpcWord (profParity d w.lun) info
  (bitsOnly out w.raw, bitsOnly w.raw out)

/-- The decode in hand can end so (R174, R175): converged within the limit, with no iteration run twice; or not converged, some check
unsatisfied. -/
def decodeFits (w : Codeword) (r : DecodeRes) : Bool :=
  let top := if w.step = 1 then w.ext else w.lim
  if r.conv then decide (r.info.length = 4128 ∧ w.iters ≤ r.iters ∧ r.iters ≤ top) else decide (0 < r.unsat)

/-- The iterations run when the decode ends: all that its limit allows where it has not converged. -/
def decodeIters (w : Codeword) (r : DecodeRes) : Nat := if r.conv then r.iters else if w.step = 1 then w.ext else w.lim

/-- A codeword decodes with good checks at its step: learning, early warning, counts, and its outcome. -/
def cwGood (i : Nat) (bits : Nat) (x : List Byte) (d : Dev) : Dev :=
  match getCw d i with
  | none => d
  | some w =>
    let p := profParity d w.lun
    let b := cwBlk d w
    if w.verify then
      if verifyTag d w x then
        let ovr := decide (getF d F.pgmVthr_THR p < bits)
        let d := when ovr (fun d => postCand w.lun (b / profPlanes d w.lun) 1 (mstat F.pgmVcnt_OVER 1 d)) d
        cwSettle i 0 x ovr bits d
      else cwSettle i 4 [] false bits d
    else
      let sev := if 100 ≤ w.step then 3 else if 2 ≤ w.step then 2 else if getF d F.rrcEw_THR p < bits then 1 else 0
      let d := if w.step = 1 then mstat F.rrcOut0_EXT_OK 1 d
        else if 100 ≤ w.step then mstat F.rrcOut1_SOFT_OK 1 d
        else if 2 ≤ w.step then mstat F.rrcOut0_ROW_OK 1 d else d
      let e := getThr d w.lun (blkGroup d w.lun b) (cwType d w)
      let d := if 100 ≤ w.step then learnJump w.lun b (cwType d w) w.bestOfs (w.bestRow.getD e.lastRow) d
        else if 2 ≤ w.step then learnJump w.lun b (cwType d w) w.ofs (w.step - 2) d
        else d
      let d := when (decide (sev ≠ 0)) (fun d => postCand w.lun (b / profPlanes d w.lun) sev (mstat F.rrcEwcnt_EW 1 d)) d
      cwSettle i 0 x (decide (sev ≠ 0)) bits d

/-- A converged codeword: the corrected bits are counted, those of the first sense for the step rule too (R189), and its checks decide
(R177); CRC_FAIL goes on as a failed decode, but not to step E; TAG_FAIL is not retried. -/
def cwConverged (i : Nat) (r : DecodeRes) (d : Dev) : Dev :=
  match getCw d i with
  | none => d
  | some w =>
    let (lo, hi) := cwCorrected d w r.info
    let d := mstat F.cdcCbits_BITS (lo + hi) d
    let d := when (decide (w.step ≤ 1)) (modMop w.tag fun m => { m with conv := m.conv + 1, eLo := m.eLo + lo, eHi := m.eHi + hi }) d
    let (c, x) := checkInfo d w r.info
    if c = 0 then cwGood i (lo + hi) x d
    else if c = 4 then cwUncorr i 4 (lo + hi) (mstat F.cdcChecks_TAG_FAIL 1 d)
    else ladderNext i 3 ((if w.step < 100 then noteChecks i r.unsat else id) (mstat F.cdcChecks_CRC_FAIL 1 d))

/-- HARD_DECODE_DONE: the hard decode in hand of codeword i ends (R174). One that has not converged keeps its decoder for step E. -/
def hardDoneDev (i : Nat) (r : DecodeRes) (d : Dev) : Dev :=
  match getCw d i with
  | none => d
  | some w =>
    if w.st ≠ .hard ∨ !decodeFits w r then d
    else
      let d := when (decide (w.step ≠ 1)) (mstat F.cdcHcnt_COUNT 1) d
      let d := modCw i (fun x => { x with lop := none, src := [], iters := decodeIters w r }) d
      slotsSweep <| takeHard <|
        if r.conv then cwConverged i r d
        else
          let d := noteChecks i r.unsat d
          if w.step = 0 then modCw i (fun x => { x with step := 1 }) (mstat F.cdcHfail_NO_CONV 1 d)
          else ladderNext i 2 (mstat F.cdcHfail_EXT_FAIL 1 d)

/-- HARD_DECODE_DONE (R174). -/
def execHardDecodeDone (id : Nat) (r : DecodeRes) (st : State) : Host.Outcome State Fault Refusal := onDev (hardDoneDev id r) st

/-- SOFT_DECODE_DONE: the soft decode of codeword i's three strobes ends (R175). -/
def softDoneDev (i : Nat) (r : DecodeRes) (d : Dev) : Dev :=
  match getCw d i with
  | none => d
  | some w =>
    if w.st ≠ .soft ∨ !decodeFits w r then d
    else
      let d := mstat F.cdcSoft_COUNT 1 d
      let d := modCw i (fun x => { x with src := [], soft := none, iters := decodeIters w r }) d
      slotsSweep <| takeSoft <|
        if r.conv then cwConverged i r d else ladderNext i 2 (mstat F.cdcSoft_FAIL 1 d)

/-- SOFT_DECODE_DONE (R175). -/
def execSoftDecodeDone (id : Nat) (r : DecodeRes) (st : State) : Host.Outcome State Fault Refusal := onDev (softDoneDev id r) st

/-- SOFT_PASS_ISSUE (R196). -/
def execSoftPassIssue (st : State) : Host.Outcome State Fault Refusal := onDev softPassDev st

/-- RECOVERY_ENTRY_FREE: with an entry free, a codeword that waits for one enters recovery, class 0 first (R196). -/
def entryFreeDev (d : Dev) : Dev :=
  let q := d.codec.cws.filter fun p => decide (p.2.st = .tableWait) && tableRoom d p.2.cls
  match (q.find? fun p => decide (p.2.cls = 0)).orElse fun _ => q.head? with
  | some p => ladderEnter p.1 2 d
  | none => d

/-- RECOVERY_ENTRY_FREE (R196). -/
def execRecoveryEntryFree (st : State) : Host.Outcome State Fault Refusal := onDev entryFreeDev st

/-! ### Receipt of codewords (R177, R430) -/

/-- Zero bits of raw bytes. -/
def zeroBits (bs : List Byte) : Nat := (bs.map fun b => ((byteBits b).filter (!·)).length).sum

/-- Invert bit n of the bytes. -/
def flipBit (bs : List Byte) (n : Nat) : List Byte := bs.modify (n / 8) fun b => b ^^^ (1#8 <<< (n % 8))

/-- n distinct bit positions below `size`, from point 2's generator (R431). -/
def flipPositions (size : Nat) : Nat → Nat → List Nat → Dev → List Nat × Dev
  | 0, _, acc, d => (acc, d)
  | fuel + 1, n, acc, d =>
    if acc.length = n then (acc, d)
    else
      let (v, d) := fijDraw d 2
      let p := v % size
      flipPositions size fuel n (if acc.contains p then acc else acc ++ [p]) d

/-- Channel-data injection on a received codeword: the bytes as decoded, and whether it was injected. -/
def cwInject (c : Nat) (raw : List Byte) (resend : Bool) (d : Dev) : List Byte × Bool × Dev :=
  let (a, d) := fijEvent d 2 c [1] resend
  if a = 0 then (raw, false, d)
  else
    let (ps, d) := flipPositions (8 * raw.length) 65536 (max 1 (getF d F.fijArg_NBITS 2)) [] d
    (ps.foldl flipBit raw, true, d)

/-- Codeword i of a read: its plane page's row, and its place in the page (R164, R204). -/
def cwPlace (d : Dev) (o : Op) (i : Nat) : Nat × Nat :=
  if o.sample then (o.row + i * 2 ^ profPageShift d o.lun, (o.col / cwBytes d o.lun + i) % 4)
  else
    let n := o.col / cwBytes d o.lun + i
    (if o.cop = 1 then o.row + n / 4 * 2 ^ profPageShift d o.lun else if o.cop = 2 then o.row + n / 4 else o.row, n % 4)

/-- The soft input of three strobes (R194): the sign of each bit is the bit of the first, and it is strong where all three agree. -/
def softInput (d : Dev) (a b c : List Byte) : SoftIn :=
  { sign := a, agree := (a.zip (b.zip c)).map fun p => ~~~((p.1 ^^^ p.2.1) ||| (p.1 ^^^ p.2.2)),
    strong := getF d F.rrcCfg_MAG_STRONG, weak := getF d F.rrcCfg_MAG_WEAK }

/-- Strobe s of a soft pass arrives; with the third the codeword waits for a soft decoder. -/
def recvStrobe (t s : Nat) (raw : List Byte) (d : Dev) (w : Codeword) : Codeword :=
  let w := { w with strobes := nput w.strobes s raw, src := w.src ++ [t] }
  match nfind w.strobes 0, nfind w.strobes 1, nfind w.strobes 2 with
  | some a, some b, some c => { w with st := .softQ, raw := a, soft := some (softInput d a b c) }
  | _, _, _ => w

/-- A codeword of a retry sense or strobe: decoded again for each codeword that waits for it. -/
def recvRetry (o : Op) (k : Nat) (raw : List Byte) (d : Dev) : Dev :=
  let hit := (ladderWaiters d o).filter fun i => (getCw d i).any fun w => decide (w.k = k)
  let (raw, _, d) := cwInject (chanOf o.lun) raw (hit.any fun i => (getCw d i).any (·.injected)) d
  let erased := decide (zeroBits raw < prof d o.lun 0x1E 2)
  each hit (fun d i =>
    if erased then cwSettle i 1 [] false 0 (mstat F.cdcChecks_ERASED 1 d)
    else match o.use with
      | .ladder _ (s + 1) => modCw i (recvStrobe o.tag s raw d) d
      | _ => modCw i (fun w => { w with st := .hardQ, raw := raw, src := [o.tag] }) d) d

/-- A codeword of a first read or read-back arrives (R177); of a read that HOLDUP dropped it is DROPPED. -/
def recvFirst (o : Op) (raw : List Byte) (d : Dev) : Dev :=
  match nfind d.codec.mops o.tag with
  | none => d
  | some m =>
    let i := m.arrived
    let (raw, inj, d) := cwInject (chanOf o.lun) raw false d
    let verify := match o.use with | .readback _ => true | _ => false
    let id := d.codec.nextCw
    let (row, k) := cwPlace d o i
    let w : Codeword :=
      { tag := o.tag, index := i, lun := o.lun, row := row, k := k, cls := o.cls, verify := verify, raw := raw,
        expect := (o.expect.getD i none), ofs := (nget [] d.rrc.lastOfs o.lun).map fun x => x.getD 0, slc := opSlc o, injected := inj }
    let d := modCodec d fun x =>
      { x with cws := nput x.cws id w, nextCw := id + 1, mops := nput x.mops o.tag { m with arrived := i + 1, left := m.left + 1 } }
    if m.dead then cwSettle id 5 [] false 0 d
    else if zeroBits raw < prof d o.lun 0x1E 2 then cwSettle id 1 [] false 0 (mstat F.cdcChecks_ERASED 1 d)
    else d

/-- The bytes of a pantry transfer from the bus, codeword by codeword. -/
def recvBytes (o : Op) (bs : List Byte) (d : Dev) : Dev :=
  let cw := cwBytes d o.lun
  each (List.range (bs.length / cw)) (fun d j =>
    let raw := slice bs (cw * j) cw
    if isLadder o then
      let n := (nget {} d.codec.mops o.tag).arrived
      recvRetry o (o.col / cw + n) raw (modMop o.tag (fun m => { m with arrived := n + 1 }) d)
    else recvFirst o raw d) d

/-- The last codeword of the suspend's reads has left the bus: resume is granted (R145). -/
def resumeCheck (o : Op) (d : Dev) : Dev :=
  let s := getSched d o.lun
  let done := match nfind d.codec.mops o.tag with
    | some m => decide (m.total ≤ m.arrived)
    | none => false
  if s.suspended && done && s.chosen.isNone && (suspRead d o.lun).isNone then grantResume o.lun d else d

/-- A pantry transfer to the bus has ended: the slot of the plane page that has gone is free, and what waited for it goes on (R160). -/
def outDone (a : Nat) (d : Dev) : Dev :=
  let keep := d.codec.slots.filter fun p => !(p.2.prog && decide (p.2.addr = a))
  if keep.length = d.codec.slots.length then d
  else
    let d := modCodec d fun x => { x with slots := keep }
    each (d.scheds.map (·.1)) (fun d l => schedChoose l d) d

/-- A pantry transfer from the bus has brought its bytes: a read's codewords go to the decoders, what another operation reads stays at
its pantry address (Table SEQ-4). -/
def inpDone (c : Nat) (b : BusCycle) (a n : Nat) (bs : List Byte) (d : Dev) : Dev :=
  match getRec d c b.owner with
  | some x =>
    if isReadCop x.op.cop then
      if bs.length = n then pantryClean a n <| resumeCheck x.op (takeSoft (takeHard (recvBytes x.op bs d))) else d
    else modCodec d fun y => { y with bufs := nput y.bufs a (bs.take n) }
  | none => d

/-- BUS_TRANSFER_DONE: the first queued entry of channel c's bus engine ends (R124), and the engine turns to the next. The bytes
are those that the entry brought from the bus. -/
def busDoneDev (c : Nat) (bs : List Byte) (d : Dev) : Dev :=
  let h := getChan d c
  if !linkUp d (groupOf c) then d
  else match h.bus with
    | [] => d
    | b :: rest =>
      let d := busDriven c b (modChan d c fun h => { h with bus := rest })
      let d := match b.entry with
        | .out a _ => outDone a d
        | .inp a n => inpDone c b a n bs d
        | _ => inputCome c b bs d
      seqPick c 64 (busFront c d)

/-- BUS_TRANSFER_DONE (R124). -/
def execBusTransferDone (ch : Nat) (bytes : List Byte) (st : State) : Host.Outcome State Fault Refusal :=
  onDev (busDoneDev ch bytes) st

end Sys2Proof.Machine
end

