-- ==== Sys2Proof/Machine/Journal.lean ====
section
/-! DEFINITION. Machine/Journal.lean: system pages and their logs (R217, R225, R472), and the intent journal (R213 to R218). -/

namespace Sys2Proof.Machine

open Sys2Proof

/-- Program units of a multi-plane block of a LUN, in either mode (R228). -/
def blkRows (d : Dev) (l : Nat) : Nat := profPages d l / profCell d l

/-- Change the record of a command, where there is one. -/
def modCmd (arr : Nat) (f : Cmd → Cmd) (d : Dev) : Dev :=
  modOrd d fun o => match nfind o.cmds arr with
    | some c => { o with cmds := nput o.cmds arr (f c) }
    | none => o

/-- The record of a command. -/
def getCmd (d : Dev) (arr : Nat) : Cmd := nget {} d.ord.cmds arr

/-- Bytes of an encoded plane page. -/
def pageBytes (d : Dev) (l : Nat) : Nat := 4 * cwBytes d l

/-- An encoded plane page stands in slot i, at its pantry address. -/
def slotFill (i addr : Nat) (bs : List Byte) (d : Dev) : Dev :=
  slotsLow (pantryClean addr bs.length (modCodec d fun x => { x with slots := nput x.slots i { addr := addr, data := bs } }))

/-! ### System pages (R217, R225, R472) -/

/-- LUNs that take system pages: present and not isolated. -/
def sysLuns (d : Dev) : List Nat := (allLuns d).filter fun l => lunUsable d l

/-- Two LUNs may carry the copies of one page: different groups, or channels where there is one group. -/
def apart (d : Dev) (a b : Nat) : Bool :=
  if d.build.groups = 1 then decide (chanOf a ≠ chanOf b) else decide (groupOf (chanOf a) ≠ groupOf (chanOf b))

/-- The next pair of the rotation (R217). -/
def nextPair (d : Dev) : Option (Nat × Nat) :=
  let ls := sysLuns d
  let r := (ls.filter fun l => decide (d.pgm.rot ≤ l)) ++ ls.filter fun l => decide (l < d.pgm.rot)
  match r with
  | [] => none
  | a :: rest => (rest.find? fun b => apart d a b).map fun b => (a, b)

/-- An entry's 32 bytes (Table PGM-4). -/
def jBytes (e : JEntry) : List Byte :=
  let b := natLe 8 e.jseq ++ natLe 1 e.typ ++ natLe 1 (b2n e.susp) ++ natLe 2 e.lun ++ natLe 4 e.unit ++ natLe 4 e.page ++
    natLe 4 e.arg ++ zeros 4
  b ++ natLe 4 (crc32c b).toNat

/-- The 16 KiB of a journal page, fill entries with a good ECRC of their zeros. -/
def jPageBytes (es : List JEntry) : List Byte :=
  let b := es.flatMap jBytes
  b ++ (List.replicate (512 - es.length) (jBytes {})).flatten

def getLog (d : Dev) (l : Nat) : SysLog := nget {} d.pgm.logs l
def modLog (l : Nat) (f : SysLog → SysLog) (d : Dev) : Dev := modPgm d fun p => { p with logs := nmod {} p.logs l f }

/-- Plane pages of one system block. -/
def sysCap (d : Dev) (l : Nat) : Nat := blkRows d l * profPlanes d l

/-- A record of the kind is superseded by a newer one, so that it need not be kept (R472). -/
def sysLive (d : Dev) (l : Nat) (r : Nat × SysKind × Nat) : Bool :=
  let newest := ((getLog d l).live.filter fun x => decide (x.2.1 = r.2.1)).map (·.2.2)
  match r.2.1 with
  | .journal => decide (d.pgm.ckptJseq ≤ r.2.2)
  | .directory => false
  | _ => newest.all fun n => decide (n ≤ r.2.2)

/-- The block that a LUN's log opens next. -/
def nextSysBlk (dir : Bool) (g : SysLog) : Nat :=
  if dir then 1 - g.dirBlk else if 7 ≤ g.recBlk then 2 else g.recBlk + 1

/-- The live records of block b of LUN l. -/
def liveRecs (d : Dev) (l b : Nat) : List (Nat × SysKind × Nat) := (getLog d l).live.filter fun r => decide (r.1 = b) && sysLive d l r

/-- The live records of block b of LUN l are written again at the head of its log, journal pages apart, which a fresh CHECKPOINT
supersedes (R472). -/
def sysCarry (l b : Nat) (d : Dev) : Dev :=
  let rs := liveRecs d l b
  let d := when (rs.any fun r => decide (r.2.1 = .journal)) (fun d => modPgm d fun p => { p with ckptWanted := true }) d
  each (rs.filter fun r => decide (r.2.1 ≠ .journal)) (fun d r =>
    modPgm (modLog l (fun g => { g with live := g.live.filter (· ≠ r) }) d) fun p =>
      { p with nextPage := p.nextPage + 1,
               pages := nput p.pages p.nextPage { kind := r.2.1, luns := [l], upTo := r.2.2, wait := [0], carry := true } }) d

/-- Pages kept free in an open block for the live records of the next one. DESIGN CHOICE (log 106). -/
def sysReserve : Nat := 8

/-- The open block of a LUN's log is nearly full: the live records of the next block are written again while there is room (R472). -/
def sysAhead (l : Nat) (d : Dev) : Dev :=
  let g := getLog d l
  let b := nextSysBlk false g
  match g.recPage with
  | some n => if sysCap d l ≤ n + (liveRecs d l b).length + sysReserve then sysCarry l b d else d
  | none => d

/-- Erase the block that the log needs next, once it holds no live record. -/
def sysErase (l : Nat) (dir : Bool) (d : Dev) : Dev :=
  let g := getLog d l
  let b := nextSysBlk dir g
  if g.erasing.contains b then d
  else if !(liveRecs d l b).isEmpty then sysCarry l b d
  else
    let d := modLog l (fun g => { g with erasing := g.erasing ++ [b], live := g.live.filter fun r => decide (r.1 ≠ b) }) d
    opIssue { lun := l, cls := 1, cop := 7, row := rowAddr d l (remapBlk d l b * profPlanes d l) 0, flags := profPlanes d l,
              use := .sysErase l b } d

/-- Copy `copy` of system page i waits. -/
def sysWait (i copy : Nat) (d : Dev) : Dev :=
  modPgm d fun p => { p with pages := nmod {} p.pages i fun x => { x with wait := x.wait ++ [copy] } }

/-- Append a copy of system page i to a LUN's log: its program is issued, or it waits for the next block's erase or for a page-buffer
slot. -/
def sysAppend (i copy : Nat) (d : Dev) : Dev :=
  match nfind d.pgm.pages i with
  | none => d
  | some pg =>
    let l := pg.luns.getD copy 0
    let dir := decide (pg.kind = .directory)
    let g := getLog d l
    let d := modPgm d fun p => { p with pages := nput p.pages i { pg with wait := pg.wait.filter (· ≠ copy) } }
    match if dir then g.dirPage else g.recPage, openRun d 1 with
    | some n, some s =>
      if n < sysCap d l then
        let b := if dir then g.dirBlk else g.recBlk
        let d := modLog l (fun g => if dir then { g with dirPage := some (n + 1) } else
          { g with recPage := some (n + 1), live := g.live ++ [(b, pg.kind, pg.upTo)] }) d
        let row := rowAddr d l (remapBlk d l b * profPlanes d l + n % profPlanes d l) (n / profPlanes d l)
        let (v, d) := free d
        let (w, d) := free d
        let data := if pg.kind = .journal then jPageBytes pg.entries else natLe 16384 w
        let info : Meta := { lba := v % 2 ^ 48, kind := 2, node := d.pins.nodeId.toNat }
        let bs := planePage d l row ((List.range 4).map fun k => infoBytes info (slice data (4096 * k) 4096))
        let a := slotAddr d s
        let d := slotFill s a bs d
        opIssue { lun := l, cls := 1, cop := 5, row := row, addr := a, count := pageBytes d l, flags := 1, use := .sysPage i copy }
          (if dir then d else sysAhead l d)
      else
        sysErase l dir (sysWait i copy d)
    | some _, none => sysWait i copy d
    | none, _ => sysErase l dir (sysWait i copy d)

/-- Copies of system pages that wait are tried again. -/
def sysPump (d : Dev) : Dev := each (d.pgm.pages.filter fun p => !p.2.wait.isEmpty) (fun d p => each p.2.wait (fun d c => sysAppend p.1 c d) d) d

/-- Issue a system page to the next pair of LUNs; nothing where there is no pair. -/
def sysIssue (k : SysKind) (es : List JEntry) (upTo : Nat) (d : Dev) : Dev :=
  match nextPair d with
  | none => d
  | some (a, b) =>
    let i := d.pgm.nextPage
    let d := modPgm d fun p =>
      { p with nextPage := i + 1, rot := b + 1,
               pages := nput p.pages i { kind := k, entries := es, luns := [a, b], upTo := upTo } }
    sysAppend i 1 (sysAppend i 0 d)

/-- Write the LUN's directory page after a page that landed there (Table XLT-1). -/
def dirIssue (l : Nat) (d : Dev) : Dev :=
  let i := d.pgm.nextPage
  sysAppend i 0 (modPgm d fun p => { p with nextPage := i + 1, pages := nput p.pages i { kind := .directory, luns := [l] } })

/-- A refresh candidate for system block b of LUN l (R236): the live records of the block are written again at the head of its log; the
open block is taken as full, so that the log leaves it. Its erase follows as R472 states. -/
def sysRefresh (l b : Nat) (d : Dev) : Dev :=
  let g := getLog d l
  if b < 2 then
    if b = g.dirBlk then dirIssue l (modLog l (fun g => { g with dirPage := g.dirPage.map fun _ => sysCap d l }) d) else d
  else
    sysPump (sysCarry l b (if b = g.recBlk then modLog l (fun g => { g with recPage := g.recPage.map fun _ => sysCap d l }) d else d))

/-- The log goes on in system block b of LUN l, which has been erased; what waited for it is appended. -/
def sysOpened (l b : Nat) (d : Dev) : Dev :=
  let dir := decide (b < 2)
  let d := modLog l (fun g =>
    let g := { g with erasing := g.erasing.filter (· ≠ b) }
    if dir then { g with dirBlk := b, dirPage := some 0 } else { g with recBlk := b, recPage := some 0 }) d
  each (d.pgm.pages.filter fun p => p.2.luns.contains l && !p.2.wait.isEmpty) (fun d p =>
    each (p.2.wait.filter fun c => decide (p.2.luns.getD c 0 = l) && (decide (p.2.kind = .directory) == dir))
      (fun d c => sysAppend p.1 c d) d) d

/-- The ERASE of block k of LUN l, for system or hold-up block b. -/
def blkEraseOp (d : Dev) (l k : Nat) (u : OpUse) : Op :=
  { lun := l, cls := 1, cop := 7, row := rowAddr d l (k * profPlanes d l) 0, flags := profPlanes d l, use := u }

/-! ### The journal (R213 to R218) -/

/-- Entry n is in a written page. -/
def jWritten (d : Dev) (n : Nat) : Bool := decide (n ≤ d.pgm.written)

/-- Flash work of the SoC side can be issued in the mode in force. -/
def sysMay (d : Dev) : Bool := d.mode.mode.flash && decide (d.mode.mode ≠ .safe)

/-- A journal page is on its way: no later page is issued (R216). -/
def jBusy (d : Dev) : Bool := d.pgm.pages.any fun p => decide (p.2.kind = .journal)

/-- Write the next journal page where one is due: a full buffer, or an entry that is to be written at once (R214). -/
def jPump (d : Dev) : Dev :=
  match d.pgm.buf with
  | [] => d
  | e :: _ =>
    if jBusy d || !sysMay d || (nextPair d).isNone then d
    else if 512 ≤ d.pgm.buf.length || decide (e.jseq ≤ d.pgm.force) then
      let es := d.pgm.buf.take 512
      sysIssue .journal es ((es.getLast?.map (·.jseq)).getD 0) (modPgm d fun p => { p with buf := p.buf.drop 512, bufSince := d.now })
    else d

/-- Entries up to JSEQ n are written at once. -/
def jForce (n : Nat) (d : Dev) : Dev := jPump (modPgm d fun p => { p with force := max p.force n })

/-- Append an Ahead entry: its page is written at once. -/
def jAhead (typ lun unit page arg : Nat) (d : Dev) : Dev :=
  let n := d.pgm.nextJseq
  jForce n (jAdd typ false lun unit page arg d)

/-- Ask for a CHECKPOINT; the number of the one that will cover changes made up to now. -/
def ckptAsk (d : Dev) : Nat × Dev := (d.pgm.ckptAsm + 1, modPgm d fun p => { p with ckptWanted := true })

/-- Start the CHECKPOINT that is asked for (R218, R225, R306): its record and the epoch record are written first. -/
def ckptPump (d : Dev) : Dev :=
  if d.pgm.ckptWanted && sysMay d && d.pgm.ckptPending.isNone && (nextPair d).isSome &&
      !(d.pgm.pages.any fun p => decide (p.2.kind = .checkpoint)) then
    let d := modPgm d fun p => { p with ckptWanted := false, ckptAsm := p.ckptAsm + 1 }
    sysIssue .epoch [] d.pgm.ckptAsm (sysIssue .checkpoint [] d.pgm.ckptAsm d)
  else d

/-- JRNL_INT_EXPIRY: JRNL_INT after the oldest unwritten entry, the buffer is written (R214). -/
def jrnlIntDev (d : Dev) : Dev :=
  match d.pgm.buf.getLast? with
  | some e => if sysMay d then jForce e.jseq d else d
  | none => d

/-- JRNL_INT_EXPIRY (R214). -/
def execJrnlIntExpiry (st : State) : Host.Outcome State Fault Refusal := onDev jrnlIntDev st

end Sys2Proof.Machine
end

