-- ==== Sys2Proof/Machine/Fifo.lean ====
section
/-! DEFINITION. Machine/Fifo.lean: the ingest FIFOs: their words, the sectors that packets become, the commands that take
them, release, XOFF (R308, R310, R323 to R328), and the end of a command (R283, R290). -/

namespace Sys2Proof.Machine

open Sys2Proof

def getFifo (d : Dev) (k : Nat) : Fifo := nget {} d.dma.fifos k
def modFifo (k : Nat) (f : Fifo → Fifo) (d : Dev) : Dev := modDma d fun m => { m with fifos := nmod {} m.fifos k f }

/-- Words from MARK on that lie in share slices, those reserved by issued bursts among them (R323). -/
def shareWords (f : Fifo) : Nat := (f.shares.map fun s => s.1 + s.2 - max s.1 f.mark).sum

/-- Word i lies in a share slice. -/
def inShare (f : Fifo) (i : Nat) : Bool := f.shares.any fun s => decide (s.1 ≤ i ∧ i < s.1 + s.2)

/-- Words that can still be reserved in the share slice that ends where the next word is to be reserved. -/
def shareTail (f : Fifo) : Nat :=
  match f.shares.getLast? with
  | some s => if s.1 + s.2 = f.sent + f.resv then 1024 - s.2 else 0
  | none => 0

/-- Reserve w words of the share: slices of 64 KiB are linked in at the data's position (R323). -/
def shareReserve (w : Nat) (f : Fifo) : Fifo :=
  let p := f.sent + f.resv
  let t := min w (shareTail f)
  let old := if t = 0 then f.shares else f.shares.dropLast ++ (f.shares.getLast?.map fun s => (s.1, s.2 + t)).toList
  let new := (List.range (ceilDiv (w - t) 1024)).map fun i => (p + t + 1024 * i, min 1024 (w - t - 1024 * i))
  { f with shares := old ++ new, resv := f.resv + w }

/-- Give back w reserved words, the last ones. -/
def fifoUnreserve (w : Nat) (f : Fifo) : Fifo :=
  let p := f.sent + (f.resv - w)
  { f with resv := f.resv - w, shares := (f.shares.filter fun s => decide (s.1 < p)).map fun s => (s.1, min s.2 (p - s.1)) }

/-- Some of the units still hold data that is not DURABLE. -/
def unitsOwe (d : Dev) (us : List Nat) : Bool :=
  us.any fun u => match nfind d.pgm.units u with | some x => !x.durable && decide (x.st ≠ .abandoned) | none => false

/-- FILL: words written, or reserved by issued bursts, and not yet freed, in pool slices (R323). -/
def fifoFill (f : Fifo) : Nat := f.sent + f.resv - f.mark - shareWords f

/-- Free slices of the class-0 write share: a slice returns when its data is DURABLE (R149). -/
def shareRoom (d : Dev) : Nat :=
  d.codec.c0Bytes / 65536 - (d.dma.fifos.map fun f => f.2.shares.length + (f.2.owed.filter fun us => unitsOwe d us).length).sum

/-- FILL has crossed HI or LO (R328). -/
def xoffCheck (k : Nat) (d : Dev) : Dev :=
  let hi := getF d F.fifoWm_HI k
  let lo := if hi ≤ getF d F.fifoWm_LO k then hi - 1 else getF d F.fifoWm_LO k
  modFifo k (fun f =>
    if hi * 16 ≤ fifoFill f then { f with xoff := true }
    else if fifoFill f ≤ lo * 16 then { f with xoff := false } else f) d

/-- The state of XOFF line i in the run modes (R36, R328). -/
def xoffLine (d : Dev) (i : Nat) : Bool :=
  d.dma.fifos.any fun f => f.2.xoff && isSet d F.fifoCfg_XEN f.1 && decide (getF d F.fifoCfg_XLINE f.1 = i)

/-- Valid bytes of a word (Table DMA-4). -/
def wordBytes (w : FWord) : List Byte :=
  if nbit w.tag 7 then w.data.take (if w.tag % 64 = 0 then 64 else w.tag % 64) else w.data

/-- Bytes of the FIFO's words a..b - 1. -/
def spanBytes (f : Fifo) (a b : Nat) : List Byte := (rangeFrom a (b - a)).flatMap fun i => wordBytes (nget {} f.words i)

/-- The 4,096 bytes of an assembled sector (R325). -/
def secBytes (f : Fifo) (s : FSec) : List Byte :=
  if s.zero then zeros 4096
  else let b := ((spanBytes f s.first s.stop).drop s.off).take 4096
       b ++ zeros (4096 - b.length)

/-! ### Poisoned words (R398, Table MEM-2) -/

/-- The pantry address of word i of FIFO k. DESIGN CHOICE (log 108): the manual does not say which slices a FIFO's words stand in. -/
def wordAddr (d : Dev) (k i : Nat) : Nat := Config.fifoLine k i % ((d.codec.fifoBytes + d.codec.c0Bytes) / 64) * 64

/-- The poisoned words of a sector. -/
def secSick (f : Fifo) (s : FSec) : List Nat :=
  if s.zero then [] else (rangeFrom s.first (s.stop - s.first)).filter fun i => (nget {} f.words i).sick

/-- The ladle can read a command's words again: DMODE 1 or 2, its completion not yet written. -/
def rereadable (c : Cmd) : Bool := decide (c.dmode = 1 ∨ c.dmode = 2) && decide (c.st = .running ∨ c.st = .finished)

/-- The ladle reads word i of FIFO k again from host memory, run by run, where it is not doing so. -/
def wordAgain (k i : Nat) (d : Dev) : Dev :=
  let f := getFifo d k
  let runs := f.src.filterMap fun r =>
    let lo := max r.1 (64 * i)
    let hi := min (r.1 + r.2.2) (64 * i + 64)
    if lo < hi then some (lo, r.2.1 + (lo - r.1), hi - lo) else none
  if (nget {} f.words i).asks ≠ 0 ∨ runs = [] then d
  else
    let (p, d) := newPurp (.again k) d
    let d := modFifo k (fun f => { f with words := nmod {} f.words i fun w => { w with asks := runs.length } }) d
    each runs (fun d r => mpRequest { purp := p, addr := r.2.1 / 64 * 64, beats := (r.2.1 % 64 + r.2.2 + 63) / 64, tagA := r.1,
                                      tagB := r.2.1 % 64 * 128 + r.2.2 } d) d

/-- Bytes of a word that is read again arrive at position p of FIFO k; with the last of them the word is good. -/
def wordBack (k p : Nat) (bs : List Byte) (d : Dev) : Dev :=
  let i := p / 64
  if (nfind (getFifo d k).words i).isNone then d
  else
    let d := modFifo k (fun f => { f with words := nmod {} f.words i fun w =>
      { w with data := layAt w.data (p % 64) bs, asks := w.asks - 1, sick := decide (1 < w.asks) } }) d
    if (nget {} (getFifo d k).words i).sick then d else pantryClean (wordAddr d k i) 64 d

/-- A read of FIFO k's words has failed: its words are not read again. DESIGN CHOICE (log 108). -/
def wordsGone (k : Nat) (d : Dev) : Dev :=
  modFifo k (fun f => { f with words := f.words.map fun w => if w.2.asks = 0 then w else (w.1, { w.2 with asks := 0 }),
                               src := f.src.filter fun r => !(f.words.any fun w => decide (w.2.asks ≠ 0 ∧ r.1 < 64 * w.1 + 64 ∧ 64 * w.1 < r.1 + r.2.2)) }) d

/-- A sector of command c in FIFO k is about to be read: whether it must wait for words that are read again, which are then asked for. -/
def secHeal (k : Nat) (c : Cmd) (s : FSec) (d : Dev) : Bool × Dev :=
  let d := if rereadable c then each (secSick (getFifo d k) s) (fun d i => wordAgain k i d) d else d
  ((secSick (getFifo d k) s).any fun i => decide ((nget {} (getFifo d k).words i).asks ≠ 0), d)

/-! ### Commands' ends (R283, R290) -/

/-- Completions finished and not yet written (PRM_ORD_HOLD.HELD). -/
def heldCount (d : Dev) : Nat := (d.ord.cmds.filter fun c => decide (c.2.st = .finished)).length

/-- A command has finished: its status and result stand, and its completion is withheld or released by R287 to R290. -/
def cmdFinish (arr status result : Nat) (d : Dev) : Dev :=
  let d := modCmd arr (fun c => if c.st = .fetched ∨ c.st = .running then { c with st := .finished, status := status, result := result } else c) d
  modOrd d fun o => { o with holdPeak := max o.holdPeak (heldCount d) }

/-- The stream of a write (R310): its zone, or its RANDOM namespace and class. -/
def streamOf (d : Dev) (c : Cmd) : Nat :=
  if (getNs d c.ns).random then 2 * (4 * c.ns + c.cls) + 1 else 2 * zkey c.ns (c.lba / zsze d (getNs d c.ns))

/-- All the sectors that the write will place are in the pantry: it is STAGED (R18, R19, R266). -/
def cmdStaged (arr : Nat) (d : Dev) : Dev :=
  if d.mode.mode = .holdup then d
  else
  let c := getCmd d arr
  let d := modCmd arr (fun c => { c with staged := decide (0 < c.need) }) (modXlt d fun x => { x with hostSecs := x.hostSecs + c.need })
  let d := when (decide (c.cls = 0 ∧ c.st = .running)) (fun d => peak d F.schC0max_STAGED_MAX ((d.now - c.doorbell) / 4)) d
  if c.st = .running then cmdFinish arr c.status (if c.opc = 3 then c.start else c.accepted) d else d

/-! ### Packets to sectors to commands (R308, R325) -/

/-- Scan from word i, with n bytes of the sector before it, for the sector's end: the word after its last, and the word
and byte where the next one begins. -/
def secScan (f : Fifo) : Nat → Nat → Int → Option (Nat × Nat × Nat)
  | 0, _, _ => none
  | fuel + 1, i, n =>
    if f.wr ≤ i then none
    else
      let w := nget {} f.words i
      let v := (wordBytes w).length
      let m := n + v
      if 4096 ≤ m then
        if m = 4096 then some (i + 1, i + 1, 0) else some (i + 1, i, v - (m - 4096).toNat)
      else if nbit w.tag 7 ∧ f.align ≠ 0 then some (i + 1, i + 1, 0)
      else secScan f fuel (i + 1) m

/-- Bytes of the packet that begins at word i, where its last word has arrived (R325 ALIGN 2). -/
def packetLen (f : Fifo) : Nat → Nat → Nat → Option Nat
  | 0, _, _ => none
  | fuel + 1, i, n =>
    if f.wr ≤ i then none
    else
      let w := nget {} f.words i
      let n := n + (wordBytes w).length
      if nbit w.tag 7 then some n else packetLen f fuel (i + 1) n

/-- A packet's first word stands at i. -/
def packetStart (f : Fifo) (i : Nat) : Bool := decide (i = f.mark ∧ f.secs = []) || nbit (nget {} f.words (i - 1)).tag 7

/-- The first command that still takes sectors. -/
def fifoTaker (d : Dev) (f : Fifo) : Option (Nat × Cmd) :=
  (f.takers.map fun a => (a, getCmd d a)).find? fun p => decide (p.2.accepted < p.2.need)

/-- Zero sectors to place before the packet at `asm` (ALIGN 2); none while its length is not known. -/
def alignZeros (d : Dev) (f : Fifo) : Option Nat :=
  if f.align ≠ 2 ∨ !packetStart f f.asm then some 0
  else
    let t := fifoTaker d f
    let rand := match t with | some p => (getNs d p.2.ns).random | none => false
    if rand then some 0
    else
      let ready := (f.secs.filter fun s => s.arr.isNone).length
      let pos := (match t with | some p => p.2.lba + p.2.accepted + ready | none => f.count) % 4
      match packetLen f 1025 f.asm 0 with
      | some n => some (if pos = 0 ∨ (n ≤ 16384 ∧ pos + ceilDiv n 4096 ≤ 4) then 0 else 4 - pos)
      | none => if 16384 < (spanBytes f f.asm (min f.wr (f.asm + 1025))).length then some (if pos = 0 then 0 else 4 - pos) else none

/-- Assemble what has arrived into sectors. -/
def fifoBuild (k : Nat) : Nat → Dev → Dev
  | 0, d => d
  | fuel + 1, d =>
    let f := getFifo d k
    let f := if packetStart f f.asm && decide (f.asmOff = 0) then { f with align := min 2 (getF d F.fifoCfg_ALIGN k) } else f
    match alignZeros d f, secScan f 8192 f.asm (0 - (f.asmOff : Int)) with
    | some z, some (stop, asm, off) =>
      let zs := (List.range z).map fun _ => ({ first := f.asm, stop := f.asm, zero := true } : FSec)
      fifoBuild k fuel (modFifo k (fun _ =>
        { f with secs := f.secs ++ zs ++ [{ first := f.asm, off := f.asmOff, stop := stop }], asm := asm, asmOff := off,
                 count := f.count + z + 1 }) d)
    | _, _ => modFifo k (fun _ => f) d

/-- Give sector s, the first that no command has taken, to command `arr` as its sector i. -/
def secGive (arr i : Nat) : List FSec → List FSec
  | [] => []
  | s :: ss => if s.arr.isNone then { s with arr := some arr, idx := i } :: ss else s :: secGive arr i ss

/-- Assembled sectors go to the commands that take them, in arrival order (R308); a command that has all of its own is
STAGED. -/
def fifoTake (k : Nat) : Nat → Dev → Dev
  | 0, d => d
  | fuel + 1, d =>
    let f := getFifo d k
    match fifoTaker d f with
    | none => d
    | some (arr, c) =>
      if f.secs.any fun s => s.arr.isNone then
        let d := modFifo k (fun f => { f with secs := secGive arr c.accepted f.secs }) d
        let d := modCmd arr (fun c => { c with accepted := c.accepted + 1, moved := true }) d
        let d := if c.accepted + 1 = c.need then cmdStaged arr d else d
        fifoTake k fuel d
      else d

/-- Words, sectors and commands of FIFO k brought up to date. -/
def fifoPump (k : Nat) (d : Dev) : Dev := fifoTake k 65536 (fifoBuild k 65536 d)

/-- Packets complete and not yet drawn, counted from a word (R325, R327). -/
def packetsFrom (f : Fifo) (a : Nat) : Nat := (f.words.filter fun w => decide (a ≤ w.1 ∧ w.1 < f.wr) && nbit w.2.tag 7).length

/-- A FIFO_STATE message reports FIFO k to the SoC side, with a watermark crossing where there was one (Table ARC-2). -/
def fifoReport (k : Nat) (cross : Option Bool) (d : Dev) : Dev :=
  let f := getFifo d k
  commonSend (.fifoState k (packetsFrom f f.rd) (fifoFill f) cross (isSet d F.fifoStat_OVERRUN k)) d

/-- The words that have all arrived end here: words of different links may arrive out of order. -/
def wordsTo (f : Fifo) : Nat → Nat → Nat
  | 0, i => i
  | n + 1, i => if (nfind f.words i).isSome then wordsTo f n (i + 1) else i

/-- A WDATA word reaches its slice (R324). -/
def wordArrive (k i tag : Nat) (bs : List Byte) (d : Dev) : Dev :=
  let f := getFifo d k
  let d := modFifo k (fun f =>
    let ws := nput f.words i { data := bs, tag := tag, c0 := inShare f i }
    { f with words := ws, wr := wordsTo { f with words := ws } ws.length f.wr,
             markAt := if f.mark = f.wr then d.now else f.markAt }) d
  let d := xoffCheck k (fifoPump k (pantryClean (wordAddr d k i) 64 d))
  let x := (getFifo d k).xoff
  when (nbit tag 7 || decide (x ≠ f.xoff)) (fifoReport k (if x ≠ f.xoff then some x else none)) d

/-! ### Release (R206, R327) -/

/-- A sector whose space may be freed once MARK reaches it: its unit is released, or a zone reset has discarded it. -/
def secDone (d : Dev) (s : FSec) : Bool :=
  s.rel || (s.unit.isNone && match s.arr with | some a => (getCmd d a).discard | none => false)

/-- MARK moves to the first word of the oldest unit not yet released, and slices wholly behind it are freed. -/
def markAdvance (k : Nat) (d : Dev) : Dev :=
  let f := getFifo d k
  let left := f.secs.dropWhile (secDone d)
  let m := match left with
    | s :: _ => s.first
    | [] => f.asm
  if m = f.mark ∧ left.length = f.secs.length then d
  else
    let gone := f.shares.filter fun s => decide (s.1 + s.2 ≤ m)
    let units := fun (s : Nat × Nat) => (f.secs.filterMap fun x => if x.first < s.1 + s.2 ∧ s.1 < x.stop then x.unit else none).dedup
    let d := modFifo k (fun f =>
      { f with secs := left, mark := m, rd := max f.rd m, markAt := d.now, words := f.words.filter fun w => decide (m ≤ w.1),
               src := f.src.filter fun r => decide (64 * m < r.1 + r.2.2), shares := f.shares.filter fun s => !gone.contains s,
               owed := (f.owed.filter fun us => unitsOwe d us) ++ gone.map units }) d
    xoffCheck k d

/-- Streams of FIFO k that it holds no data of, and whose write position is at a unit boundary, are unbound (R310). -/
def fifoUnbind (k : Nat) (d : Dev) : Dev :=
  let f := getFifo d k
  let held := fun st => (f.secs.any fun s => match s.arr with | some a => decide (streamOf d (getCmd d a) = st) | none => false)
    || (f.takers.any fun a => decide (streamOf d (getCmd d a) = st) && decide ((getCmd d a).accepted < (getCmd d a).need))
  let partialUnit := fun st =>
    if st % 2 = 1 then d.pgm.units.any fun u => decide (u.2.st = .filling ∧ u.2.use = .fifo k) && decide (4 * u.2.ns + u.2.cls = st / 2)
    else
      let z := nget {} d.cq.zones (st / 2)
      let n := st / 2 / 16777216
      decide (z.st = .open_) && decide (z.wp % zoneU d n (getNs d n) (st / 2 % 16777216) ≠ 0)
  modFifo k (fun f => { f with bound := f.bound.filter fun st => held st || partialUnit st }) d

/-- RELEASE of unit u reaches FIFO k. -/
def fifoRelease (k u : Nat) (d : Dev) : Dev :=
  fifoUnbind k (markAdvance k (modFifo k (fun f =>
    { f with secs := f.secs.map fun s => if s.unit = some u then { s with rel := true } else s }) d))

end Sys2Proof.Machine
end

