-- ==== Sys2Proof/Machine/MapCache.lean ====
section
/-! DEFINITION. Machine/MapCache.lean: the work area's page maps and the map cache (R245 to R248). Lines are numbered by work-area
offset >> 6. -/

namespace Sys2Proof.Machine

open Sys2Proof

/-- Work-area offset of a namespace's page map (Table XLT-3). -/
def mapBase (d : Dev) (n : Nat) : Nat :=
  0x40000000 + (((nsList d).filter fun p => p.2.random && decide (p.1 < n)).map fun p => (4 * p.2.lbaCount + 65535) / 65536 * 65536).sum

/-- The line and entry of a map entry. -/
def mapLine (d : Dev) (n lba : Nat) : Nat × Nat := ((mapBase d n + 4 * lba) / 64, lba % 16)

def getLine (d : Dev) (i : Nat) : CacheLine := nget {} d.xlt.lines i
def modLine (i : Nat) (f : CacheLine → CacheLine) (d : Dev) : Dev := modXlt d fun x => { x with lines := nmod {} x.lines i f }

/-- The map cache is in use. -/
def mcOn (d : Dev) : Bool := isSet d F.xltMcctl_EN

/-- Superblocks of the RANDOM pools, in the order of their valid counts in the work area: namespaces in index order, groups as
their section lists them, rising block numbers. DESIGN CHOICE (log 105): Table XLT-3 gives no order. -/
def poolOrder (d : Dev) : List Nat :=
  (nsList d).flatMap fun p => if p.2.random then p.2.groups.flatMap fun g => (rangeFrom g.blo (g.bhi + 1 - g.blo)).map (sbnOf g.sg) else []

/-- The word at a work-area offset (R245, Table XLT-3): erase counters, valid counts, and page maps. Premel's own bookkeeping has
no stated content. DESIGN CHOICE (log 105): that Premel keeps what the area holds in step with its counts is not shown on MPW. -/
def areaWord (d : Dev) (off : Nat) : Option Nat :=
  if off < 0x20000000 then some (eraseCnt d (off / 0x40000) (off % 0x40000 / 4))
  else if off < 0x20100000 then some (((poolOrder d)[(off - 0x20000000) / 4]?.map fun s => (getSb d s).valid).getD 0)
  else ((nsList d).filter fun p => p.2.random && decide (mapBase d p.1 ≤ off)).getLast?.map fun p => mapGet d p.1 ((off - mapBase d p.1) / 4)

/-- The 16 entries of a line in the work area. -/
def areaLine (d : Dev) (i : Nat) : List Nat := (List.range 16).map fun k => (areaWord d (64 * i + 4 * k)).getD 0

/-- Write a dirty line back over MPW (R246). -/
def lineWb (i : Nat) (d : Dev) : Dev :=
  let l := getLine d i
  if !l.dirty then d
  else
    let (p, d) := newPurp (.mapWb i) d
    mpWriteRange p .other (d.cfg.workBase + i * 64) (l.data.flatMap fun e => natLe 4 e) 0 3 (modLine i (fun l => { l with dirty := false }) d)

/-- Issue the fill of a line over MPR; MISSES counts it (R246, R247). -/
def lineFill (i : Nat) (d : Dev) : Dev :=
  let g := (getLine d i).gen
  let (p, d) := newPurp (.mapFill i g) d
  mpReadRange p .fill (d.cfg.workBase + i * 64) 64 0 3 (modLine i (fun l => { l with filling := some g }) (bump d F.xltMccnt_MISSES))

/-- The least recently used valid line of a set, other than line i. -/
def lruOf (d : Dev) (i : Nat) : Option Nat :=
  ((d.xlt.lines.filter fun p => p.2.valid && decide (p.1 % 4096 = i % 4096 ∧ p.1 ≠ i)).foldl (fun (b : Option (Nat × Nat)) p =>
    match b with
    | none => some (p.1, p.2.used)
    | some q => if p.2.used < q.2 then some (p.1, p.2.used) else b) none).map (·.1)

/-- Valid lines of line i's set, other than line i. -/
def setLines (d : Dev) (i : Nat) : Nat := (d.xlt.lines.filter fun p => p.2.valid && decide (p.1 % 4096 = i % 4096 ∧ p.1 ≠ i)).length

/-- Line i has room in its set: fewer than 16 lines stand there, or the least recently used can be evicted, which, where it is
dirty, takes one of the 16 lines of the victim buffer (R247). -/
def setRoom (d : Dev) (i : Nat) : Bool :=
  decide (setLines d i < 16) || match lruOf d i with
    | some j => !(getLine d j).dirty || decide (d.xlt.victims.length < 16)
    | none => true

/-- Room for line i in its set: where 16 lines stand, the least recently used is evicted; it waits in the victim buffer
until its write-back ends (R246, R247). -/
def evictFor (i : Nat) (d : Dev) : Dev :=
  if setLines d i < 16 then d
  else match lruOf d i with
    | none => d
    | some j =>
      let dirty := (getLine d j).dirty
      let d := lineWb j d
      let d := modLine j (fun l => { l with valid := false }) d
      if dirty then modXlt d fun x => { x with victims := x.victims ++ [j] } else d

/-- Line i, which has its data, is installed in its set; where there is no room it waits for a write-back to end. -/
def lineInstall (i : Nat) (d : Dev) : Dev :=
  if setRoom d i then modLine i (fun l => { l with valid := true, here := false, used := d.xlt.clock }) (evictFor i d)
  else modLine i (fun l => { l with here := true }) d

/-- A lookup of line i: a hit marks it used; a hit in the victim buffer installs it again; a miss issues its fill. -/
def lineTouch (i : Nat) (d : Dev) : Dev :=
  if !mcOn d then d
  else
    let d := modXlt d fun x => { x with clock := x.clock + 1 }
    let l := getLine d i
    if l.valid then modLine i (fun l => { l with used := d.xlt.clock }) d
    else if d.xlt.victims.contains i then
      lineInstall i (bump d F.xltMccnt_VICTIM)
    else if l.filling.isSome ∨ l.here then d
    else lineFill i d

/-- What translation reads for an LBA (R246, R248): a cached line as it stands, otherwise the work area. -/
def mapLook (d : Dev) (n lba : Nat) : Nat :=
  let (i, k) := mapLine d n lba
  let l := getLine d i
  if mcOn d && l.valid then l.data.getD k unmapped else mapGet d n lba

/-- A map entry is changed: in its line where the cache is on, and in the work area otherwise. -/
def lineSet (n lba v : Nat) (d : Dev) : Dev :=
  let (i, k) := mapLine d n lba
  if !mcOn d then d
  else
    let d := lineTouch i d
    let l := getLine d i
    let base := if l.valid ∨ l.here then l.data else areaLine d i
    let d := modLine i (fun l => { l with data := base.set k v, dirty := true, used := d.xlt.clock }) d
    if l.valid then d else lineInstall i d

/-- A fill's data arrives: installed where the generation is still the line's, otherwise discarded and issued again; an
invalidate that waits for it then completes (R247). The line takes what the work area holds by R245: only Premel writes it. -/
def fillArrive (i gen : Nat) (d : Dev) : Dev :=
  let l := getLine d i
  if l.filling ≠ some gen then d
  else if l.gen ≠ gen then lineFill i (bump (modLine i (fun l => { l with inval := false }) d) F.xltMccnt_STALE)
  else if l.valid ∨ l.here then modLine i (fun l => { l with filling := none }) d
  else lineInstall i (modLine i (fun l => { l with data := areaLine d i, dirty := false, filling := none }) d)

/-- A write-back has ended: the line leaves the victim buffer, and lines that wait for its room are installed. -/
def wbArrive (i : Nat) (d : Dev) : Dev :=
  let d := modXlt d fun x => { x with victims := x.victims.filter (· ≠ i) }
  each ((d.xlt.lines.filter fun p => p.2.here).map (·.1)) (fun d j => lineInstall j d) d

/-- Invalidate a line (R247, R248): written back where dirty, its generation raised; a fill in flight is waited for. -/
def lineInval (i : Nat) (d : Dev) : Dev :=
  let d := lineWb i d
  modLine i (fun l => { l with gen := l.gen + 1, valid := false, here := false, data := [], inval := l.filling.isSome, used := 0 }) d

/-- Every dirty line is written back. -/
def wbAll (d : Dev) : Dev := each ((d.xlt.lines.filter fun p => p.2.dirty).map (·.1)) (fun d i => lineWb i d) d

/-- An operation or a change of EN is in progress (PRM_XLT_MCSTAT.BUSY). -/
def mcBusy (d : Dev) : Bool :=
  (d.xlt.lines.any fun p => p.2.inval) || d.mp.purps.any fun p => match p.2.kind with | .mapWb _ => true | _ => false

/-- MC_INVALIDATE_LINE (R247, R248). -/
def mcInvLineDev (d : Dev) : Dev := when (socUp d) (fun d => lineInval (getF d F.xltMcaddr_LINE) d) d
def execMcInvalidateLine (st : State) : Host.Outcome State Fault Refusal := onDev mcInvLineDev st

/-- MC_INVALIDATE_ALL (R247, R248). -/
def mcInvAllDev (d : Dev) : Dev := when (socUp d) (fun d => each (d.xlt.lines.map (·.1)) (fun d i => lineInval i d) d) d
def execMcInvalidateAll (st : State) : Host.Outcome State Fault Refusal := onDev mcInvAllDev st

/-- MC_WRITE_BACK_ALL (R248). -/
def mcWbAllDev (d : Dev) : Dev := when (socUp d) wbAll d
def execMcWriteBackAll (st : State) : Host.Outcome State Fault Refusal := onDev mcWbAllDev st

/-- MC_ENABLE_CLEAR: dirty lines are written back, and lookups then go to the work area (R248). -/
def mcOffDev (d : Dev) : Dev := when (socUp d) (fun d => setF (wbAll d) F.xltMcctl_EN 0) d
def execMcEnableClear (st : State) : Host.Outcome State Fault Refusal := onDev mcOffDev st

/-- MC_ENABLE_SET: the lines are used as they stand (R248). -/
def mcOnDev (d : Dev) : Dev := when (socUp d) (fun d => setF d F.xltMcctl_EN 1) d
def execMcEnableSet (st : State) : Host.Outcome State Fault Refusal := onDev mcOnDev st

end Sys2Proof.Machine
end

