-- ==== Sys2Proof/Machine/Erase.lean ====
section
/-! DEFINITION. Machine/Erase.lean: the turn of error entries (R294 to R296), pins (R197, R284), erases and their outcomes
(R210 to R212), and the retirement of a block (R223, R238, R239). -/

namespace Sys2Proof.Machine

open Sys2Proof

/-! ### The error queue's order (R294, R295) -/

/-- An entry's place among those of its LUN: a child takes its parent's. -/
def eqKey (q : List EqEntry) (e : EqEntry) : Nat :=
  match e.parent with
  | some p => match q.find? (fun x => decide (x.eseq = p ∧ x.lun = e.lun)) with
    | some x => x.eseq
    | none => e.eseq
  | none => e.eseq

/-- Every entry of the LUN that comes before e is RESOLVED. -/
def eqTurn (d : Dev) (e : EqEntry) : Bool :=
  decide (e.lun = 0xFFF) || d.ord.eq.all fun x =>
    x.resolved || decide (x.eseq = e.eseq) || decide (x.lun ≠ e.lun) ||
      (decide (eqKey d.ord.eq e ≤ eqKey d.ord.eq x) && !decide (x.parent = some e.eseq))

/-- Begin the actions in place of the entries whose turn it is: RESET_LUN first. -/
def eqStart (d : Dev) : Dev :=
  each (d.ord.eq.filter fun e => !e.resolved && e.act.isSome && !e.started) (fun d e =>
    if eqTurn d e then
      let d := modOrd d fun o => { o with eq := o.eq.map fun x => if x.eseq = e.eseq then { x with started := true } else x }
      opIssue { lun := e.lun, cls := 1, cop := 13, use := .inPlace e.eseq } d
    else d) d

/-- ERROR_ENTRY_RESOLVE: an OPEN entry whose recovery has ended resolves, in its turn; its parent then resolves ESCALATED
(R293 to R295). SAFE leaves entries OPEN (R300). -/
def eqResolveDev (eseq : Nat) (d : Dev) : Dev :=
  match d.ord.eq.find? (fun e => decide (e.eseq = eseq)) with
  | none => d
  | some e =>
    match e.fin with
    | none => d
    | some o =>
      if e.resolved || !eqTurn d e || decide (d.mode.mode = .safe) then d
      else
        let d := modOrd d fun r =>
          { r with eq := r.eq.map fun x =>
              if x.eseq = eseq then { x with resolved := true, outcome := o }
              else if some x.eseq = e.parent ∧ !x.resolved then { x with fin := some 4 } else x }
        eqStart (setF d F.ordEqstat_NEW 1)

/-- ERROR_ENTRY_RESOLVE (R294). -/
def execErrorEntryResolve (eseq : Nat) (st : State) : Host.Outcome State Fault Refusal := onDev (eqResolveDev eseq) st

/-- EQ_ACK: a write of an ESEQ frees the RESOLVED entry that has it; any other sets ACKERR (R296). -/
def eqAckDev (v : Nat) (d : Dev) : Dev :=
  if d.ord.eq.any fun e => decide (e.eseq % 2 ^ 32 = v) && e.resolved then
    modOrd d fun o => { o with eq := o.eq.filter fun e => !(decide (e.eseq % 2 ^ 32 = v) && e.resolved) }
  else setF d F.ordEqstat_ACKERR 1

/-- EQ_ACK (R296). -/
def execEqAck (v : Word) (st : State) : Host.Outcome State Fault Refusal :=
  onDev (fun d => when (socUp d) (eqAckDev v.toNat) d) st

/-- Post an error whose recovery begins: its ESEQ, 0 where the post is lost, and the state after. -/
def eqPost (typ lun unit : Nat) (parent : Option Nat) (d : Dev) : Nat × Dev :=
  let d1 := eqPostFrom typ lun unit false 0 parent d
  (if d1.ret.lastEseq = d.ret.lastEseq then 0 else d1.ret.lastEseq, d1)

/-- Give an entry the action in place that it begins. -/
def eqAct (eseq : Nat) (a : Bool × Nat) (d : Dev) : Dev :=
  eqStart (modOrd d fun o => { o with eq := o.eq.map fun e => if e.eseq = eseq then { e with act := some a } else e })

/-! ### Pins (R197, R284) -/

/-- The block of LUN l is still to be read: a codeword in recovery, a read on its way, or a command's source. -/
def pinned (d : Dev) (l b : Nat) : Bool :=
  let mb := fun row => blkOfRow d l row / profPlanes d l
  (d.codec.cws.any fun w => w.2.inTable && decide (w.2.lun = l) && decide (mb w.2.row = b)) ||
  (d.ord.ops.any fun o => isReadCop o.2.cop && decide (o.2.lun = l) && decide (mb o.2.row = b)) ||
  (d.ord.cmds.any fun c => decide (c.2.st = .running) && c.2.sources.any fun s => match s with
    | .flash l2 row _ _ => decide (l2 = l) && decide (mb row = b)
    | _ => false)

/-! ### Erases (R210, R212) -/

/-- Members of superblock sbn that are erased: those that can be used. -/
def sbMembers (d : Dev) (sbn : Nat) : List Nat := (sgLuns d (sbn / 65536)).filter fun l => lunUsable d l

/-- A unit of an earlier life of the block still runs (R473). -/
def blkBusy (d : Dev) (l b : Nat) : Bool :=
  d.pgm.units.any fun u => decide (u.2.lun = l ∧ u.2.mpb = b) && decide (u.2.copsDone < u.2.pagesOut ∨ u.2.st = .readback)

/-- Issue the erases whose ERASE_INTENT is in a written page, once nothing pins the block. -/
def erasePump (d : Dev) : Dev :=
  each (d.pgm.erases.filter fun j => !j.issued) (fun d j =>
    if jWritten d j.jseq && !pinned d j.lun j.mpb && !blkBusy d j.lun j.mpb && lunUsable d j.lun then
      let d := modPgm d fun p =>
        { p with erases := p.erases.map fun x => if x.lun = j.lun ∧ x.mpb = j.mpb then { x with issued := true } else x }
      opIssue { lun := j.lun, cls := j.cls, cop := 7, row := rowAddr d j.lun (j.mpb * profPlanes d j.lun) 0,
                flags := profPlanes d j.lun, use := .erase j.sg j.lun j.mpb } d
    else d) d

/-- Ask for the erase of superblock sbn for its next life. -/
def eraseSb (sbn cls : Nat) (d : Dev) : Dev :=
  if d.pgm.erases.any fun j => decide (j.sb = some sbn) then d
  else
    let n := d.pgm.nextJseq
    let d := jAhead 1 0xFFF sbn 0 0 d
    let d := modPgm d fun p =>
      { p with erases := p.erases ++ (sbMembers d sbn).map fun l =>
          { sg := sbn / 65536, sb := some sbn, lun := l, mpb := remapBlk d l (sbn % 65536), jseq := n, cls := cls } }
    erasePump d

/-- Ask for the erase of one block alone: a spare, or a block found ERASE_INCOMPLETE (R212). -/
def eraseBlk (sg l b cls : Nat) (d : Dev) : Dev :=
  if d.pgm.erases.any fun j => decide (j.lun = l ∧ j.mpb = b) then d
  else
    let n := d.pgm.nextJseq
    let d := jAhead 1 l b 0 0 d
    erasePump (modPgm d fun p => { p with erases := p.erases ++ [{ sg := sg, lun := l, mpb := b, jseq := n, cls := cls }] })

/-- No job of the superblock is left: it is erased for its next life. -/
def sbErased (sb : Option Nat) (d : Dev) : Dev :=
  match sb with
  | none => d
  | some s =>
    if d.pgm.erases.any fun j => decide (j.sb = some s) then d
    else
      let d := modPgm d fun p => { p with hwm := nerase p.hwm s, par := p.par.filter fun q => decide (q.1 / 65536 ≠ s) }
      let d := modSb d s fun x => { x with erased := true, openStamp := none, closeStamp := none, progTemp := none, ew := 0 }
      modRing d (s / 65536) fun r => { r with waitErase := false }

def eraseDrop (j : EraseJob) (d : Dev) : Dev :=
  sbErased j.sb (modPgm d fun p => { p with erases := p.erases.filter fun x => !decide (x.lun = j.lun ∧ x.mpb = j.mpb) })

/-! ### Retirement (R223, R238, R239) -/

/-- A LUN needs a spare and has none, or its remap table is full: it is isolated (R239). -/
def noSpare (l b : Nat) (d : Dev) : Dev := isolateLun l (eqNote 0x0D l b 5 d)

/-- The fewest spares on any present LUN, and whether one has fewer than 8 (PRM_WEAR_SPARE). -/
def spareScan (d : Dev) : Dev :=
  let ns := ((allLuns d).filter fun l => lunPresent d l).map fun l => spareCount d l
  let m := ns.foldl min 65535
  modXlt d fun x => { x with minSpares := if ns.isEmpty then 0 else m, lowSpare := ns.any (· < 8) }

/-- Retire multi-plane block b of LUN l: RETIRE with the spare chosen; `rows` units of its member hold DURABLE data, which
is copied into the spare first (R223, R461). Answers the spare. -/
def retireBlk (l b rows : Nat) (eseq : Option Nat) (d : Dev) : Option Nat × Dev :=
  let t := nget [] d.xlt.remap l
  match pickSpare d l with
  | none => (none, noSpare l b d)
  | some s =>
    if 64 ≤ t.length then (none, noSpare l b d)
    else
      let n := d.pgm.nextJseq
      let sb := sbOfBlk d l b
      let d := jAdd 5 false l b 0 s (bump d F.wearSpare_RETIRED)
      let d := modPgm d fun p => { p with retired := p.retired ++ [(l, b)], raw := p.raw ++ [(l, s)] }
      let d := when d.mode.restored (spareScan) d
      match sb, decide (rows = 0) with
      | some sbn, false =>
        let k := (sgLuns d (sbn / 65536)).findIdx fun x => decide (x = l)
        let d := modPgm d fun p => { p with copies := p.copies ++
          [{ lun := l, src := b, dst := s, sbn := sbn, member := k, rows := rows, jseq := n, eseq := eseq }] }
        (some s, eraseBlk (sbn / 65536) l s 4 d)
      | _, _ =>
        let d := modXlt d fun x => { x with remap := nset [] x.remap l (t ++ [(b, s)]) }
        (some s, eraseBlk (match sb with | some sbn => sbn / 65536 | none => 256) l s 4 d)

/-- Retirements that a pin held back take place (R223). -/
def retirePump (rows : Nat → Nat → Dev → Nat) (d : Dev) : Dev :=
  each (d.pgm.toRetire) (fun d t =>
    if pinned d t.1 t.2.1 then d
    else
      let d := modPgm d fun p => { p with toRetire := p.toRetire.filter fun x => decide (x ≠ t) }
      (retireBlk t.1 t.2.1 (rows t.1 t.2.1 d) t.2.2 d).2) d

/-! ### Erase outcomes (Table PGM-3) -/

/-- The job of a LUN's block. -/
def eraseJob (d : Dev) (l b : Nat) : Option EraseJob := d.pgm.erases.find? fun j => decide (j.lun = l ∧ j.mpb = b)

/-- Change the job of a LUN's block. -/
def modJob (l b : Nat) (f : EraseJob → EraseJob) (d : Dev) : Dev :=
  modPgm d fun p => { p with erases := p.erases.map fun x => if x.lun = l ∧ x.mpb = b then f x else x }

/-- One more erase of a block (R211, R245). -/
def eraseCount (l b : Nat) (d : Dev) : Dev :=
  modXlt d fun x => { x with erases := nset 0 x.erases (blkKey l b) (nget 0 x.erases (blkKey l b) + 1) }

/-- The block of an erase is retired: its data-less place goes to a spare, which is erased in its stead. -/
def eraseRetire (typ : Nat) (j : EraseJob) (d : Dev) : Dev :=
  let (e, d) := eqPost typ j.lun j.mpb j.eseq (eraseCount j.lun j.mpb d)
  let d := modPgm d fun p => { p with incomplete := p.incomplete.filter (· ≠ (j.lun, j.mpb)), raw := p.raw.filter (· ≠ (j.lun, j.mpb)) }
  let (s, d) := retireBlk j.lun j.mpb 0 none d
  match s with
  | some b =>
    let d := modJob j.lun b (fun x => { x with sb := j.sb, sg := j.sg, cls := j.cls }) d
    eraseDrop j (eqFin e 2 d)
  | none => eraseDrop j (eqFin e 5 d)

/-- An erase that a reset or a forced gating cut short is asked for again, with a fresh ERASE_INTENT (R212). -/
def eraseAgain (l b : Nat) (d : Dev) : Dev :=
  let n := d.pgm.nextJseq
  erasePump (modJob l b (fun x => { x with issued := false, jseq := n }) (jAhead 1 l b 0 0 d))

/-- ERASE has ended with a code of Table SEQ-8; whether the erase has ever been suspended goes into ERASE_DONE (Table PGM-4). -/
def eraseOutcome (l b : Nat) (r : OpResult) (d : Dev) : Dev :=
  match eraseJob d l b with
  | none => d
  | some j =>
    let j := { j with suspended := j.suspended || decide (0 < r.suspCnt) }
    let d := modJob l b (fun _ => j) d
    if lunIsol d l then eraseDrop j d
    else
      let fail := fun d => bump d F.pgmEcnt_FAILS
      match r.code with
      | 0 =>
        let d := eraseCount l b d
        let d := jAdd 2 j.suspended l b 0 (eraseCnt d l b) (bump d F.pgmEcnt_ERASES)
        let d := modPgm d fun p => { p with incomplete := p.incomplete.filter (· ≠ (l, b)), raw := p.raw.filter (· ≠ (l, b)) }
        let d := match j.eseq with | some e => eqFin e 3 d | none => d
        eraseDrop j d
      | 2 =>
        if j.attempts = 0 then
          let (e, d) := eqPost 7 l b j.eseq (fail d)
          erasePump (modJob l b (fun x => { x with attempts := 1, issued := false, eseq := some e }) d)
        else eraseRetire 7 j (fail d)
      | 9 =>
        let (e, d) := eqPost 5 l b j.eseq (fail d)
        if j.protects = 0 then eqAct e (false, b) (modJob l b (fun x => { x with protects := 1, eseq := some e }) d)
        else eraseDrop j (eqFin e 5 (isolateLun l d))
      | 1 => eraseRetire 6 j (fail d)
      | _ => erasePump (modJob l b (fun x => { x with issued := false }) d)

/-! ### Erases of system and hold-up blocks (R211, R225, R346) -/

/-- What the end of such an erase leads to. -/
inductive EraseNext where
  | done | again | spare | wait
  deriving DecidableEq, Repr

/-- The erase of block k of LUN l, which no job of the superblocks holds, has ended (Table PGM-3): counted, and posted where it is an
error. -/
def sysEraseEnd (l k : Nat) (o : Op) (r : OpResult) (d : Dev) : EraseNext × Dev :=
  let key := blkKey l k
  let t := nget {} d.pgm.sysTries key
  let keep := fun (t : SysTry) (d : Dev) => modPgm d fun p => { p with sysTries := nput p.sysTries key { t with op := o } }
  let drop := fun d => modPgm d fun p => { p with sysTries := nerase p.sysTries key }
  let post := fun (typ : Nat) (d : Dev) => eqPost typ l k (if t.eseq = 0 then none else some t.eseq) (bump d F.pgmEcnt_FAILS)
  if lunIsol d l then (.wait, drop d)
  else match r.code with
    | 0 => (.done, drop (eqFin t.eseq 3 (eraseCount l k (bump d F.pgmEcnt_ERASES))))
    | 1 => let (e, d) := post 6 d; (.spare, drop (eqFin e 2 (eraseCount l k d)))
    | 2 =>
      let (e, d) := post 7 d
      if t.timeouts = 0 then (.again, keep { t with timeouts := 1, eseq := e } d) else (.spare, drop (eqFin e 2 (eraseCount l k d)))
    | 9 =>
      let (e, d) := post 5 d
      if t.protects = 0 then (.wait, eqAct e (false, k) (keep { t with protects := 1, eseq := e } d))
      else (.wait, drop (eqFin e 5 (isolateLun l d)))
    | _ => (.again, d)

/-- Block k of LUN l is retired to a spare, for a system or hold-up block: the spare, where there is one. -/
def sysSpare (l k : Nat) (d : Dev) : Option Nat × Dev :=
  let t := nget [] d.xlt.remap l
  match pickSpare d l with
  | none => (none, noSpare l k d)
  | some s =>
    if 64 ≤ t.length then (none, noSpare l k d)
    else
      let d := modXlt d fun x => { x with remap := nset [] x.remap l (t ++ [(k, s)]) }
      let d := jAdd 5 false l k 0 s (bump d F.wearSpare_RETIRED)
      (some s, modPgm d fun p => { p with retired := p.retired ++ [(l, k)] })

/-- The erase of system block b has ended. -/
def sysErased (l b : Nat) (o : Op) (r : OpResult) (d : Dev) : Dev :=
  match sysEraseEnd l (remapBlk d l b) o r d with
  | (.done, d) => sysOpened l b d
  | (.again, d) => opIssue o d
  | (.wait, d) => d
  | (.spare, d) =>
    match sysSpare l (remapBlk d l b) d with
    | (some s, d) => opIssue (blkEraseOp d l s (.sysErase l b)) d
    | (none, d) => d

end Sys2Proof.Machine
end

