-- ==== Sys2Proof/Machine/Pgm.lean ====
section
/-! DEFINITION. Machine/Pgm.lean: the life of a program unit: PROG_HWM, the band, encoding, its COPs, its read-back, and what
its success and its failure do (R201 to R209, R215, R221, R222, R227, R291 to R298). -/

namespace Sys2Proof.Machine

open Sys2Proof

def getUnit (d : Dev) (u : Nat) : PUnit := nget {} d.pgm.units u
def modUnit (u : Nat) (f : PUnit → PUnit) (d : Dev) : Dev :=
  modPgm d fun p => match nfind p.units u with
    | some x => { p with units := nput p.units u (f x) }
    | none => p
def dropUnit (u : Nat) (d : Dev) : Dev := modPgm d fun p => { p with units := nerase p.units u }

/-- Pages of the unit in each of its blocks, and its sectors. -/
def unitPages (d : Dev) (x : PUnit) : Nat := if x.slc then 1 else profCell d x.lun
def unitSecs (d : Dev) (x : PUnit) : Nat := unitSectors d x.lun x.slc

/-- Row address of page q of the unit, on its first plane (R116, R201). -/
def unitRowAddr (d : Dev) (x : PUnit) (q : Nat) : Nat :=
  rowAddr d x.lun (x.mpb * profPlanes d x.lun) (if x.slc then x.row else x.row * profCell d x.lun + q)

/-- A pad sector of a unit of namespace n (Table CDC-2). -/
def padSector (d : Dev) (n : Nat) : Sector :=
  { info := { ns := n, epoch := d.ord.epoch, node := d.pins.nodeId.toNat }, data := zeros 4096 }

/-- Programs can be prepared in the mode in force. -/
def progMay (d : Dev) : Bool :=
  d.mode.mode.run || decide (d.mode.mode = .factory) || (decide (d.mode.mode = .warm) && (d.mode.restoring || d.mode.trans.isSome))

/-- A relocation, fold or collection, which waits for the band without limit (R208). -/
def isMove (x : PUnit) : Bool := match x.use with | .ring _ | .gc _ | .copy _ => true | _ => false

/-- The unit's command sectors: arrival and sector of the command. -/
def unitCmds (d : Dev) (x : PUnit) : List (Nat × Nat) :=
  if isMove x then [] else x.sectors.filterMap fun s => s.arr.map fun a => (a, s.info.lba - (getCmd d a).lba)

/-! ### Before the first COP (R207, R212, R215) -/

/-- The newest reading of the LUN's temperature that R207 takes, where it is not older than 1 s, in 1/128 °C. -/
def bandTemp (d : Dev) (l : Nat) : Option Int :=
  if profFeat d l 8 then
    match nget none d.thm.temps l with
    | some p => if d.now ≤ p.2 + ms 1000 then some (128 * p.1) else none
    | none => none
  else some (chanTemp d (chanOf l))

/-- A temperature in 1/128 °C is in the band ARCH_LO..ARCH_HI. -/
def inBand (d : Dev) (t : Int) : Bool :=
  decide (128 * sext 8 (getF d F.pgmArch_ARCH_LO) ≤ t ∧ t ≤ 128 * sext 8 (getF d F.pgmArch_ARCH_HI))

/-- The unit is copied into a spare. -/
def isCopy (x : PUnit) : Bool := match x.use with | .copy _ => true | _ => false

/-- NOT_AG in every ARCH sector of a unit (R207 step 4), and in the completions of their commands (R266). -/
def markNotAg (u : Nat) (d : Dev) : Dev :=
  let x := getUnit d u
  let d := each (unitCmds d x) (fun d c => modCmd c.1 (fun y => if nbit y.flags 4 then { y with cflags := y.cflags ||| 32 } else y) d) d
  let f := fun s : Sector => if nbit s.info.flags 0 then { s with info := { s.info with flags := s.info.flags ||| 2 } } else s
  modUnit u (fun x => { x with st := .ready, offBand := true, sectors := x.sectors.map f })
    (bump d F.pgmAcnt_NOT_AG_UNITS)

/-- The unit's band need not be tested: it carries no ARCH sector, or its programming has begun (R207). -/
def bandFree (x : PUnit) : Bool := !x.arch || x.banded || x.offBand

/-- The unit meets the band (R207): ready in it, otherwise it waits. The test is made again as its first plane page is encoded. -/
def bandEnter (u : Nat) (d : Dev) : Dev :=
  let x := getUnit d u
  if bandFree x then modUnit u (fun x => { x with st := .ready }) d
  else match bandTemp d x.lun with
    | some t =>
      if inBand d t then modUnit u (fun x => { x with st := .ready }) d
      else if getF d F.pgmArch_ARCH_WAIT = 0 ∧ !isMove x then markNotAg u d
      else modUnit u (fun x => { x with st := .waitBand, since := d.now, sinceAge := d.ageMin }) d
    | none => modUnit u (fun x => { x with st := .waitBand, since := d.now, sinceAge := d.ageMin, bandAsked := true }) d

/-- PROG_HWM covers the unit, or a new bound is queued (R215). Answers the JSEQ that it waits for. -/
def hwmCover (x : PUnit) (d : Dev) : Nat × Dev :=
  let key := sbnOf x.sg x.sb
  let ppu := if x.slc then 1 else profCell d x.lun
  let span := (getF d F.pgmVcfg_HWM_SPAN + 1) * 16
  let lead := max 1 (getF d F.pgmVcfg_HWM_LEAD)
  let n := d.pgm.nextJseq
  let raise := fun d => modPgm (jAhead 3 0xFFF key ((x.row + span) * ppu) x.ns d) fun p => { p with hwm := nput p.hwm key (x.row + span, n) }
  match nfind d.pgm.hwm key with
  | some (b, j) =>
    if x.row + lead < b then (j, d)
    else if x.row < b then (j, raise d)
    else (n, raise d)
  | none => (n, raise d)

/-- The member of the superblock is being copied into a spare: its rows follow the copy (R201, R461). -/
def copyHolds (d : Dev) (x : PUnit) : Bool :=
  !isCopy x &&
    d.pgm.copies.any fun j => decide (j.sbn = sbnOf x.sg x.sb ∧ j.lun = x.lun)

/-- Earlier rows of the same block that are not handed to the die yet: pages go in order (R201). -/
def rowsBefore (d : Dev) (u : Nat) (x : PUnit) : Bool :=
  d.pgm.units.any fun y => decide (y.1 ≠ u ∧ y.2.lun = x.lun ∧ y.2.mpb = x.mpb ∧ y.2.row < x.row) &&
    decide (y.2.st = .reading ∨ y.2.st = .filling ∨ y.2.st = .waitHwm ∨ y.2.st = .waitBand ∨ y.2.st = .ready)

/-- Take a closed unit further: the superblock erased, the spare erased, PROG_HWM written, the band (R201, R207, R212, R215). -/
def unitAdvance (u : Nat) (d : Dev) : Dev :=
  let x := getUnit d u
  if x.st ≠ .waitHwm ∨ !(progMay d || isCopy x) then d
  else if copyHolds d x then d
  else
    let sbn := sbnOf x.sg x.sb
    let mpb := match x.use with | .copy _ => x.mpb | _ => remapBlk d x.lun x.sb
    let d := modUnit u (fun x => { x with mpb := mpb }) d
    if !(getSb d sbn).erased then
      let d := modRing d x.sg fun r => { r with waitErase := true }
      eraseSb sbn x.cls d
    else if d.pgm.raw.contains (x.lun, mpb) || d.pgm.incomplete.contains (x.lun, mpb) then
      eraseBlk x.sg x.lun mpb x.cls d
    else if x.waitJ = 0 then
      let (j, d) := hwmCover x d
      let d := modUnit u (fun x => { x with waitJ := j }) d
      if jWritten d j then bandEnter u d else d
    else if jWritten d x.waitJ then bandEnter u d
    else d

/-- Every closed unit that waits is taken as far as it can go. -/
def unitPump (d : Dev) : Dev := each (d.pgm.units.map (·.1)) (fun d u => unitAdvance u d) d

/-- ARCH_BAND_POLL: a poll of the LUN's temperature for the units that wait for the band (R207, R208). -/
def bandPollDev (l : Nat) (t : BitVec 8) (d : Dev) : Dev :=
  let ws := (d.pgm.units.filter fun u => decide (u.2.lun = l ∧ u.2.st = .waitBand)).map (·.1)
  if ws.isEmpty ∨ !progMay d then d
  else if profFeat d l 8 && !canPoll d l then pollDue l true d
  else
    let d := if profFeat d l 8 then modThm d fun x => { x with temps := nset none x.temps l (some (dieTemp d l t, d.now)) } else d
    let v := if profFeat d l 8 then 128 * dieTemp d l t else chanTemp d (chanOf l)
    each ws (fun d u =>
      if inBand d v then modUnit u (fun x => { x with st := .ready }) d
      else if getF d F.pgmArch_ARCH_WAIT = 0 ∧ !isMove (getUnit d u) then markNotAg u d
      else modUnit u (fun x => { x with bandAsked := false }) d) d

/-- ARCH_BAND_POLL (R207). -/
def execArchBandPoll (lun : Nat) (temp : BitVec 8) (st : State) : Host.Outcome State Fault Refusal := onDev (bandPollDev lun temp) st

/-- ARCH_WAIT_EXPIRY: ARCH_WAIT has elapsed with the unit still waiting (R207 step 4). -/
def archWaitDev (u : Nat) (d : Dev) : Dev :=
  let x := getUnit d u
  if x.st = .waitBand ∧ !isMove x ∧ progMay d then markNotAg u d else d

/-- ARCH_WAIT_EXPIRY (R207). -/
def execArchWaitExpiry (unit : Nat) (st : State) : Host.Outcome State Fault Refusal := onDev (archWaitDev unit) st

/-- ARCH_STALL_EXPIRY: a move of ARCH data has waited ARCH_STALL hours of the age clock (R208). -/
def archStallDev (u : Nat) (d : Dev) : Dev :=
  let x := getUnit d u
  if x.st = .waitBand ∧ isMove x ∧ getF d F.pgmVcfg_ARCH_STALL ≠ 0 then setF d F.pgmStat_BAND_STALL 1 else d

/-- ARCH_STALL_EXPIRY (R208). -/
def execArchStallExpiry (unit : Nat) (st : State) : Host.Outcome State Fault Refusal := onDev (archStallDev unit) st

/-! ### Encoding and the COPs (Table PGM-1, R160, R165 to R173) -/

/-- The policy that a unit runs under: STEPPED without PULSE_STEP runs as EARLY_WARN (R203). -/
def unitPolicy (d : Dev) (x : PUnit) : Nat := if x.policy = 2 ∧ !profFeat d x.lun 7 then 1 else x.policy

/-- The pulse counts with which PROGRAM_STEP starts now (R205): BASE, and the limit BASE + EXTRA. -/
def pulseNow (d : Dev) (l : Nat) : Nat × Nat :=
  let b := max 1 (getF d F.pgmStep_BASE (profIdx d l))
  (b, b + min 8 (getF d F.pgmVcfg_EXTRA))

/-- The COP of page q (Table PGM-1). -/
def unitCop (d : Dev) (x : PUnit) (q : Nat) : Nat :=
  if unitPolicy d x = 2 ∧ q + 1 = unitPages d x then 6 else if x.slc then 5 else 4

/-- The unit's next plane page can be encoded: earlier pages have ended OK, and it is not being encoded already. -/
def encodable (d : Dev) (u : Nat) (x : PUnit) : Bool :=
  decide (x.st = .ready) && decide (x.encoded / profPlanes d x.lun = x.copsDone) && decide (x.encoded < profPlanes d x.lun * unitPages d x) &&
    !rowsBefore d u x && !lunIsol d x.lun && !(d.codec.enc.any fun e => decide (e.2 = u))

/-- The slot for the unit's next plane page, where it is free: the planes of a page stand one after another (R160, Table SEQ-3). -/
def encodeSlot (d : Dev) (x : PUnit) : Option Nat :=
  let pl := profPlanes d x.lun
  let p := x.encoded % pl
  if p = 0 then openRun d pl
  else
    let i := (x.base - slotAddr d 0) / slotBytes d + p
    if runFree d i 1 then some i else none

/-- The first by class, oldest first. -/
def firstUnit (us : List (Nat × PUnit)) : Option Nat :=
  (us.foldl (fun (b : Option (Nat × Nat)) u => match b with
    | none => some (u.1, u.2.cls)
    | some y => if u.2.cls < y.2 then some (u.1, u.2.cls) else b) none).map (·.1)

/-- Units of channel c whose next plane page could be encoded. -/
def encodeWaits (d : Dev) (c : Nat) : List (Nat × PUnit) := d.pgm.units.filter fun u => decide (chanOf u.2.lun = c) && encodable d u.1 u.2

/-- The FIFO and the place in it that sector s of unit u was drawn from, while it is held. -/
def drawnFrom (d : Dev) (u : Nat) (s : Sector) : Option (Nat × Nat × FSec) :=
  match (getUnit d u).use, s.arr with
  | .fifo k, some a =>
    ((getFifo d k).secs.find? fun x => decide (x.unit = some u ∧ x.arr = some a ∧ (getCmd d a).lba + x.idx = s.info.lba)).map fun x => (k, a, x)
  | _, _ => none

/-- The sectors of the plane page that unit x encodes next. -/
def nextSecs (d : Dev) (x : PUnit) : List Nat :=
  let pl := profPlanes d x.lun
  rangeFrom (4 * (pl * (x.encoded / pl) + x.encoded % pl)) 4

/-- The plane page that unit u encodes next is read from the FIFO: whether it waits for words that are read again. Of other poisoned
words the sectors become pad (Table MEM-2). -/
def pageHeal (u : Nat) (d : Dev) : Bool × Dev :=
  (nextSecs d (getUnit d u)).foldl (fun (r : Bool × Dev) i =>
    let d := r.2
    match ((getUnit d u).sectors[i]?).bind fun s => (drawnFrom d u s).map fun y => (s, y) with
    | none => r
    | some (s, k, a, y) =>
      if secSick (getFifo d k) y = [] then (r.1, modUnit u (fun x => { x with sectors := x.sectors.set i { s with data := secBytes (getFifo d k) y } }) d)
      else
        let (wait, d) := secHeal k (getCmd d a) y d
        if wait then (true, d) else (r.1, modUnit u (fun x => { x with sectors := x.sectors.set i { s with pad := true } }) d)) (false, d)

/-- A sector as it is encoded: a pad sector in place of one whose words are lost (R162, Table MEM-2). -/
def sectorOut (d : Dev) (x : PUnit) (i : Nat) : Sector :=
  let s := x.sectors.getD i (padSector d x.ns)
  if s.pad then padSector d x.ns else s

/-- The next unit that channel c's packer encodes. -/
def encodeNext (d : Dev) (c : Nat) : Option Nat := firstUnit ((encodeWaits d c).filter fun u => (encodeSlot d u.2).isSome)

/-- Issue the COP of page q of a unit whose plane pages are encoded (R202). -/
def unitIssue (u q : Nat) (d : Dev) : Dev :=
  let x := getUnit d u
  let cop := unitCop d x q
  let d := modUnit u (fun y => { y with pagesOut := q + 1, st := if q + 1 = unitPages d x then .programming else .ready }) d
  opIssue { lun := x.lun, cls := x.cls, cop := cop, row := unitRowAddr d x q, addr := x.base, count := pageBytes d x.lun,
            flags := profPlanes d x.lun + (if x.slc ∧ cop = 6 then 16 else 0), arg := if cop = 6 then x.pulses.2 else 0,
            use := .prog u } d

/-- The superblock's first programmed unit sets its open stamp and program temperature (R182, R188). -/
def sbFirst (x : PUnit) (d : Dev) : Dev :=
  let sbn := sbnOf x.sg x.sb
  if (getSb d sbn).openStamp.isSome then d
  else modSb d sbn fun s => { s with openStamp := some d.ageMin, progTemp := some (readTemp d x.lun) }

/-- What the start of a unit's first plane page fixes: the pulse counts (R205), STEP_FALLBACK (R203), the band (R207) and the
superblock's stamps. -/
def unitBegin (u : Nat) (d : Dev) : Dev :=
  let x := getUnit d u
  let fall := decide (x.policy = 2) && !profFeat d x.lun 7 && !x.fellBack
  let band := x.arch && !bandFree x
  let p := pulseNow d x.lun
  let d := when fall (fun d => bump d F.pgmVcnt_STEP_FALLBACK) (when band (fun d => bump d F.pgmAcnt_IN_BAND) d)
  sbFirst x (modUnit u (fun x => { x with pulses := p, fellBack := x.fellBack || fall, banded := x.banded || band }) d)

/-- An encoder that is free takes the next plane page: its slot is allocated as the encoding starts (Table CDC-1). A unit with ARCH
sectors whose temperature is not known to be in the band does not start (R207). -/
def encodeStart (c : Nat) (d : Dev) : Dev :=
  if (nfind d.codec.enc c).isSome || !progMay d then d
  else
    let late := (encodeWaits d c).filter fun u => (encodeSlot d u.2).isNone && !u.2.slotWait
    let d := when (decide (late ≠ [])) (fun d => statsUp (groupOf c) F.panWait_WAITS 0 late.length d)
      (each late (fun d u => modUnit u.1 (fun x => { x with slotWait := true }) d) d)
    match encodeNext d c with
    | none => d
    | some u =>
      let (wait, d) := pageHeal u d
      let x := getUnit d u
      if wait then d
      else if x.encoded = 0 ∧ !bandFree x ∧ !((bandTemp d x.lun).any (inBand d)) then bandEnter u d
      else
        let pl := profPlanes d x.lun
        let q := x.encoded / pl
        let p := x.encoded % pl
        let i := (encodeSlot d x).getD 0
        let base := if p = 0 then slotAddr d i else x.base
        let d := when (decide (x.encoded = 0)) (unitBegin u) d
        let row := unitRowAddr d x q + p * 2 ^ profPageShift d x.lun
        let infos := (nextSecs d x).map fun i => let s := sectorOut d x i; infoBytes s.info s.data
        let d := slotFill i (base + p * pageBytes d x.lun) (planePage d x.lun row infos) d
        modCodec (modUnit u (fun x => { x with base := base, slotWait := false }) d) fun y => { y with enc := nput y.enc c u }

/-- Every channel's encoder that is free takes what waits. -/
def encodeStarts (d : Dev) : Dev := each (List.range d.build.channels) (fun d c => encodeStart c d) d

/-- A unit's plane pages whose COP is not issued leave the pantry. -/
def unitSlotsFree (u : Nat) (d : Dev) : Dev :=
  let x := getUnit d u
  let pl := profPlanes d x.lun
  let inHand := d.codec.enc.any fun e => decide (e.2 = u)
  if !inHand && decide (x.encoded % pl = 0) then d
  else
    let as := (List.range pl).map fun p => x.base + p * pageBytes d x.lun
    modCodec d fun y => { y with slots := y.slots.filter (fun s => !(s.2.prog && as.contains s.2.addr)), enc := y.enc.filter fun e => decide (e.2 ≠ u) }

/-- ENCODE_DONE: channel c's encoder finishes the plane page in hand; with the last plane of a page, its COP is handed to the die
scheduler (R160, R173, R202). -/
def encodeDev (c : Nat) (d : Dev) : Dev :=
  if !progMay d then d
  else
    let d := encodeStart c d
    match nfind d.codec.enc c with
    | none => d
    | some u =>
      let x := getUnit d u
      let d := modCodec d fun y => { y with enc := nerase y.enc c }
      let d := modUnit u (fun x => { x with encoded := x.encoded + 1 }) d
      let pl := profPlanes d x.lun
      encodeStart c (if x.encoded % pl + 1 = pl then unitIssue u (x.encoded / pl) d else d)

/-- ENCODE_DONE (R173). -/
def execEncodeDone (ch : Nat) (st : State) : Host.Outcome State Fault Refusal := onDev (encodeDev ch) st

/-! ### Success (R206, R214, R227, R242, R292) -/

/-- A command waits on the DURABLE state of data: FUA, FLUSH or EPOCH_COMMIT (R214). -/
def durableWanted (d : Dev) : Bool :=
  d.ord.cmds.any fun c => decide (c.2.st = .running ∨ c.2.st = .finished) &&
    (nbit c.2.flags 1 && decide (c.2.opc = 2 ∨ c.2.opc = 3) || decide (c.2.opc = 4 ∨ c.2.opc = 0x21)) && !c.2.durable

/-- Change the map entry of a sector of a RANDOM namespace, and the valid counts with it (R242 to R244). -/
def mapSet (n lba v wseq : Nat) (d : Dev) : Dev :=
  let ns := getNs d n
  let old := mapGet d n lba
  let dec := fun d => match psnPlace d ns old with
    | some p => if old = unmapped then d else modSb d p.1 fun s => { s with valid := s.valid - 1 }
    | none => d
  let inc := fun d => match psnPlace d ns v with
    | some p => if v = unmapped then d else modSb d p.1 fun s => { s with valid := s.valid + 1 }
    | none => d
  let d := lineSet n lba v (inc (dec d))
  modXlt d fun x =>
    { x with map := nset unmapped x.map (mapKey n lba) v, mapSeq := nset 0 x.mapSeq (mapKey n lba) wseq,
             lost := x.lost.filter (· ≠ (n, lba)),
             dirtySegs := if x.dirtySegs.contains (n, lba / 16384) then x.dirtySegs else x.dirtySegs ++ [(n, lba / 16384)] }

/-- The map follows a RANDOM unit that has succeeded: a write where no newer change stands, a move where the entry still
names the sector's old place (R243, R285, R292). -/
def unitMap (x : PUnit) (d : Dev) : Dev :=
  let ns := getNs d x.ns
  if !ns.random then d
  else
    each (x.sectors.zipIdx) (fun d p =>
      let (s, i) := p
      if s.info.kind ≠ 0 then d
      else
        let psn := psnUnit d ns (sbnOf x.sg x.sb) x.member x.row i
        match x.use with
        | .gc _ => if some (mapGet d x.ns s.info.lba) = s.arr then mapSet x.ns s.info.lba psn s.info.wseq d else d
        | .copy _ => d
        | _ => if nget 0 d.xlt.mapSeq (mapKey x.ns s.info.lba) ≤ s.info.wseq then mapSet x.ns s.info.lba psn s.info.wseq d else d) d

/-- XOR of the user bytes of sectors. -/
def xorBytes (a b : List Byte) : List Byte := List.zipWith (· ^^^ ·) a b

/-- A data unit joins the parity of its row; with the row's last one, the parity unit is made (R227). -/
def parityAdd (x : PUnit) (d : Dev) : Dev :=
  let ns := getNs d x.ns
  if parOf ns = 0 ∨ x.use = .parity ∨ isCopy x then d
  else
    let key := sbnOf x.sg x.sb * 65536 + x.row
    let a := nget {} d.pgm.par key
    let data := x.sectors.map (·.data)
    let a : ParAcc := { units := a.units + 1, sectors := if a.units = 0 then data else List.zipWith xorBytes a.sectors data }
    let sk := (getSb d (sbnOf x.sg x.sb)).skip
    let ms := if ns.random then List.range ns.width else (List.range ns.width).filter fun k => !(getZone d x.ns x.zone).skipped.contains k
    let pm := ms.getD (x.row % ms.length) 0
    let need := (ms.filter fun k => decide (k ≠ pm) && !(ns.random && sk.contains k)).length
    if a.units < need then modPgm d fun p => { p with par := nput p.par key a }
    else if ns.random && sk.contains pm then modPgm d fun p => { p with par := nerase p.par key }
    else
      let g := (ns.groups.find? fun g => decide (g.sg = x.sg)).getD {}
      let l := g.f + g.d * pm
      let u : PUnit := { use := .parity, cls := x.cls, ns := x.ns, sg := x.sg, sb := x.sb, member := pm, row := x.row, lun := l,
                         mpb := remapBlk d l x.sb, slc := x.slc, policy := x.policy, zone := x.zone, st := .waitHwm,
                         sectors := a.sectors.map fun b => { info := { lba := x.row, ns := x.ns, kind := 2, node := d.pins.nodeId.toNat }, data := b } }
      modPgm d fun p => { p with par := nerase p.par key, units := nput p.units p.nextUnit u, nextUnit := p.nextUnit + 1 }

/-- Recoveries of FIFO k whose redrawn words have all succeeded end RELOCATED (R295, Table ORD-6). -/
def recovCheck (k : Nat) (d : Dev) : Dev :=
  let f := getFifo d k
  let ok := fun w => f.secs.all fun s => decide (w < s.stop) || (match s.unit with
    | some u => match nfind d.pgm.units u with
      | some x => decide (x.st = .done)
      | none => true
    | none => match s.arr with | some a => (getCmd d a).discard | none => true)
  let fin := f.recov.filter fun r => ok r.2
  let d := each fin (fun d r => eqFin r.1 1 d) d
  modFifo k (fun f => { f with recov := f.recov.filter fun r => !fin.contains r, rewinding := decide ((f.recov.filter fun r => !fin.contains r) ≠ []) }) d

/-- The unit has succeeded (R202, R206, R214): PROG_DONE, RELEASE of its FIFO space, the map and the parity. -/
def unitOk (u : Nat) (d : Dev) : Dev :=
  let x := getUnit d u
  let d := modXlt (bump d F.pgmPcnt_UNITS) fun y => { y with progSecs := y.progSecs + unitSecs d x }
  let n := d.pgm.nextJseq
  let d := jAdd 4 false x.lun x.mpb ((x.row + 1) * (if x.slc then 1 else profCell d x.lun)) x.ns d
  let d := modUnit u (fun x => { x with st := .done, jseqDone := some n }) d
  let d := parityAdd x (unitMap x d)
  let d := match x.eseq with | some e => eqFin e (if x.again then 3 else 1) d | none => d
  let d := match x.use with
    | .fifo k => recovCheck k (hsend (groupOf (chanOf x.lun)) 1 (.release u true) d)
    | _ => d
  let d := when (durableWanted d) (jForce n) d
  unitPump d

/-! ### Failure (R221, R222, R291, R292, R295) -/

/-- The unit has left nothing on its way: it may be forgotten once nothing refers to it. -/
def unitIdle (x : PUnit) : Bool := decide (x.pagesOut ≤ x.copsDone) && decide (x.readsLeft = 0)

/-- A unit is abandoned: its COPs run to END and are disregarded, its pages count as pad (R222). -/
def abandon (u : Nat) (d : Dev) : Dev :=
  let x := getUnit d u
  let d := unitSlotsFree u d
  if unitIdle x ∨ x.st = .reading then dropUnit u d else modUnit u (fun x => { x with st := .abandoned }) d

/-- Zone sector number of a command's sector. -/
def zoneSecOf (d : Dev) (c : Cmd) (i : Nat) : Nat := c.lba % zsze d (getNs d c.ns) + i

/-- FIFO k rewinds after a failure of unit u (R222, R327): RD goes to MARK. Units of RANDOM streams, and those of the failed
block, are abandoned; a later ZONED unit keeps its copy, since its place cannot be programmed twice. -/
def fifoRewind (k u : Nat) (d : Dev) : Dev :=
  let fx := getUnit d u
  let gone := fun (v : Nat) (x : PUnit) =>
    decide (v = u) || (getNs d x.ns).random || decide (x.lun = fx.lun ∧ x.mpb = fx.mpb) ||
      decide (x.st = .filling ∨ x.st = .waitHwm ∨ x.st = .waitBand) || decide (x.st = .ready ∧ x.encoded = 0)
  let out := (d.pgm.units.filter fun p => decide (p.2.use = .fifo k) && !p.2.released && gone p.1 p.2).map (·.1)
  let f := getFifo d k
  let back := f.secs.filter fun s => !s.rel && match s.unit with | some v => out.contains v | none => false
  let d := each back (fun d s =>
    match s.arr with
    | none => d
    | some a =>
      let c := getCmd d a
      let ns := getNs d c.ns
      if ns.random then d
      else modZone d c.ns (c.lba / zsze d ns) fun z => { z with drawn := min z.drawn (zoneSecOf d c s.idx) }) d
  let d := each out (fun d v => if v = u then modUnit v (fun x => { x with st := .failed }) d else abandon v d) d
  let d := each ((d.pgm.units.filter fun p => decide (p.2.use = .fifo k) && !p.2.released).map (·.1)) (fun d v => modUnit v (fun x => { x with kept := true }) d) d
  let d := modFifo k (fun f =>
    { f with secs := f.secs.map (fun s => if s.rel then s else match s.unit with
        | some v => if out.contains v then { s with unit := none } else s
        | none => s), rd := f.mark, rewinding := true }) d
  fifoReport k none (bump d F.fifoCnt_REWINDS k)

/-- Rows of a block's member that hold units before row r, for the copy into its spare. -/
def rowsOf (d : Dev) (l b : Nat) : Nat :=
  let us := d.pgm.units.filter fun u => decide (u.2.lun = l ∧ u.2.mpb = b) && decide (u.2.st = .done)
  match sbOfBlk d l b with
  | none => 0
  | some sbn =>
    let fromUnits := (us.map fun u => u.2.row + 1).foldl max 0
    match zoneOfSb d sbn with
    | some (n, z) =>
      let zn := getZone d n z
      let u := max 1 (unitSectors d l zn.slc)
      let w := max 1 ((zoneMembers d n (getNs d n) z).length - parOf (getNs d n))
      max fromUnits (match zn.st with | .empty => 0 | .open_ => zn.drawn / u / w | .full => ceilDiv (ceilDiv zn.wp u) w)
    | none =>
      let s := getSb d sbn
      let w := max 1 ((sgLuns d (sbn / 65536)).length - 1)
      max fromUnits (if s.pool = 0 then 0 else if s.pool = 2 then blkRows d l else s.nextUnit / w)

/-- The unit starts over at its place (PROTECT, DEFERRED, or after a copy into a spare). -/
def unitAgain (u q : Nat) (d : Dev) : Dev :=
  modUnit u (fun x => { x with st := .ready, encoded := q * profPlanes d x.lun, copsDone := q, pagesOut := q, readsLeft := 0, bad := false })
    (unitSlotsFree u d)

/-- The copy of a block into a spare, of which unit u was the row in hand, starts again in spare b; its error entry is e (R201, R223). -/
def copyAgain (u b e : Nat) (d : Dev) : Dev :=
  modPgm d fun p =>
    { p with copies := p.copies.map fun y =>
        if y.unit = some u then { y with dst := b, next := 0, unit := none, eseq := if e = 0 then y.eseq else some e } else y }

/-- The unit has failed with an error of Table ORD-5: posted, its block retired where Table PGM-7 says so, its data drawn
again or placed anew (R221, R222, R292). -/
def unitFail (u typ : Nat) (retire : Bool) (d : Dev) : Dev :=
  let x := getUnit d u
  let d := bump (unitSlotsFree u d) F.pgmPcnt_FAILS
  let d := when (decide (typ = 2)) (fun d => setF d F.pgmStat_VERIFY_FAIL 1) d
  let d := when (decide (typ = 3)) (fun d => setF d F.pgmStat_PULSE_LIMIT 1) d
  let parent := match x.use with
    | .fifo k => ((getFifo d k).recov.getLast?.map (·.1)).orElse fun _ => x.eseq
    | _ => x.eseq
  let (e, d) := if typ = 0 then (x.eseq.getD 0, d) else eqPost typ x.lun x.mpb parent d
  let rows := min x.row (rowsOf d x.lun x.mpb)
  let d := if !retire then d
    else if d.pgm.retired.contains (x.lun, x.mpb) then d
    else if pinned d x.lun x.mpb && (getNs d x.ns).random then modPgm d fun p => { p with toRetire := p.toRetire ++ [(x.lun, x.mpb, none)] }
    else
      let (spare, d) := retireBlk x.lun x.mpb rows none d
      match spare with
      | some b => when (isCopy x) (copyAgain u b e) d
      | none => d
  let d := if (getNs d x.ns).random then modSb d (sbnOf x.sg x.sb) fun s =>
      { s with skip := if s.skip.contains x.member then s.skip else s.skip ++ [x.member] } else d
  if x.dead ∨ (isCopy x ∧ retire = true) then abandon u d
  else match x.use with
    | .fifo k =>
      let top := ((getFifo d k).secs.filter fun s => s.unit.isSome).foldl (fun m s => max m s.stop) 0
      let d := modFifo k (fun f => { f with recov := (f.recov.filter fun r => some r.1 ≠ parent) ++ (if e = 0 then [] else [(e, top)]) }) d
      unitPump (fifoRewind k u d)
    | _ =>
      if (getNs d x.ns).random ∧ x.use ≠ .parity ∧ !isCopy x then
        modUnit u (fun x => { x with st := .failed, eseq := if e = 0 then none else some e }) d
      else
        unitPump (modUnit u (fun x =>
          { x with st := .waitHwm, encoded := 0, copsDone := 0, pagesOut := 0, readsLeft := 0, bad := false, waitJ := 0,
                   attempts := x.attempts + 1, eseq := if e = 0 then none else some e }) d)

/-! ### Isolation (R297, R298) -/

/-- Custody data of a ZONED unit that no parity carries is lost: released, and a command that needs it DURABLE completes
DATA_LOST (Table ORD-7). -/
def unitLost (u : Nat) (d : Dev) : Dev :=
  let x := getUnit d u
  let cs := unitCmds d x
  let d := each cs (fun d c =>
    let d := modXlt d fun y => { y with lost := if y.lost.contains (x.ns, (getCmd d c.1).lba + c.2) then y.lost else y.lost ++ [(x.ns, (getCmd d c.1).lba + c.2)] }
    modCmd c.1 (fun y => { y with dur := nput y.dur c.2 true, status := if nbit y.flags 1 ∧ y.st ≠ .released then 0x12 else y.status }) d) d
  let arrs := cs.map (·.1)
  let d := each (d.ord.cmds.filter fun c => decide (c.2.opc = 4 ∨ c.2.opc = 0x21) && decide (c.2.st ≠ .released) &&
      (arrs.any fun a => decide (a < c.1) && (decide (c.2.ns = x.ns ∨ c.2.ns = 0xFF) || decide (c.2.opc = 0x21)))) (fun d c =>
    modCmd c.1 (fun y => { y with status := 0x12 }) d) d
  match x.use with
  | .fifo k => abandon u (fifoRelease k u (modUnit u (fun x => { x with released := true }) d))
  | _ => abandon u d

/-- A unit of a ring's relocation whose member is isolated is passed: it is not programmed, and the row's parity carries it where
there is one (R233, R239). -/
def ringPass (sg u : Nat) (d : Dev) : Dev :=
  let d := abandon u (parityAdd (getUnit d u) d)
  modRing d sg fun q => { q with reloc := q.reloc.map fun r => if r.cur = some u then { r with cur := none, unit := r.unit + 1 } else r }

/-- A parity unit that is not programmed: what it was to carry is lost (Table ORD-7). -/
def parityLost (u : Nat) (d : Dev) : Dev :=
  let x := getUnit d u
  let carried := (d.pgm.units.filter fun p => p.2.viaParity && decide (p.2.sg = x.sg ∧ p.2.sb = x.sb ∧ p.2.row = x.row)).map (·.1)
  abandon u (each carried (fun d v => unitLost v d) d)

/-- The copy into a spare of which u is the row in hand is given up with its LUN (R239). -/
def copyLost (u : Nat) (d : Dev) : Dev :=
  abandon u (modPgm d fun p => { p with copies := p.copies.filter fun y => decide (y.unit ≠ some u) })

/-- Units of isolated LUNs that are not programmed: RANDOM data goes elsewhere, ZONED data is carried by the parity or lost, and
copies move only the surviving members (R239, R298). -/
def isolSweep (d : Dev) : Dev :=
  each (d.pgm.units.filter fun u => lunIsol d u.2.lun && !decide (u.2.st = .done ∨ u.2.st = .abandoned ∨ u.2.st = .failed) && !u.2.viaParity) (fun d p =>
    let (u, x) := p
    if (nfind d.pgm.units u).isNone then d
    else match x.use with
      | .copy _ => copyLost u d
      | .parity => parityLost u d
      | .ring sg => if x.st = .reading then d else ringPass sg u d
      | .fifo _ =>
        if (getNs d x.ns).random then unitFail u 0 false d
        else if x.st = .filling then d
        else if parOf (getNs d x.ns) = 1 then
          parityAdd x (modUnit u (fun x => { x with viaParity := true, st := .done, copsDone := 0, pagesOut := 0 }) (unitSlotsFree u d))
        else unitLost u d
      | _ =>
        if (getNs d x.ns).random then unitFail u 0 false d
        else if x.st = .filling then d
        else abandon u (parityAdd x d)) d

/-! ### COP and read-back outcomes (R202 to R205, Table PGM-7) -/

/-- Sector of the unit that codeword i of a read-back brings. -/
def readbackSec (o : Op) (i : Nat) : Nat := if o.sample then 4 * (o.arg + i) + (o.arg + i) % 4 else 4 * o.arg + i

/-- Issue the read-back of a unit: a READ_MULTI or READ_PAGE for each page, of which SAMPLE takes codeword (q mod 4) of plane page q
alone (R204). DESIGN CHOICE (log 102): the column of a sampled READ_MULTI moves on by one codeword with each plane. -/
def readbackIssue (u : Nat) (d : Dev) : Dev :=
  let x := getUnit d u
  let pl := profPlanes d x.lun
  let cw := cwBytes d x.lun
  let smp := isSet d F.pgmVcfg_SAMPLE
  let ops : List Op := (List.range (unitPages d x)).map fun q =>
    { lun := x.lun, cls := x.cls, cop := if pl = 1 then 0 else 1, col := if smp then pl * q % 4 * cw else 0, row := unitRowAddr d x q,
      count := if smp then cw else 4 * cw, flags := b2n x.slc * 16 + (if pl = 1 then 0 else pl), arg := pl * q, sample := smp,
      use := .readback u, pred := true }
  let d := modUnit u (fun x => { x with st := .readback, readsLeft := ops.length }) d
  each ops (fun d o => opIssue o d) d

/-- A COP of a unit has ended (R202, Table PGM-7). -/
def unitCopEnd (u : Nat) (o : Op) (r : OpResult) (d : Dev) : Dev :=
  match nfind d.pgm.units u with
  | none => d
  | some x =>
    let d := modUnit u (fun x => { x with copsDone := x.copsDone + 1 }) d
    let x := { x with copsDone := x.copsDone + 1 }
    if x.st = .abandoned ∨ x.st = .failed then
      if x.pagesOut ≤ x.copsDone then dropUnit u d else d
    else if x.viaParity then d
    else if lunIsol d x.lun then isolSweep d
    else
      let d := if o.cop = 6 then bump d F.pgmPulse_PULSES_EXTRA 0 (r.vr.toNat - x.pulses.1) else d
      match r.code with
      | 0 =>
        if x.copsDone < unitPages d x then d
        else if unitPolicy d x = 0 then unitOk u d
        else readbackIssue u d
      | 4 => unitAgain u (x.copsDone - 1) d
      | 2 => unitFail u 4 true d
      | 9 =>
        let (e, d) := eqPost 5 x.lun x.mpb x.eseq d
        if x.again then
          let d := isolateLun x.lun (eqFin e 5 d)
          isolSweep (modUnit u (fun x => { x with again := false, st := .ready, encoded := 0, copsDone := 0, pagesOut := 0, eseq := none }) d)
        else eqAct e (true, u) (modUnit u (fun x => { x with again := true, eseq := some e, st := .programming }) d)
      | 3 | 7 | 8 => unitAgain u (x.copsDone - 1) d
      | _ => unitFail u (if o.cop = 6 ∧ o.arg ≤ r.vr.toNat then 3 else 1) true d

/-- A read of a unit's read-back has ended (R204). -/
def readbackEnd (u : Nat) (o : Op) (r : OpResult) (d : Dev) : Dev :=
  match nfind d.pgm.units u with
  | none => d
  | some x =>
    let good := decide (r.code = 0) && decide (r.outcomes ≠ []) && r.outcomes.all (· = 16)
    if r.outcomes.contains 5 then d
    else
    let d := modUnit u (fun x => { x with readsLeft := x.readsLeft - 1, bad := x.bad || !good }) d
    let d := each (if isMove x then [] else r.early.filterMap fun i => (x.sectors.getD (readbackSec o i) {}).arr) (fun d a =>
      modCmd a (fun c => { c with cflags := c.cflags ||| 4 }) d) d
    if x.st ≠ .readback then (if x.readsLeft ≤ 1 ∧ (x.st = .abandoned ∨ x.st = .failed) then dropUnit u d else d)
    else if 1 < x.readsLeft then d
    else
      let d := bump d F.pgmVcnt_READS
      if x.bad || !good then unitFail u 2 true d else unitOk u d

/-- RESET_LUN of an action in place has ended (R294): the attempt follows, or the LUN is isolated where it stays busy. -/
def inPlaceEnd (eseq code : Nat) (d : Dev) : Dev :=
  match d.ord.eq.find? (fun e => decide (e.eseq = eseq)) with
  | none => d
  | some e =>
    if code = 2 then isolSweep (isolateLun e.lun (eqFin eseq 5 d))
    else match e.act with
      | some (true, u) => unitAgain u 0 d
      | some (false, b) =>
        match eraseJob d e.lun b, nfind d.pgm.sysTries (blkKey e.lun b) with
        | none, some t => opIssue t.op d
        | _, _ => erasePump (modJob e.lun b (fun x => { x with issued := false }) d)
      | none => d

/-! ### Journal pages written (R214, R216, R217, R220) -/

/-- A unit's PROG_DONE is in a written page, or its parity unit is DURABLE: its data is DURABLE. -/
def unitDurable (u : Nat) (d : Dev) : Dev :=
  let x := getUnit d u
  let d := modUnit u (fun x => { x with durable := true }) d
  let d := match x.use with
    | .gc _ => d
    | _ => each (unitCmds d x) (fun d c => modCmd c.1 (fun y => { y with dur := nput y.dur c.2 true }) d) d
  match x.use with
  | .fifo _ => if x.released then dropUnit u d else d
  | .parity =>
    let d := each (d.pgm.units.filter fun p => p.2.viaParity && decide (p.2.sg = x.sg ∧ p.2.sb = x.sb ∧ p.2.row = x.row)) (fun d p =>
      let d := each (unitCmds d p.2) (fun d c => modCmd c.1 (fun y => { y with dur := nput y.dur c.2 true }) d) d
      match p.2.use with
      | .fifo _ => hsend (groupOf (chanOf p.2.lun)) 1 (.release p.1 true) (modUnit p.1 (fun y => { y with durable := true, viaParity := false }) d)
      | _ => d) d
    dropUnit u d
  | .copy _ | .restore => dropUnit u d
  | _ => d

/-- Entries up to `written` are on the medium: what waited on them proceeds. -/
def jSettle (d : Dev) : Dev :=
  let w := d.pgm.written
  let d := each (d.pgm.units.filter fun p => decide (p.2.st = .done) && !p.2.durable && match p.2.jseqDone with | some n => decide (n ≤ w) | none => false)
    (fun d p => unitDurable p.1 d) d
  let done := d.pgm.settling.filter fun p => decide (p.2 ≤ w)
  let d := each done (fun d p =>
    modXlt (modPgm d fun q => { q with settling := nerase q.settling p.1 }) fun x => { x with indet := nset false x.indet p.1 false }) d
  let d := match d.pgm.ckptPending with
    | some n => if n ≤ w then modPgm d fun p => { p with ckptPending := none, ckptDone := p.ckptAsm, ckptJseq := n } else d
    | none => d
  unitPump (erasePump (ckptPump (jPump d)))

/-- A copy of a system page has ended (R217, R225). -/
def sysPageEnd (i copy code : Nat) (d : Dev) : Dev :=
  match nfind d.pgm.pages i with
  | none => d
  | some pg =>
    let pg := { pg with oks := nput pg.oks copy (decide (code = 0)) }
    let d := modPgm d fun p => { p with pages := nput p.pages i pg }
    if pg.kind = .directory then modPgm d fun p => { p with pages := nerase p.pages i }
    else if pg.carry then
      let d := modPgm d fun p => { p with pages := if code = 0 then nerase p.pages i else nput p.pages i { pg with oks := [], wait := [0] } }
      if code = 0 then each pg.luns (fun d l => dirIssue l d) d else d
    else if pg.oks.length < 2 then d
    else
      let ok := pg.oks.all (·.2)
      let d := modPgm d fun p => { p with pages := nerase p.pages i }
      if !ok then sysIssue pg.kind pg.entries pg.upTo d
      else
        let d := each pg.luns (fun d l => dirIssue l d) d
        match pg.kind with
        | .journal =>
          let n := match pg.entries.getLast? with | some e => e.jseq | none => d.pgm.written
          let l := pg.luns.getD 0 0
          let g := getLog d l
          let d := modRet d fun r => { r with jrnlValid := true, jrnlLun := l, jrnlBlock := g.recBlk, jrnlPage := g.recPage.getD 1 - 1, jrnlSeq := n }
          jSettle (setF (modPgm d fun p => { p with written := n }) F.pgmJrnl_JSEQ (n % 2 ^ 32))
        | .checkpoint =>
          let n := d.pgm.nextJseq
          jAhead 7 0xFFF 0 0 0 (modPgm d fun p => { p with ckptPending := some n })
        | .mapSegs ns => ckptPump (modPgm (modXlt d fun x => { x with mapDone := nput x.mapDone ns pg.upTo }) fun p => { p with ckptWanted := true })
        | _ => d

/-- RECOVER of a LUN has ended (R136, R220). -/
def recoverEnd (l : Nat) (r : OpResult) (d : Dev) : Dev :=
  if r.code = 0 then
    let n := d.pgm.nextJseq
    let d := jAdd 6 false l 0 0 r.vr.toNat d
    schedChoose l (modPgm d fun p => { p with settling := nput p.settling l n })
  else if r.code = 2 then isolSweep (isolateLun l (eqNote 8 l 0 5 d))
  else opIssue { lun := l, cls := 1, cop := 18, use := .recover } d

end Sys2Proof.Machine
end

