-- ==== Sys2Proof/Machine/Pack.lean ====
section
/-! DEFINITION. Machine/Pack.lean: the packer (R165, R173, R201, R227, R288, R325, R471): drawing sectors into program units, pad,
and the opening and closing of superblocks of RANDOM pools (R242, R243). -/

namespace Sys2Proof.Machine

open Sys2Proof

/-- Sectors of a command that no unit has drawn, in FIFO k. -/
def undrawn (f : Fifo) (arr : Nat) : List FSec := f.secs.filter fun s => decide (s.arr = some arr) && s.unit.isNone && !s.rel

/-- A FLUSH or EPOCH_COMMIT that has arrived waits for command `arr` to be DURABLE (R274, R275, R289). -/
def flushWants (d : Dev) (arr : Nat) (c : Cmd) : Bool :=
  d.ord.cmds.any fun q => decide (q.2.st = .running) &&
    ((decide (q.2.opc = 4 ∧ arr < q.1) && decide (q.2.ns = c.ns ∨ q.2.ns = 0xFF)) ||
      (decide (q.2.opc = 0x21) && decide ((q.2.arg0 + 2 ^ 32 - c.epoch) % 2 ^ 32 < 2 ^ 31)))

/-- The unit closes (R165): the rest of it is pad; whether it is archival is settled, and it goes on. -/
def unitClose (u : Nat) (d : Dev) : Dev :=
  let x := getUnit d u
  if x.st ≠ .filling ∧ x.st ≠ .reading then d
  else
    let n := unitSecs d x
    let ss := x.sectors ++ List.replicate (n - x.sectors.length) (padSector d x.ns)
    unitPump (modUnit u (fun x => { x with sectors := ss, st := .waitHwm, arch := ss.any fun s => nbit s.info.flags 0 }) d)

/-! ### RANDOM pools (R242, R243) -/

/-- Superblocks of a RANDOM pool. -/
def poolSbs (ns : NsSec) : List Nat := ns.groups.flatMap fun g => (rangeFrom g.blo (g.bhi + 1 - g.blo)).map fun m => sbnOf g.sg m

/-- The erase count of a superblock: the highest among its members' blocks (R243). -/
def sbErases (d : Dev) (sbn : Nat) : Nat :=
  ((sgLuns d (sbn / 65536)).map fun l => eraseCnt d l (remapBlk d l (sbn % 65536))).foldl max 0

/-- The free superblock with the lowest erase count, the lower SBN on a tie (R243). -/
def freeSb (d : Dev) (ns : NsSec) : Option Nat :=
  ((poolSbs ns).filter fun s => decide ((getSb d s).pool = 0)).foldl (fun (b : Option Nat) s => match b with
    | none => some s
    | some x => if sbErases d s < sbErases d x then some s else b) none

/-- Data units of a superblock. -/
def sbUnits (d : Dev) (ns : NsSec) (sbn : Nat) : Nat :=
  (ns.width - parOf ns) * blkRows d ((sgLuns d (sbn / 65536)).getD 0 0)

/-- The next unit index of an open superblock that is on a member not skipped. -/
def nextUnitIdx (d : Dev) (ns : NsSec) (sbn : Nat) : Nat → Nat → Option Nat
  | 0, _ => none
  | fuel + 1, i =>
    if sbUnits d ns sbn ≤ i then none
    else
      let (k, _, _) := placeSec ns.width (parOf ns) 1 i
      let l := (sgLuns d (sbn / 65536)).getD k 0
      if (getSb d sbn).skip.contains k || lunIsol d l then nextUnitIdx d ns sbn fuel (i + 1) else some i

/-- The open superblock of a RANDOM stream with its next unit index; a full one closes and the next one is opened. -/
def randomOpen (n key : Nat) : Nat → Dev → Option (Nat × Nat) × Dev
  | 0, d => (none, d)
  | fuel + 1, d =>
    let ns := getNs d n
    match nget none d.xlt.openSb key with
    | some sbn =>
      match nextUnitIdx d ns sbn 65536 (getSb d sbn).nextUnit with
      | some i => (some (sbn, i), d)
      | none =>
        let d := modSb d sbn fun s => { s with pool := 2, closeStamp := some d.ageMin }
        randomOpen n key fuel (modXlt d fun x => { x with openSb := nset none x.openSb key none })
    | none =>
      match freeSb d ns with
      | none => (none, d)
      | some sbn =>
        let skip := (List.range ns.width).filter fun k => lunIsol d ((sgLuns d (sbn / 65536)).getD k 0)
        let d := modSb d sbn fun s => { s with pool := 1, nextUnit := 0, skip := skip, slc := false, erased := false }
        randomOpen n key fuel (modXlt d fun x => { x with openSb := nset none x.openSb key (some sbn) })

/-- Open a unit in a RANDOM stream for data of kind `use` (key 4·ns + class; the stream of collections is class 4). -/
def randomUnit (n key cls : Nat) (use : UnitFor) (d : Dev) : Option Nat × Dev :=
  match randomOpen n key 4 d with
  | (none, d) => (none, when (decide (cls = 0)) (lapse 7) d)
  | (some (sbn, i), d) =>
    let ns := getNs d n
    let (k, row, _) := placeSec ns.width (parOf ns) 1 i
    let l := (sgLuns d (sbn / 65536)).getD k 0
    let u := d.pgm.nextUnit
    let x : PUnit := { use := use, cls := cls, ns := n, sg := sbn / 65536, sb := sbn % 65536, member := k, row := row, lun := l,
                       mpb := remapBlk d l (sbn % 65536), policy := if ns.verify = 3 then 1 else ns.verify, st := .filling, first := i }
    let d := modPgm d fun p => { p with units := nput p.units u x, nextUnit := u + 1 }
    (some u, modSb d sbn fun s => { s with nextUnit := i + 1 })

/-! ### ZONED streams (R227, R288, R471) -/

/-- The filling unit of a zone at unit index i, where one stands. -/
def zoneFilling (d : Dev) (n z i : Nat) : Option Nat :=
  (d.pgm.units.find? fun u => decide (u.2.ns = n ∧ u.2.zone = z ∧ u.2.first = i ∧ u.2.st = .filling) && !(getNs d n).random).map (·.1)

/-- Open the unit of zone z that holds sector s. -/
def zoneUnit (n z s cls : Nat) (use : UnitFor) (d : Dev) : Nat × Dev :=
  let ns := getNs d n
  let g := zoneRow ns z
  let zn := getZone d n z
  let ms := zoneMembers d n ns z
  let u0 := zoneU d n ns z
  let (k, row, _) := placeSec ms.length (parOf ns) u0 s
  let l := ms.getD k g.f
  let m := g.blo + zonePos d ns z
  let u := d.pgm.nextUnit
  let x : PUnit := { use := use, cls := cls, ns := n, sg := g.sg, sb := m, member := (l - g.f) / max 1 g.d, row := row, lun := l,
                     mpb := remapBlk d l m, slc := zn.slc, policy := zn.policy, st := .filling, first := s / u0, zone := z }
  let d := modSb d (sbnOf g.sg m) fun x => { x with slc := zn.slc }
  (u, modPgm d fun p => { p with units := nput p.units u x, nextUnit := u + 1 })

/-- Draw what needs no data: pad that stands at the zone's draw position, and units that a rewind has passed over. -/
def zonePads (n z cls : Nat) : Nat → Dev → Dev
  | 0, d => d
  | fuel + 1, d =>
    let ns := getNs d n
    let zn := getZone d n z
    let u0 := zoneU d n ns z
    match zn.pads.find? (fun p => decide (p.1 ≤ zn.drawn ∧ zn.drawn < p.1 + p.2)) with
    | some p =>
      let (u, d) := match zoneFilling d n z (zn.drawn / u0) with
        | some u => (u, d)
        | none => zoneUnit n z zn.drawn cls .restore d
      let m := min (p.1 + p.2 - zn.drawn) (u0 - zn.drawn % u0)
      let d := modZone d n z fun x => { x with drawn := x.drawn + m }
      let d := modUnit u (fun x => { x with sectors := x.sectors ++ List.replicate m (padSector d n) }) d
      zonePads n z cls fuel (if (zn.drawn + m) % u0 = 0 then unitClose u d else d)
    | none =>
      match d.pgm.units.find? (fun u => decide (u.2.ns = n ∧ u.2.zone = z ∧ u.2.first * u0 = zn.drawn) && u.2.kept &&
          decide (u.2.st = .programming ∨ u.2.st = .readback ∨ u.2.st = .done ∨ u.2.st = .ready)) with
      | some _ => zonePads n z cls fuel (modZone d n z fun x => { x with drawn := x.drawn + u0 })
      | none => d

/-- The zone's last sector has been drawn: its superblock closes (R182). -/
def zoneClosed (n z : Nat) (d : Dev) : Dev :=
  let ns := getNs d n
  let zn := getZone d n z
  if zn.st = .full ∧ zn.wp ≤ zn.drawn then modSb d (zoneSb d ns z) fun s => { s with closeStamp := some (s.closeStamp.getD d.ageMin) } else d

/-! ### Drawing (R325) -/

/-- The first sector in FIFO k, from RD on, that its stream can take now. -/
def drawNext (d : Dev) (want : Cmd → Bool) (f : Fifo) : Option (FSec × Nat × Cmd) :=
  f.secs.findSome? fun s =>
    if s.unit.isSome || s.rel then none
    else match s.arr with
      | none => none
      | some a =>
        let c := getCmd d a
        let ns := getNs d c.ns
        if c.discard || !want c then none
        else
          let have_ := (undrawn f a).length
          let whole := decide (c.need ≤ c.accepted) || decide (0 < packetsFrom f s.first)
          if ns.random then
            let room := match d.pgm.units.find? (fun u => decide (u.2.st = .filling ∧ u.2.ns = c.ns ∧ u.2.cls = c.cls)) with
              | some u => unitSecs d u.2 - u.2.sectors.length
              | none => unitSectors d ((ns.groups.headD {}).f) false
            if whole ∨ room ≤ have_ then some (s, a, c) else none
          else
            let z := c.lba / zsze d ns
            let u0 := zoneU d c.ns ns z
            let n := zoneSecOf d c s.idx
            if n = (getZone d c.ns z).drawn ∧ (whole ∨ u0 - n % u0 ≤ have_) then some (s, a, c) else none

/-- A command's sector for the unit that draws it (Table CDC-2). -/
def cmdSector (d : Dev) (f : Fifo) (a : Nat) (c : Cmd) (s : FSec) : Sector :=
  { info := { lba := c.lba + s.idx, ns := c.ns, kind := 0, flags := b2n (nbit c.flags 4), wseq := c.wseq + s.idx,
              epoch := c.epoch, node := d.pins.nodeId.toNat },
    data := secBytes f s, arr := some a }

/-- The words that no draw has reached: RD, and PKTS from it (R325, R327). -/
def rdAdvance (k : Nat) (d : Dev) : Dev :=
  let was := packetsFrom (getFifo d k) (getFifo d k).rd
  let d := modFifo k (fun f =>
    let rd := match f.secs.find? (fun s => s.unit.isNone && !s.rel && !(secDone d s)) with
      | some s => s.first
      | none => f.asm
    { f with rd := rd }) d
  when (decide (packetsFrom (getFifo d k) (getFifo d k).rd ≠ was)) (fifoReport k none) d

/-- Give n undrawn sectors of command a to unit u. -/
def drawRun (k a u n : Nat) (d : Dev) : Dev :=
  let f := getFifo d k
  let ss := (undrawn f a).take n
  let secs := ss.map fun s => cmdSector d f a (getCmd d a) s
  let d := modUnit u (fun x => { x with sectors := x.sectors ++ secs }) d
  modFifo k (fun f =>
    { f with secs := f.secs.map fun s =>
        if decide (s.arr = some a) && ss.any (fun t => decide (t.idx = s.idx)) then { s with unit := some u } else s }) d

/-- The packer of FIFO k draws the next run of sectors of one command that `want` admits, up to a unit boundary (R325). -/
def packerRun (want : Cmd → Bool) (k : Nat) (d : Dev) : Dev :=
  let f := getFifo d k
  match drawNext d want f with
    | none => d
    | some (s, a, c) =>
      let ns := getNs d c.ns
      let avail := (undrawn f a).length
      if ns.random then
        let r := match d.pgm.units.find? (fun u => decide (u.2.st = .filling ∧ u.2.ns = c.ns ∧ u.2.cls = c.cls ∧ u.2.use = .fifo k)) with
          | some u => (some u.1, d)
          | none => randomUnit c.ns (4 * c.ns + c.cls) c.cls (.fifo k) d
        match r with
        | (none, d) => d
        | (some u, d) =>
          let x := getUnit d u
          let m := min avail (unitSecs d x - x.sectors.length)
          let d := drawRun k a u m d
          let last := decide (c.need ≤ c.accepted ∧ m = avail)
          let full := decide (unitSecs d x ≤ x.sectors.length + m)
          let d := if full || (last && (nbit c.flags 1 || flushWants d a c)) then unitClose u d else d
          rdAdvance k d
      else
        let z := c.lba / zsze d ns
        let n := zoneSecOf d c s.idx
        let u0 := zoneU d c.ns ns z
        let m := min avail (u0 - n % u0)
        let (u, d) := match zoneFilling d c.ns z (n / u0) with
          | some u => (u, modUnit u (fun x => { x with use := .fifo k, cls := min x.cls c.cls }) d)
          | none => zoneUnit c.ns z n c.cls (.fifo k) d
        let d := modZone (drawRun k a u m d) c.ns z fun x => { x with drawn := n + m }
        let d := if (n + m) % u0 = 0 then unitClose u d else d
        let d := zonePads c.ns z c.cls 4096 d
        -- a FULL zone's last unit is closed with pad, its WP unmoved (Table CQ-3)
        let zn := getZone d c.ns z
        let d := if zn.st = .full ∧ zn.wp ≤ zn.drawn then
            (match zoneFilling d c.ns z (zn.drawn / u0) with | some v => unitClose v d | none => d) else d
        rdAdvance k (zoneClosed c.ns z d)

/-- PACKER_DRAW: the next run, in the modes in which programs are prepared. -/
def packerDev (k : Nat) (d : Dev) : Dev := if progMay d then isolSweep (packerRun (fun _ => true) k d) else d

/-- PACKER_DRAW (R325). -/
def execPackerDraw (k : Nat) (st : State) : Host.Outcome State Fault Refusal := onDev (packerDev k) st

/-- Close every partial unit that holds only drawn commands that must become DURABLE (R165, R274, R275). -/
def closePartials (want : Nat → Cmd → Bool) (d : Dev) : Dev :=
  each (d.pgm.units.filter fun u => decide (u.2.st = .filling) && (getNs d u.2.ns).random) (fun d u =>
    if (unitCmds d u.2).any fun c => want c.1 (getCmd d c.1) then unitClose u.1 d else d) d

end Sys2Proof.Machine
end

