-- ==== Sys2Proof/Machine/Move.lean ====
section
/-! DEFINITION. Machine/Move.lean: reading sectors (R185, R233), rebuilding from parity (R299), and the copies that the wear and block
manager makes: relocations (R231 to R237, R241), copies into a spare (R223) and garbage collection (R243). -/

namespace Sys2Proof.Machine

open Sys2Proof

/-! ### Reads of sectors -/

/-- A run of sectors on consecutive codewords of one page, starting with index i. -/
structure ReadRun where
  i : Nat
  place : Place
  n : Nat
  expect : List (Option (Nat × Nat))
  deriving DecidableEq, Repr

/-- Group sectors, each with its index, place and expected tag, into runs of one page. -/
def readRuns : List (Nat × Place × Option (Nat × Nat)) → List ReadRun
  | [] => []
  | (i, p, e) :: rest =>
    match readRuns rest with
    | r :: rs =>
      if r.i = i + 1 ∧ r.place.lun = p.lun ∧ r.place.row = p.row ∧ r.place.slc = p.slc ∧ r.place.k = p.k + 1 then
        { i := i, place := p, n := r.n + 1, expect := e :: r.expect } :: rs
      else { i := i, place := p, n := 1, expect := [e] } :: r :: rs
    | [] => [{ i := i, place := p, n := 1, expect := [e] }]

/-- Issue one READ_PAGE for a run (R185). -/
def runIssue (cls : Nat) (use : OpUse) (r : ReadRun) (d : Dev) : Dev :=
  let cw := cwBytes d r.place.lun
  opIssue { lun := r.place.lun, cls := cls, cop := 0, col := r.place.k * cw, row := r.place.row, count := r.n * cw,
            flags := b2n r.place.slc * 16, arg := r.i, use := use, expect := r.expect, pred := true } d

/-! ### Rebuild (R299) -/

/-- The stripe row that a place belongs to: its namespace, members in order, and unit row. -/
def rowMembers (d : Dev) (sbn : Nat) : List Nat :=
  match sgFind d (sbn / 65536) with
  | none => []
  | some (n, ns, _) =>
    if ns.random then sgLuns d (sbn / 65536)
    else match zoneOfSb d sbn with
      | some (_, z) => zoneMembers d n ns z
      | none => sgLuns d (sbn / 65536)

/-- A sector can be rebuilt: its namespace has row parity, and the row's parity is programmed. -/
def canRebuild (d : Dev) (sbn : Nat) : Bool :=
  match sgFind d (sbn / 65536) with
  | some (_, ns, _) => decide (parOf ns = 1)
  | none => false

/-- Start the rebuild of the sector at a place of superblock sbn: the same sector of every other member of the row is read. -/
def rebuildStart (sbn : Nat) (p : Place) (cls : Nat) (cmd unit : Option (Nat × Nat)) (d : Dev) : Dev :=
  let j := d.ord.nextRebuild
  let ms := (rowMembers d sbn).filter (· ≠ p.lun)
  let d := modOrd d fun o =>
    { o with nextRebuild := j + 1,
             rebuilds := nput o.rebuilds j { cmd := cmd, unit := unit, left := ms.length, acc := zeros 4096, isol := lunIsol d p.lun } }
  each ms (fun d l =>
    let q := unitPlace d sbn l 0 p.unitRow p.sec p.slc
    runIssue cls (.rebuild j l) { i := 0, place := q, n := 1, expect := [none] } d) d

/-! ### Units that move data (R163, R233) -/

/-- Set sector i of a moving unit. -/
def moveSet (u i : Nat) (s : Sector) (d : Dev) : Dev := modUnit u (fun x => { x with sectors := x.sectors.set i s }) d

/-- A sector as it is moved: metadata unchanged but for RELOC (R163). -/
def movedSector (info : List Byte) : Sector :=
  let m := infoMeta info
  { info := { m with flags := m.flags ||| 4 }, data := info.take 4096 }

/-- The unit's reads are done: it closes and goes on its way. -/
def moveRead (u : Nat) (d : Dev) : Dev :=
  let x := getUnit d u
  if x.st = .reading ∧ x.readsLeft = 0 then
    match x.use with
    | .gc _ => d
    | .ring sg => if lunIsol d x.lun then ringPass sg u d else unitClose u d
    | _ => unitClose u d
  else d

/-- Open a unit of a copy and issue its reads: `src` gives each sector's source, none for pad. -/
def moveStart (x : PUnit) (src : List (Nat × Place)) (d : Dev) : Nat × Dev :=
  let u := d.pgm.nextUnit
  let runs := readRuns (src.map fun p => (p.1, p.2, none))
  let n := unitSectors d x.lun x.slc
  let d := modPgm d fun p =>
    { p with nextUnit := u + 1, units := nput p.units u { x with st := .reading, readsLeft := src.length, sectors := List.replicate n (padSector d x.ns) } }
  let d := each runs (fun d r => runIssue 4 (.move u) r d) d
  (u, moveRead u d)

/-! ### Relocations of rings (R231 to R241) -/

/-- The zone number of local zone zl of the ring of stripe group sg. -/
def ringZoneNo (ns : NsSec) (sg zl : Nat) : Nat := zl * ns.groups.length + ns.groups.findIdx fun g => decide (g.sg = sg)

/-- A relocation may run in the mode in force (R237, R241, Table XLT-2). -/
def relocMay (d : Dev) (k : RelocKind) (sev : Nat) : Bool :=
  d.mode.mode.run && !d.mode.bgStop && match k with
    | .gapMove => true
    | .refresh => decide (d.mode.mode = .maintain) || (decide (3 ≤ sev) && decide (d.mode.mode = .serve ∨ d.mode.mode = .drain))
    | .fold => decide (d.mode.mode = .maintain)

/-- Modes of source and destination in a phase that copies: (source position, destination position, source SLC, destination SLC). -/
def relocDirs (r : Reloc) (slc : Bool) : Nat × Nat × Bool × Bool :=
  match r.kind with
  | .gapMove => (r.src, r.dst, slc, slc)
  | .refresh => if r.phase = 1 then (r.src, r.dst, slc, slc) else (r.dst, r.src, slc, slc)
  | .fold => if r.phase = 1 then (r.src, r.dst, true, true) else (r.dst, r.src, true, false)

/-- The first unit of a copy, from unit i of n on, that is copied: without row parity, those of isolated members are skipped (R239).
Units of u sectors go over members ms with PAR p. -/
def copyFrom (d : Dev) (ms : List Nat) (p u i n : Nat) : Nat :=
  if p = 1 then i
  else ((rangeFrom i (n - i)).find? fun k => !lunIsol d (ms.getD (placeSec ms.length p u (k * u)).1 0)).getD n

/-- Copy the next unit of a ring's relocation where it may run (R233, R234). -/
def relocPump (sg : Nat) (d : Dev) : Dev :=
  match sgFind d sg with
  | none => d
  | some (n, ns, g) =>
    match (getRing d sg).reloc with
    | none => d
    | some r =>
      if !relocMay d r.kind r.sev ∨ r.cur.isSome ∨ r.units ≤ r.unit ∨ r.phase = 2 then d
      else
        let z := ringZoneNo ns sg r.zl
        let zn := getZone d n z
        let (a, b, ss, ds) := relocDirs r zn.slc
        let ms := zoneMembers d n ns z
        let w := ms.length
        let du := unitSectors d g.f ds
        let r := { r with unit := copyFrom d ms (parOf ns) du r.unit r.units }
        if r.units ≤ r.unit then modRing d sg fun q => { q with reloc := some r }
        else
        let (k, row, _) := placeSec w (parOf ns) du (r.unit * du)
        let l := ms.getD k g.f
        let src := (rangeFrom (r.unit * du) du).zipIdx.filterMap fun p =>
          if p.1 < zn.wp then
            let (k2, row2, s2) := placeSec w (parOf ns) (unitSectors d g.f ss) p.1
            some (p.2, unitPlace d (sbnOf sg (g.blo + a)) (ms.getD k2 g.f) k2 row2 s2 ss)
          else none
        let x : PUnit := { use := .ring sg, cls := 4, ns := n, sg := sg, sb := g.blo + b, member := (l - g.f) / max 1 g.d, row := row, lun := l,
                           mpb := remapBlk d l (g.blo + b), slc := ds, policy := zn.policy, first := r.unit, zone := z }
        let d := modSb d (sbnOf sg (g.blo + b)) fun s => { s with slc := ds }
        let (u, d) := moveStart x src d
        modRing d sg fun q => { q with reloc := some (if (nfind d.pgm.units u).isSome then { r with cur := some u } else { r with unit := r.unit + 1 }) }

/-- The unit of a ring's relocation has succeeded: the next one follows. -/
def relocUnitDone (sg u : Nat) (d : Dev) : Dev :=
  match (getRing d sg).reloc with
  | some r =>
    if r.cur = some u then relocPump sg (modRing d sg fun q => { q with reloc := some { r with cur := none, unit := r.unit + 1 } }) else d
  | none => d

/-- The positions of a gap move of a ring (R231): source and destination. -/
def gapPositions (g : SgRow) (r : Ring) : Nat × Nat := if r.gap = 0 then (ringS g, 0) else (r.gap - 1, r.gap)

/-- The ring's window after a gap move (R231). -/
def gapMoved (g : SgRow) (r : Ring) : Ring :=
  if r.gap = 0 then { r with gap := ringS g, w := (r.w + 1) % max 1 (ringS g), moveQueued := r.moveQueued - 1, waitOpen := false, reloc := none }
  else { r with gap := r.gap - 1, moveQueued := r.moveQueued - 1, waitOpen := false, reloc := none }

/-- A gap move ends: the window moves, a CHECKPOINT records it, and what the source position holds is stale. -/
def gapMoveEnd (sg : Nat) (g : SgRow) (d : Dev) : Dev :=
  let r := getRing d sg
  let (a, b) := gapPositions g r
  let s := sbnOf sg (g.blo + a)
  let t := sbnOf sg (g.blo + b)
  let old := getSb d s
  let d := modSb d t fun x => { x with closeStamp := old.closeStamp.map fun _ => d.ageMin, slc := old.slc, ew := 0 }
  let d := modXlt (modSb d s fun _ => {}) fun x => { x with refresh := x.refresh.filter fun e => decide (e.sbn ≠ s) }
  (ckptPump (ckptAsk (modRing d sg fun x => gapMoved g x)).2)

/-- Destination units of a zone's copy of n sectors over w members with PAR p and units of u sectors. -/
def copyUnits (n u : Nat) : Nat := ceilDiv n (max 1 u)

/-- Of refresh entries, the one served first: highest severity, then oldest close stamp (R236). -/
def refreshFirst (es : List RefreshEntry) : Option RefreshEntry :=
  es.foldl (fun (b : Option RefreshEntry) e => match b with
    | none => some e
    | some x => if x.sev < e.sev ∨ (x.sev = e.sev ∧ e.stamp < x.stamp) then some e else b) none

/-- The refresh of the ring that is next: of those whose zone is FULL and whose severity may run in the mode in force (R235 to R237). -/
def refreshNext (d : Dev) (sg : Nat) : Option RefreshEntry :=
  refreshFirst (d.xlt.refresh.filter fun e => decide (e.sbn / 65536 = sg) && relocMay d .refresh e.sev && match zoneOfSb d e.sbn with
    | some (n, z) => decide ((getZone d n z).st = ZState.full)
    | none => false)

/-- Start a relocation of a kind: its record with a CHECKPOINT, and the erase of the gap (R234). -/
def relocBegin (sg : Nat) (ns : NsSec) (g : SgRow) (n : Nat) (r : Reloc) (d : Dev) : Dev :=
  let zn := getZone d n (ringZoneNo ns sg r.zl)
  let (_, b, _, ds) := relocDirs r zn.slc
  let d := modRing d sg fun q => { q with reloc := some { r with units := copyUnits zn.wp (unitSectors d g.f ds) } }
  let t := sbnOf sg (g.blo + b)
  let d := modSb d t fun x => { x with erased := false, openStamp := none, closeStamp := none }
  relocPump sg (ckptPump (ckptAsk d).2)

/-- RELOCATION_START: a ring with no relocation starts the one that is due: a queued gap move, then a refresh, then a fold
(R231 to R237, R241). -/
def relocStartDev (sg : Nat) (d : Dev) : Dev :=
  match sgFind d sg with
  | none => d
  | some (n, ns, g) =>
    let r := getRing d sg
    if ns.random ∨ r.reloc.isSome ∨ 4 ≤ d.hk.shed then d
    else if 0 < r.moveQueued ∧ relocMay d .gapMove 0 then
      let (a, b) := gapPositions g r
      let zl := ringZone r.w r.gap (ringS g) a
      let zn := getZone d n (ringZoneNo ns sg zl)
      match zn.st with
      | .open_ => modRing d sg fun x => { x with waitOpen := true }
      | .empty => gapMoveEnd sg g d
      | .full => relocBegin sg ns g n { kind := .gapMove, zl := zl, src := a, dst := b } (modRing d sg fun x => { x with waitOpen := false })
    else
      let refresh := match refreshNext d sg with
        | some e => (zoneOfSb d e.sbn).map fun p => (e, p.2)
        | none => none
      match refresh with
      | some (e, z) =>
        let d := modXlt d fun x => { x with refresh := x.refresh.filter (· ≠ e) }
        let zl := z / ns.groups.length
        relocBegin sg ns g n { kind := .refresh, zl := zl, src := ringPos r.w r.gap (ringS g) zl, dst := r.gap, sev := e.sev } d
      | none =>
        match d.xlt.folds.find? (fun f : Nat × Nat => decide (f.1 = n) && decide ((zoneRow ns f.2).sg = sg) && decide ((getZone d n f.2).st = ZState.full)) with
        | some f =>
          if relocMay d .fold 0 then
            let zl := f.2 / ns.groups.length
            relocBegin sg ns g n { kind := .fold, zl := zl, src := ringPos r.w r.gap (ringS g) zl, dst := r.gap }
              (modXlt d fun x => { x with folds := x.folds.filter (· ≠ f) })
          else d
        | none => d

/-- RELOCATION_START (R234). -/
def execRelocationStart (sg : Nat) (st : State) : Host.Outcome State Fault Refusal := onDev (relocStartDev sg) st

/-- RELOCATION_PHASE_END: the phase in hand has done its work; the next one, or the end, is recorded by CHECKPOINT (R234). -/
def relocPhaseDev (sg : Nat) (d : Dev) : Dev :=
  match sgFind d sg with
  | none => d
  | some (n, ns, g) =>
    match (getRing d sg).reloc with
    | none => d
    | some r =>
      if !relocMay d r.kind r.sev then d
      else
        let src := sbnOf sg (g.blo + r.src)
        let z := ringZoneNo ns sg r.zl
        let durable := d.pgm.units.all fun u => decide (u.2.use ≠ .ring sg) || u.2.durable || decide (u.2.st = .abandoned)
        let copied := decide (r.units ≤ r.unit) && r.cur.isNone && durable
        let gone := fun d => modPgm d fun p => { p with units := p.units.filter fun u => decide (u.2.use ≠ .ring sg) }
        match r.phase with
        | 2 =>
          if (getSb d src).erased then
            let zn := getZone d n z
            let u := unitSectors d g.f (if r.kind = .fold then false else zn.slc)
            let d := modRing d sg fun q => { q with reloc := some { r with phase := 3, unit := 0, units := copyUnits zn.wp u } }
            relocPump sg (ckptPump (ckptAsk d).2)
          else eraseSb src 4 d
        | 1 =>
          if !copied then d
          else match r.kind with
            | .gapMove => gapMoveEnd sg g (gone d)
            | _ =>
              let d := modRing (gone d) sg fun q => { q with reloc := some { r with phase := 2 } }
              let d := modSb d src fun s => { s with erased := false }
              eraseSb src 4 (ckptPump (ckptAsk d).2)
        | _ =>
          if !copied then d
          else
            let d := modRing (gone d) sg fun q => { q with reloc := none }
            let d := modSb d src fun s => { s with closeStamp := some d.ageMin, ew := 0, slc := if r.kind = .fold then false else s.slc }
            let d := modSb d (sbnOf sg (g.blo + r.dst)) fun _ => {}
            let d := match r.kind with
              | .fold =>
                let d := modZone d n z fun x => { x with slc := false, foldPending := false, zcap := zcapOf d g ((zoneMembers d n ns z).length - parOf ns) false }
                bump d F.wearFold_FOLDED
              | _ => bump d F.wearRq_DONE
            ckptPump (ckptAsk d).2

/-- RELOCATION_PHASE_END (R234). -/
def execRelocationPhaseEnd (sg : Nat) (st : State) : Host.Outcome State Fault Refusal := onDev (relocPhaseDev sg) st

/-- ZONE_RESET of a zone under relocation (Table XLT-2). -/
def relocReset (n z : Nat) (d : Dev) : Dev :=
  let ns := getNs d n
  let g := zoneRow ns z
  match (getRing d g.sg).reloc with
  | none => d
  | some r =>
    if ringZoneNo ns g.sg r.zl ≠ z then d
    else
      let d := each ((d.pgm.units.filter fun u => decide (u.2.use = .ring g.sg)).map (·.1)) (fun d u => abandon u d) d
      match r.kind with
      | .gapMove => modSb (gapMoveEnd g.sg g d) (sbnOf g.sg (g.blo + r.dst)) fun _ => {}
      | _ =>
        let d := modRing d g.sg fun q => { q with reloc := none }
        let d := modSb d (sbnOf g.sg (g.blo + r.src)) fun _ => {}
        ckptPump (ckptAsk (modSb d (sbnOf g.sg (g.blo + r.dst)) fun _ => {})).2

/-! ### Copies into a spare (R223, R461) -/

/-- Copy the next row of a retired block's member into its spare, RETIRE being written and the spare erased. -/
def copyPump (d : Dev) : Dev :=
  each d.pgm.copies (fun d j =>
    if j.unit.isSome ∨ !jWritten d j.jseq ∨ d.pgm.raw.contains (j.lun, j.dst) ∨ !progMay d then d
    else if j.rows ≤ j.next then
      let t := nget [] d.xlt.remap j.lun
      let d := modXlt d fun x => { x with remap := nset [] x.remap j.lun (t ++ [(j.src, j.dst)]) }
      let d := modPgm d fun p => { p with copies := p.copies.filter fun x => !decide (x.lun = j.lun ∧ x.src = j.src) }
      unitPump (match j.eseq with | some e => eqFin e 1 d | none => d)
    else
      match sgFind d (j.sbn / 65536) with
      | none => d
      | some (n, _, _) =>
        let slc := sbSlc d j.sbn
        let z := (zoneOfSb d j.sbn).getD (n, 0)
        let us := unitSectors d j.lun slc
        let src := (List.range us).map fun s =>
          let pg := pageOf d j.lun j.src j.next s slc
          (s, ({ lun := j.lun, blk := j.src, row := pg.1, k := pg.2, slc := slc, member := j.member, unitRow := j.next, sec := s } : Place))
        let x : PUnit := { use := .copy j.lun, cls := 4, ns := n, sg := j.sbn / 65536, sb := j.sbn % 65536, member := j.member, row := j.next,
                           lun := j.lun, mpb := j.dst, slc := slc, zone := z.2, waitJ := 1, eseq := j.eseq,
                           policy := if (getNs d n).random then (if (getNs d n).verify = 3 then 1 else (getNs d n).verify) else (getZone d n z.2).policy }
        let (u, d) := moveStart x src d
        modPgm d fun p => { p with copies := p.copies.map fun y => if y.lun = j.lun ∧ y.src = j.src then { y with unit := some u } else y }) d

/-- A row of a copy into a spare has succeeded. -/
def copyUnitDone (u : Nat) (d : Dev) : Dev :=
  copyPump (modPgm d fun p =>
    { p with copies := p.copies.map fun y => if y.unit = some u then { y with unit := none, next := y.next + 1 } else y })

/-! ### Garbage collection (R243) -/

/-- Free superblocks of a pool. -/
def freeCount (d : Dev) (ns : NsSec) : Nat := ((poolSbs ns).filter fun s => decide ((getSb d s).pool = 0)).length

/-- The fewest, by a key, then older close stamp, then lower SBN. -/
def leastSb (key : Nat → Nat) (stamp : Nat → Nat) (l : List Nat) : Option Nat :=
  l.foldl (fun (b : Option Nat) s => match b with
    | none => some s
    | some x => if key s < key x ∨ (key s = key x ∧ stamp s < stamp x) then some s else b) none

/-- The victim of a collection (R243): a RANDOM superblock that a refresh asks for, the least worn where the spread exceeds
WL_DELTA, else the full one with the fewest valid sectors. -/
def gcVictim (d : Dev) (ns : NsSec) : Option Nat :=
  let full := (poolSbs ns).filter fun s => decide ((getSb d s).pool = 2)
  let es := (poolSbs ns).map fun s => sbErases d s
  let spread := es.foldl max 0 - es.foldl min (es.headD 0)
  let stamp := fun s => (getSb d s).closeStamp.getD 0
  match refreshFirst (d.xlt.refresh.filter fun e => full.contains e.sbn && relocMay d .refresh e.sev) with
  | some e => some e.sbn
  | none =>
    if getF d F.wearCfg_WL_DELTA < spread then leastSb (fun s => sbErases d s) stamp full
    else if freeCount d ns < getF d F.wearCfg_GC_LO then leastSb (fun s => (getSb d s).valid) stamp full
    else none

def getGc (d : Dev) (n : Nat) : Option GcJob := nget none d.xlt.gc n
def setGc (n : Nat) (j : Option GcJob) (d : Dev) : Dev := modXlt d fun x => { x with gc := nset none x.gc n j }

/-- Go on with the collection of a namespace: read the victim's next data unit; at the end, with every copy DURABLE, the
victim is free. -/
def gcPump (n : Nat) : Nat → Dev → Dev
  | 0, d => d
  | fuel + 1, d =>
    match getGc d n with
    | none => d
    | some j =>
      let ns := getNs d n
      if j.reading.isSome ∨ !d.mode.mode.run ∨ d.mode.bgStop then d
      else if sbUnits d ns j.sbn ≤ j.next then
        match j.filling with
        | some u => gcPump n fuel (unitClose u (setGc n (some { j with filling := none, units := j.units ++ [u] }) d))
        | none =>
          if j.units.all fun u => match nfind d.pgm.units u with | some x => x.durable | none => true then
            let d := modPgm d fun p => { p with units := p.units.filter fun u => !j.units.contains u.1 }
            let d := modXlt d fun x => { x with refresh := x.refresh.filter fun e => decide (e.sbn ≠ j.sbn) }
            setGc n none (modSb d j.sbn fun _ => {})
          else d
      else
        let (k, row, _) := placeSec ns.width (parOf ns) 1 j.next
        let l := (sgLuns d (j.sbn / 65536)).getD k 0
        let us := unitSectors d l false
        -- only sectors that some map entry may still name are read
        let src := (List.range us).map fun s => (s, unitPlace d j.sbn l k row s false)
        let x : PUnit := { use := .gc n, cls := 4, ns := n, sg := j.sbn / 65536, sb := j.sbn % 65536, member := k, row := row, lun := l,
                           mpb := remapBlk d l (j.sbn % 65536) }
        let skip := (getSb d j.sbn).valid = 0
        if skip then gcPump n fuel (setGc n (some { j with next := sbUnits d ns j.sbn }) d)
        else
          let (u, d) := moveStart x src d
          setGc n (some { j with next := j.next + 1, reading := some u }) d

/-- Sectors of a victim's unit that are still mapped there go to the collection's open unit. -/
def gcTake (n : Nat) : List Sector → Dev → Dev
  | [], d => d
  | s :: ss, d =>
    match getGc d n with
    | none => d
    | some j =>
      let r := match j.filling with
        | some u => (some u, d)
        | none => randomUnit n (64 + n) 4 (.gc n) d
      match r with
      | (none, d) => d
      | (some u, d) =>
        let d := modUnit u (fun x => { x with sectors := x.sectors ++ [s] }) d
        let x := getUnit d u
        let d := setGc n (some { j with filling := some u }) d
        if unitSecs d x ≤ x.sectors.length then
          gcTake n ss (unitClose u (setGc n (some { j with filling := none, units := j.units ++ [u] }) d))
        else gcTake n ss d

/-- The reads of a victim's unit have all ended. -/
def gcRead (u : Nat) (d : Dev) : Dev :=
  let x := getUnit d u
  match x.use with
  | .gc n =>
    match getGc d n with
    | none => dropUnit u d
    | some j =>
      if j.reading ≠ some u ∨ x.readsLeft ≠ 0 then d
      else
        let ns := getNs d n
        let secs := x.sectors.zipIdx.filterMap fun p =>
          let psn := psnUnit d ns (sbnOf x.sg x.sb) x.member x.row p.2
          if p.1.info.kind = 0 ∧ mapGet d n p.1.info.lba = psn then some { p.1 with arr := some psn } else none
        gcPump n 4 (gcTake n secs (setGc n (some { j with reading := none }) (dropUnit u d)))
  | _ => d

/-- GC_START: a pool below GC_LO free superblocks, or with a spread above WL_DELTA, collects a victim (R243). -/
def gcStartDev (n : Nat) (d : Dev) : Dev :=
  let ns := getNs d n
  if !ns.random ∨ !ns.present ∨ (getGc d n).isSome ∨ !d.mode.mode.run ∨ d.mode.bgStop ∨
      (4 ≤ d.hk.shed ∧ getF d F.wearCfg_GC_CRIT ≤ poolFree d ns) then d
  else match gcVictim d ns with
    | none => d
    | some s => gcPump n 4 (setGc n (some { sbn := s }) d)

/-- GC_START (R243). -/
def execGcStart (ns : Nat) (st : State) : Host.Outcome State Fault Refusal := onDev (gcStartDev ns) st

/-! ### The ends of what moves -/

/-- A unit that has just succeeded takes its mover further. -/
def moverNext (u : Nat) (d : Dev) : Dev :=
  let x := getUnit d u
  if x.st ≠ .done then d
  else match x.use with
    | .ring sg => relocUnitDone sg u d
    | .copy _ => copyUnitDone u d
    | _ => d

/-- Every mover goes on where it can. -/
def moversPump (d : Dev) : Dev :=
  let d := each (d.xlt.rings.map (·.1)) (fun d sg => relocPump sg d) d
  let d := each (d.xlt.gc.map (·.1)) (fun d n => gcPump n 4 d) d
  copyPump (retirePump (fun l b d => rowsOf d l b) d)

/-- A GC unit that failed is placed anew (R292). -/
def movedAgain (u : Nat) (d : Dev) : Dev :=
  let x := getUnit d u
  if x.st ≠ .failed then d
  else match x.use with
    | .gc n =>
      let d := dropUnit u d
      let d := gcTake n (x.sectors.filter fun s => decide (s.info.kind = 0)) d
      match x.eseq, getGc d n with
      | some e, some _ => eqFin e 1 d
      | _, _ => d
    | .restore =>
      match randomUnit x.ns (4 * x.ns + min 3 x.cls) x.cls .restore d with
      | (some v, d) => dropUnit u (unitClose v (modUnit v (fun y => { y with sectors := x.sectors, eseq := x.eseq }) d))
      | (none, d) => d
    | _ => d

/-- Sector i of a moving unit has its outcome; with the last one the unit goes on. -/
def moveStep (u : Nat) (d : Dev) : Dev := gcRead u (moveRead u (modUnit u (fun y => { y with readsLeft := y.readsLeft - 1 }) d))

/-- The LBA of sector i of a moving unit: by placement, or by what the map names there. -/
def moveLba (d : Dev) (x : PUnit) (i : Nat) : Option Nat :=
  let ns := getNs d x.ns
  if ns.random then
    let psn := psnUnit d ns (sbnOf x.sg x.sb) x.member x.row i
    (d.xlt.map.find? fun p => decide (p.1 / 281474976710656 = x.ns ∧ p.2 = psn)).map fun p => p.1 % 281474976710656
  else some (x.zone * zsze d ns + x.first * unitSecs d x + i)

/-- Sector i of a moving unit is lost (Table ORD-7, R299): its LBA is marked, and pad takes its place. -/
def moveLost (u i : Nat) (d : Dev) : Dev :=
  let x := getUnit d u
  match moveLba d x i with
  | some a => moveStep u (modXlt d fun y => { y with lost := if y.lost.contains (x.ns, a) then y.lost else y.lost ++ [(x.ns, a)] })
  | none => moveStep u d

/-- A sector of a moving unit: its data, pad where it was ERASED or is lost, or a rebuild (R233, R299). -/
def moveSector (u i outcome : Nat) (info : List Byte) (o : Op) (d : Dev) : Dev :=
  let x := getUnit d u
  if x.st ≠ .reading then d
  else if outcome = 0 then moveStep u (moveSet u i (movedSector info) d)
  else if outcome = 1 then moveStep u d
  else
    let b := blkOfRow d o.lun o.row / profPlanes d o.lun
    match sbOfBlk d o.lun b with
    | some sbn =>
      if canRebuild d sbn then
        let sl := nbit o.flags 4
        let pg := pgOfRow d o.lun o.row
        let row := if sl then pg else pg / profCell d o.lun
        let q := if sl then 0 else pg % profCell d o.lun
        let plane := blkOfRow d o.lun o.row % profPlanes d o.lun
        let k := o.col / cwBytes d o.lun + (i - o.arg)
        let p : Place := { lun := o.lun, blk := b, row := o.row, k := k, slc := sl, member := x.member, unitRow := row,
                           sec := 4 * (profPlanes d o.lun * q + plane) + k }
        rebuildStart sbn p 4 none (some (u, i)) d
      else moveLost u i d
    | none => moveLost u i d

/-- A read of a moving unit has ended: sectors without data have their outcome here, the others with their RDATA. -/
def moveReadEnd (u : Nat) (o : Op) (r : OpResult) (d : Dev) : Dev :=
  match nfind d.pgm.units u with
  | none => d
  | some _ =>
    if r.code = 0 then each (r.outcomes.zipIdx) (fun d p => if p.1 = 16 ∨ p.1 = 1 ∨ p.1 = 5 then d else moveSector u (o.arg + p.2) p.1 [] o d) d
    else if r.code = 4 ∨ r.code = 3 ∨ r.code = 7 ∨ r.code = 8 then opIssue { o with use := .move u } d
    else each (List.range o.expect.length) (fun d i => moveSector u (o.arg + i) 2 [] o d) d

end Sys2Proof.Machine
end

