-- ==== Sys2Proof/Machine/Wear.lean ====
section
/-! DEFINITION. Machine/Wear.lean: the refresh queue (R236), the map checkpoint (R244), the CHECKPOINT of zone changes (R272), and
the sweep and the saving of the threshold table (R190, R191). -/

namespace Sys2Proof.Machine

open Sys2Proof

/-! ### The refresh queue (R236) -/

/-- Of two entries, the one dropped from a full queue: the lower severity, then the newer close stamp. -/
def refreshWorse (a b : RefreshEntry) : Bool := decide (a.sev < b.sev) || (decide (a.sev = b.sev) && decide (b.stamp < a.stamp))

/-- The worst entry of a queue. -/
def refreshWorst : List RefreshEntry → Option RefreshEntry
  | [] => none
  | e :: es => match refreshWorst es with
    | none => some e
    | some x => if refreshWorse x e then some x else some e

/-- The superblock holds data of a zone or of a pool: neither a gap, nor an EMPTY zone's, nor free. -/
def sbHolds (d : Dev) (sbn : Nat) : Bool :=
  match sgFind d (sbn / 65536) with
  | none => false
  | some (_, ns, _) => if ns.random then decide ((getSb d sbn).pool ≠ 0) else match zoneOfSb d sbn with
    | some (n, z) => decide ((getZone d n z).st ≠ ZState.empty)
    | none => false

/-- A superblock that holds data enters the refresh queue of 64, keeping the higher severity. -/
def refreshAdd (sbn sev : Nat) (d : Dev) : Dev :=
  let q := d.xlt.refresh
  if !sbHolds d sbn then d else
  match q.find? (fun e => decide (e.sbn = sbn)) with
  | some e => modXlt d fun x => { x with refresh := q.map fun y => if y.sbn = sbn then { y with sev := max e.sev sev } else y }
  | none =>
    let q := q ++ [⟨sbn, sev, (getSb d sbn).closeStamp.getD d.ageMin⟩]
    if q.length ≤ 64 then modXlt d fun x => { x with refresh := q }
    else match refreshWorst q with
      | some w => bump (modXlt d fun x => { x with refresh := q.filter (· ≠ w) }) F.wearRq_DROPPED
      | none => d

/-- A refresh candidate for a superblock (R236). -/
def refreshSb (sbn sev : Nat) (d : Dev) : Dev :=
  match sgFind d (sbn / 65536) with
  | none => d
  | some (_, ns, _) =>
    if 2 ≤ sev then refreshAdd sbn sev d
    else
      let d := modSb d sbn fun s => { s with ew := s.ew + 1 }
      if max 1 ns.ewLimit ≤ (getSb d sbn).ew then refreshAdd sbn 1 d else d

/-- A refresh candidate for a multi-plane block of a LUN (R236): a spare names the superblock that it serves, a system block
has its live records written again, a hold-up block is dropped. -/
def refreshBlk (l blk sev : Nat) (d : Dev) : Dev :=
  let b := servesBlk d l blk
  if isHupBlk d b then d
  else if isSysBlk b then ckptPump (sysRefresh l b d)
  else match sbOfBlk d l blk with
    | some s => refreshSb s sev d
    | none => d

/-- REFRESH_SCAN: superblocks older than REFRESH_DAYS enter at severity 1 (R236). -/
def refreshScanDev (d : Dev) : Dev :=
  if !d.mode.restored then d
  else
    let d := each (nsList d) (fun d p =>
      if p.2.refreshDays = 0 then d
      else each (p.2.groups.flatMap fun g => (rangeFrom g.blo (g.bhi + 1 - g.blo)).map fun m => sbnOf g.sg m) (fun d s =>
        match (getSb d s).closeStamp with
        | some t => if p.2.refreshDays * 1440 < d.ageMin - t then refreshAdd s 1 d else d
        | none => d) d) d
    modXlt d fun x => { x with lastScan := d.ageMin }

/-- REFRESH_SCAN (R236). -/
def execRefreshScan (st : State) : Host.Outcome State Fault Refusal := onDev refreshScanDev st

/-! ### Checkpoints -/

/-- Write the dirty map segments of a RANDOM namespace; a CHECKPOINT follows (R244). -/
def mapCkpt (n : Nat) (d : Dev) : Dev :=
  let ns := getNs d n
  if !ns.present ∨ !ns.random ∨ !sysMay d ∨ (nextPair d).isNone ∨ !(d.xlt.dirtySegs.any fun s => decide (s.1 = n)) then d
  else
    let k := nget 0 d.xlt.mapAsm n + 1
    let d := modXlt d fun x => { x with mapAsm := nput x.mapAsm n k, dirtySegs := x.dirtySegs.filter fun s => decide (s.1 ≠ n),
                                        ckptAge := nput x.ckptAge n d.ageMin }
    sysIssue (.mapSegs n) [] k d

/-- MAP_CHECKPOINT (R244). -/
def execMapCheckpoint (ns : Nat) (st : State) : Host.Outcome State Fault Refusal := onDev (mapCkpt ns) st

/-- ZONE_CHECKPOINT_TIMER: the CHECKPOINT that persists a zone reset or finish (R272). -/
def zoneCkptDev (d : Dev) : Dev :=
  if d.ord.cmds.any fun c => decide (c.2.opc = 0x11 ∨ c.2.opc = 0x12) && c.2.staged && !c.2.durable then ckptPump (ckptAsk d).2 else d

/-- ZONE_CHECKPOINT_TIMER (R272). -/
def execZoneCheckpointTimer (st : State) : Host.Outcome State Fault Refusal := onDev zoneCkptDev st

/-- Save the threshold table and the age clock, on the drain to WARM and every SAVE_H hours (R191). -/
def thrSave (d : Dev) : Dev :=
  if !sysMay d ∨ !d.mode.restored then d
  else sysIssue .threshold [] d.ageMin (modRrc d fun r => { r with savedAge := d.ageMin, savedTable := r.table })

/-- SAVE_H hours of age clock have passed since the last save; 0: only the drain saves. -/
def thrDue (d : Dev) : Bool :=
  let h := getF d F.rrcTiming_SAVE_H
  decide (h ≠ 0 ∧ d.rrc.savedAge + 60 * h ≤ d.ageMin)

/-- THRESHOLD_SAVE (R191). -/
def execThresholdSave (st : State) : Host.Outcome State Fault Refusal := onDev (fun d => when (thrDue d) thrSave d) st

/-! ### The sweep (R190) -/

/-- Key of a threshold entry. -/
def sweepKey (d : Dev) (l row : Nat) : Nat :=
  64 * l + 4 * blkGroup d l (blkOfRow d l row) + pageType d l (pgOfRow d l row) false

/-- The page has been programmed, in native mode. -/
def sweepPage (d : Dev) (l row : Nat) : Bool :=
  let b := blkOfRow d l row / profPlanes d l
  decide (pgOfRow d l row / profCell d l < rowsOf d l b) &&
    (match sbOfBlk d l b with | some s => !sbSlc d s | none => false)

/-- THRESHOLD_SWEEP: one codeword of a programmed page is read with the predicted offsets and with each retry row. -/
def sweepDev (l row k : Nat) (d : Dev) : Dev :=
  let key := sweepKey d l row
  let due := match nfind d.rrc.sweptAt key with
    | some t => decide (t + 60 * getF d F.rrcTiming_SWEEP_H < d.ageMin)
    | none => true
  if !isSet d F.rrcCfg_SWEEP_EN ∨ getF d F.rrcTiming_SWEEP_H = 0 ∨ !sweepPage d l row ∨ 1 ≤ d.hk.shed ∨
    d.mode.mode ≠ .maintain ∨ !due ∨ !lunUsable d l ∨ !profFeat d l 5 ∨ (nfind d.rrc.sweeps key).isSome then d
  else
    let cw := cwBytes d l
    let rows := List.range (prof d l 0x1D 1)
    let d := modRrc d fun r => { r with sweeps := nput r.sweeps key { left := rows.length + 1 } }
    let d := opIssue { lun := l, cls := 4, cop := 0, col := k % 4 * cw, row := row, count := cw, arg := 0, use := .sweep l row k, pred := true } d
    each rows (fun d r =>
      let s := packOffs (rowOffsets d l r false)
      opIssue { lun := l, cls := 4, cop := 0, col := k % 4 * cw, row := row, count := cw, offs := s.1, offsHi := s.2, arg := r + 1, use := .sweep l row k } d) d

/-- THRESHOLD_SWEEP (R190). -/
def execThresholdSweep (lun row k : Nat) (st : State) : Host.Outcome State Fault Refusal := onDev (sweepDev lun row k) st

/-- The sweep of one page type ends: with the last type of its group the group counts as swept. -/
def sweepMark (l key : Nat) (d : Dev) : Dev :=
  let d := modRrc d fun x => { x with sweeps := nerase x.sweeps key, sweptAt := nput x.sweptAt key d.ageMin }
  let fresh := fun k : Nat => match nfind d.rrc.sweptAt k with
    | some t => decide (d.ageMin ≤ t + 60 * getF d F.rrcTiming_SWEEP_H)
    | none => false
  if (sweepTypes d l key).all fresh then statsCommon F.rrcSweep_GROUPS 0 1 d else d

/-- A read of a sweep has ended; with the last one the entry jumps where a row has at least 25 % fewer corrected bits. -/
def sweepEnd (l row : Nat) (o : Op) (r : OpResult) (d : Dev) : Dev :=
  let key := sweepKey d l row
  match nfind d.rrc.sweeps key with
  | none => d
  | some s =>
    let bits := if r.code = 0 ∧ r.outcomes = [16] then some r.maxBits else none
    let s := if o.arg = 0 then { s with pred := bits }
      else match bits, s.best with
        | some b, some (_, x) => if b < x then { s with best := some (o.arg - 1, b) } else s
        | some b, none => { s with best := some (o.arg - 1, b) }
        | none, _ => s
    let s := { s with left := s.left - 1 }
    if s.left ≠ 0 then modRrc d fun x => { x with sweeps := nput x.sweeps key s }
    else
      let d := sweepMark l key d
      match s.best with
      | none => d
      | some (q, b) =>
        let better := match s.pred with
          | some p => decide (b < p ∧ 4 * b ≤ 3 * p)
          | none => true
        let t := pageType d l (pgOfRow d l row) false
        let g := blkGroup d l (blkOfRow d l row)
        let d1 := if better then learnJump l (blkOfRow d l row) t (rowOffsets d l q false) q d else d
        if getThr d1 l g t = getThr d l g t then d1 else statsCommon F.rrcSweep_JUMPS 0 1 d1

end Sys2Proof.Machine
end

