-- ==== Sys2Proof/Machine/Dma.lean ====
section
/-! DEFINITION. Machine/Dma.lean: the ladle (R308 to R329): contexts, descriptors, bursts, requests, kicks, pause and enable. -/

namespace Sys2Proof.Machine

open Sys2Proof

def getCtx (d : Dev) (k : Nat) : DmaCtx := nget {} d.dma.ctxs k
def modCtx (k : Nat) (f : DmaCtx → DmaCtx) (d : Dev) : Dev := modDma d fun m => { m with ctxs := nmod {} m.ctxs k f }

/-- Contexts issue bursts: a run mode or FACTORY, and no power failure latched (R329). -/
def ladleMay (d : Dev) : Bool := (d.mode.mode.run || decide (d.mode.mode = .factory)) && !d.pins.pfail

def ctxEn (d : Dev) (k : Nat) : Bool := isSet d F.dmaCtxcfg_EN k
def ctxStream (d : Dev) (k : Nat) : Bool := isSet d F.dmaCtxcfg_KIND k
def ctxPaced (d : Dev) (k : Nat) : Bool := isSet d F.dmaCtxcfg_PACE k
def ctxQuantum (d : Dev) (k : Nat) : Nat := 64 * max 1 (getF d F.dmaCtxcfg_QUANTUM k)

/-- A DACK pulse on line k (R34). -/
def dackPulse (k : Nat) (d : Dev) : Dev := modCtx k (fun c => { c with dacks := c.dacks + 1 }) d

/-! ### Descriptors (Table DMA-1, R314, R315) -/

/-- A descriptor's 32 bytes. -/
def descrOf (a : Nat) (b : List Byte) : Descr :=
  let fl := leAt b 12 2
  { at_ := a, addr := leAt b 0 8, len := leAt b 8 4, eop := nbit fl 0, barrier := nbit fl 1, hw := nbits fl 4 2, fix := nbit fl 5,
    tail := nbit (leAt b 16 8) 0, link := leAt b 16 8 / 32 * 32 % 2 ^ 48 }

/-- A bad descriptor (R315). -/
def descrBad (b : List Byte) : Bool :=
  let x := descrOf 0 b
  let fl := leAt b 12 2
  !zeroAt b 6 2 || !zeroAt b 11 1 || decide (64 ≤ fl) || !zeroAt b 14 2 || decide (nbits (leAt b 16 8) 4 1 ≠ 0) || !zeroAt b 22 2 ||
    !zeroAt b 24 8 || decide (x.len = 0) || decide (x.hw = 7) || (x.fix && decide (x.addr % 2 ^ x.hw ≠ 0)) || (decide (x.link = 0) && !x.tail)

/-- Read a descriptor of context k. -/
def ctxFetch (k a : Nat) (d : Dev) : Dev :=
  let c := getCtx d k
  let (p, d) := match c.purp with
    | some p => (p, d)
    | none => newPurp (.ctx k) d
  let p := match c.cmd with | some arr => (getCmd d arr).purpose.getD p | none => p
  mpReadRange p .descr a 32 k (match c.cmd with | some arr => (getCmd d arr).cls | none => 3)
    (modCtx k (fun c => { c with reading := true, next := some a, purp := if c.cmd.isSome then c.purp else some p }) d)

/-- The chain goes on at address a, once the barrier lets it (R317). -/
def ctxFollow (k a : Nat) (d : Dev) : Dev := ctxFetch k a (modCtx k (fun c => { c with desc := none, rem := 0 }) d)

/-- TAIL-WAIT is entered after a descriptor whose LINK shows END (R320). -/
def tailWait (k : Nat) (d : Dev) : Dev :=
  let c := getCtx d k
  let d := modCtx k (fun c => { c with state := if c.state = 3 ∨ c.state = 4 then c.state else 2, before := 2, tailAt := (c.desc.map (·.at_)).getD c.tailAt,
                                       desc := none, rem := 0 }) d
  let d := when (isSet d F.dmaCtxcfg_TW_EV k) (fun d => setF d F.dmaCtxstat_TAIL_EV 1 k) d
  if c.kickPend then ctxFetch k (getCtx d k).tailAt (modCtx k (fun c => { c with kickPend := false }) d) else d

/-- The descriptor in hand is used up: the chain goes on, or the tail has been reached and its data is in (R320). -/
def descrEnd (k : Nat) (d : Dev) : Dev :=
  let c := getCtx d k
  match c.desc with
  | none => d
  | some x =>
    if c.rem ≠ 0 then d
    else
      let d := modCtx k (fun c => { c with barr := x.barrier }) d
      if c.cmd.isSome then
        if c.cmdLeft = 0 then modCtx k (fun c => { c with desc := none }) d
        else if x.tail then modCtx k (fun c => { c with desc := none }) d
        else ctxFollow k x.link d
      else if x.tail then (if c.bursts = [] then tailWait k d else d)
      else ctxFollow k x.link d

/-! ### Words into the FIFO (R318, R324) -/

/-- The group whose link carries the words of FIFO k. -/
def fifoGroup (d : Dev) (k : Nat) : Nat := let gs := liveGroups d; if gs.isEmpty then 0 else gs.getD (k % gs.length) 0

/-- Hand one word to the FIFO front (R324). -/
def emitWord (k tag : Nat) (bs : List Byte) (d : Dev) : Dev :=
  let i := (getFifo d k).sent
  let d := modFifo k (fun f => { f with sent := i + 1, resv := f.resv - 1 }) d
  hsend (fifoGroup d k) 2 (.wdata k i tag 64 (bs ++ zeros (64 - bs.length))) d

/-- Words of the bytes, in order; the last one carries END where the packet ends. -/
def emitWords (k : Nat) (eop : Bool) : Nat → List Byte → Dev → List Byte × Dev
  | 0, bs, d => (bs, d)
  | fuel + 1, bs, d =>
    if bs.length < 64 ∨ (bs.length = 64 ∧ eop) then
      if eop ∧ bs ≠ [] then ([], emitWord k (128 + bs.length % 64) bs d) else (bs, d)
    else emitWords k eop fuel (bs.drop 64) (emitWord k 0 (bs.take 64) d)

/-- Bursts whose data is in, in order of issue, go through the holding register; a paced request completes with its last. -/
def ctxDrain (k : Nat) : Nat → Dev → Dev
  | 0, d => d
  | fuel + 1, d =>
    match (getCtx d k).bursts with
    | [] => d
    | b :: rest =>
      match b.data with
      | none => d
      | some bs =>
        let old := (getCtx d k).hold
        let d := modFifo k (fun f => { f with src := f.src ++ [(64 * f.sent + old.length, b.addr, b.len)] }) d
        let (hold, d) := emitWords k b.eop 64 (old ++ slice bs b.skip b.len) d
        let d := modCtx k (fun c => { c with hold := hold, bursts := rest }) d
        let d := when b.last (modCtx k fun c => { c with dackAt := c.dackAt ++ [(getFifo d k).sent] }) d
        ctxDrain k fuel d

/-! ### The command in hand of a COMMAND context (R308) -/

/-- Sectors of an ended command that came to nothing: its incomplete bytes leave the FIFO's assembly. -/
def fifoCut (k : Nat) (d : Dev) : Dev := modFifo k (fun f => { f with asm := max f.asm f.sent, asmOff := 0 }) d

/-- The context gives up its command: bursts on their way are disregarded and their words given back. -/
def ctxRelease (k : Nat) (d : Dev) : Dev :=
  let c := getCtx d k
  let w := (c.bursts.map (·.words)).sum
  let d := modCtx k (fun c =>
    { c with state := 0, cmd := none, cmdLeft := 0, desc := none, rem := 0, bursts := [], hold := [], pktBytes := 0, barr := false,
             reading := false }) d
  fifoCut k (modFifo k (fifoUnreserve w) d)

/-- A write ends early with a status: it keeps the sectors already STAGED, and they run to DURABLE (R266, R280). The LBAs of a
zone that it was to fill and has not are pad. -/
def writeFail (arr status : Nat) (d : Dev) : Dev :=
  let c := getCmd d arr
  let ns := getNs d c.ns
  let z := c.lba / zsze d ns
  let hole := !ns.random && decide (c.accepted < c.need)
  let d := when hole (fun d => modZone d c.ns z fun x => { x with pads := x.pads ++ [(c.lba % zsze d ns + c.accepted, c.need - c.accepted)] }) d
  let d := modCmd arr (fun c => { c with need := c.accepted, staged := decide (0 < c.accepted) }) d
  let d := match c.path with
    | some k => if (getCtx d k).cmd = some arr then ctxRelease k d else d
    | none => d
  let d := cmdFinish arr status (if c.opc = 3 then c.start else c.accepted) d
  let d := when hole (zonePads c.ns z c.cls 4096) d
  match c.path with
  | some k => fifoUnbind k (fifoPump k d)
  | none => d

/-- The next command whose data a COMMAND context moves, in arrival order. -/
def ctxStart (k : Nat) (d : Dev) : Dev :=
  let c := getCtx d k
  if c.cmd.isSome ∨ ctxStream d k ∨ !ctxEn d k ∨ c.state = 3 ∨ c.state = 4 then d
  else match (getFifo d k).takers.find? (fun a => let q := getCmd d a; decide (q.st = .running ∧ q.dmode ≠ 3) && !q.ladled && decide (0 < q.need)) with
    | none => d
    | some a =>
      let q := getCmd d a
      let d := modCmd a (fun q => { q with ladled := true }) d
      let d := modCtx k (fun c => { c with cmd := some a, cmdLeft := q.need * 4096, state := 1, pktBytes := 0, barr := false }) d
      if q.dmode = 2 then ctxFetch k q.dptr d
      else modCtx k (fun c => { c with desc := some { addr := q.dptr, len := q.need * 4096, tail := true }, cur := q.dptr, rem := q.need * 4096 }) d

/-- Requests whose words have all been accepted in the FIFO's slices give their DACK pulse (R34). -/
def dackSettle (k : Nat) (d : Dev) : Dev :=
  let due := (getCtx d k).dackAt.filter fun n => decide (n ≤ (getFifo d k).wr)
  let d := modCtx k (fun c => { c with dackAt := c.dackAt.filter fun n => !decide (n ≤ (getFifo d k).wr) }) d
  each due (fun d _ => dackPulse k d) d

/-- The command in hand has had all its bytes asked for and brought: the context takes the next one. A chain that ended
short, or in a bad descriptor, completes the command INVALID_FIELD once the words before its end have arrived (R315, R316). -/
def ctxSettle (k : Nat) (d : Dev) : Dev :=
  let d := dackSettle k d
  let c := getCtx d k
  match c.cmd with
  | none => d
  | some arr =>
    if c.reading ∨ c.desc.isSome ∨ c.bursts ≠ [] then d
    else if c.cmdLeft = 0 then ctxStart k (modCtx k (fun c => { c with cmd := none, state := if c.state = 1 then 0 else c.state, before := 0 }) d)
    else if (getFifo d k).wr < (getFifo d k).sent then d
    else ctxStart k (writeFail arr 2 d)

/-- With a power failure latched, the holding register is emptied once the bursts in flight are in (R329). -/
def ctxSpill (k : Nat) (d : Dev) : Dev :=
  if d.pins.pfail then modCtx k (fun c => if c.bursts = [] then { c with hold := [] } else c) d else d

/-- Data of burst `id` of context k arrives. -/
def ctxData (k id : Nat) (bs : List Byte) (d : Dev) : Dev :=
  ctxSettle k <| ctxSpill k <| xoffCheck k <| descrEnd k (ctxDrain k 4096 (modCtx k (fun c =>
    { c with bursts := c.bursts.map fun b => if b.id = id then { b with data := some bs } else b }) d))

/-- A descriptor of context k arrives (R315, R316, R320). -/
def descrArrive (k : Nat) (bs : List Byte) (d : Dev) : Dev :=
  let c := getCtx d k
  match c.next with
  | none => d
  | some a =>
    let d := modCtx k (fun c => { c with reading := false, next := none }) d
    let x := descrOf a bs
    if descrBad bs then
      let d := setF d F.dmaCtxstat_CHAIN_ERR 1 k
      match c.cmd with
      | some _ => ctxSettle k (modCtx k (fun c => { c with desc := none, rem := 0 }) d)
      | none => modCtx k (fun c => { c with state := 0, desc := none, rem := 0 }) d
    else if c.cmd.isNone ∧ (c.state = 2 ∨ ((c.state = 3 ∨ c.state = 4) ∧ c.before = 2)) then
      -- the tail's LINK read again after a kick (R320)
      if x.tail then (if c.kickPend then ctxFetch k a (modCtx k (fun c => { c with kickPend := false }) d) else d)
      else ctxFetch k x.link (modCtx k (fun c => if c.state = 2 then { c with state := 1 } else { c with before := 1 }) d)
    else modCtx k (fun c => { c with desc := some x, cur := x.addr, rem := x.len }) d

/-! ### Bursts (R311, R313, R318, R326) -/

/-- The next burst of context k: host bytes of it. -/
def burstLen (c : DmaCtx) (x : Descr) : Nat :=
  let lim := if c.cmd.isSome then min c.rem c.cmdLeft else c.rem
  if x.hw = 6 && !x.fix then min lim (2048 - c.cur % 2048) else min lim (min (2 ^ x.hw) (64 - c.cur % 64))

/-- FIFO words that n more bytes of the packet fill. -/
def burstWords (c : DmaCtx) (n : Nat) (eop : Bool) : Nat :=
  (if eop then ceilDiv (c.pktBytes + n) 64 else (c.pktBytes + n) / 64) - c.pktBytes / 64

/-- FIFO words that a quantum of q bytes fills, with a packet's end in the descriptor in hand. -/
def quantumWords (c : DmaCtx) (x : Descr) (q : Nat) : Nat :=
  if x.eop && decide (c.rem ≤ q) then burstWords c c.rem true + (q - c.rem) / 64 else burstWords c q false

/-- The class-0 write share has the slices that w more words of FIFO k need. -/
def shareTakes (d : Dev) (k cls w : Nat) : Bool := decide (cls = 0 ∧ ceilDiv (w - shareTail (getFifo d k)) 1024 ≤ shareRoom d)

/-- FIFO k is not full for w words (R326). -/
def fifoRoom (d : Dev) (k w : Nat) : Bool := decide (fifoFill (getFifo d k) + w ≤ getF d F.fifoCfg_SIZE k * 1024)

/-- The command among `ts` that sector n from now on belongs to. -/
def takerAt (d : Dev) : List Nat → Nat → Option Nat
  | [], _ => none
  | a :: ts, n =>
    let c := getCmd d a
    if n < c.need - c.accepted then some a else takerAt d ts (n - (c.need - c.accepted))

/-- The command that context k's next words belong to: the one in hand, or the one of its stream that the sector being moved is for.
DEDUCED (log 103): a stream's words go to its commands in order, 4,096 bytes a sector. -/
def ctxTaker (d : Dev) (k : Nat) : Option Nat :=
  match (getCtx d k).cmd with
  | some a => some a
  | none =>
    let f := getFifo d k
    let ahead := (f.secs.filter fun s => s.arr.isNone).length + ((f.sent + f.resv - f.asm) * 64 - f.asmOff) / 4096
    takerAt d (f.takers.filter fun a => decide ((getCmd d a).accepted < (getCmd d a).need)) ahead

/-- The class of context k's data: its command's (R143, R149), 3 for words that no command takes yet. -/
def ctxCls (d : Dev) (k : Nat) : Nat := match ctxTaker d k with | some a => (getCmd d a).cls | none => 3

/-- The data of a descriptor ends a packet with its last byte: EOP, or the command's last byte. -/
def burstEop (c : DmaCtx) (x : Descr) (n : Nat) : Bool :=
  if c.cmd.isSome then decide (n = c.cmdLeft) else x.eop && decide (n = c.rem)

/-- The purpose of context k's requests has failed: nothing further is issued for it (R467). -/
def ctxBad (d : Dev) (k : Nat) : Bool :=
  let c := getCtx d k
  let p := match c.cmd with | some a => (getCmd d a).purpose | none => c.purp
  ((p.bind (getPurp d)).map (·.failed)).getD false

/-- Context k has a burst to issue now. -/
def ctxReady (d : Dev) (k : Nat) : Bool :=
  let c := getCtx d k
  match c.desc with
  | none => false
  | some x =>
    ladleMay d && !ctxBad d k && !d.hup.coverStop && ctxEn d k && decide (c.state = 1) && !c.reading && decide (0 < c.rem) && !(c.barr && !c.bursts.isEmpty) &&
      decide (0 < getF d F.fifoCfg_SIZE k) &&
      (if ctxStream d k && ctxPaced d k then decide (0 < c.skip ∨ 0 < c.quantum ∨ 0 < c.pend)
       else
        let n := burstLen c x
        let w := burstWords c n (burstEop c x n)
        shareTakes d k (ctxCls d k) w || fifoRoom d k w)

/-- Take n bytes from the descriptor in hand. -/
def ctxTakeBytes (k n : Nat) (d : Dev) : Dev :=
  modCtx k (fun c => { c with cur := if (c.desc.map (·.fix)).getD false then c.cur else c.cur + n, rem := c.rem - n,
                              cmdLeft := c.cmdLeft - n }) d

/-- Issue the next burst of context k (R311, R313). -/
def ctxBurst (k : Nat) (d : Dev) : Dev :=
  let c := getCtx d k
  match c.desc with
  | none => d
  | some x =>
    if 0 < c.skip then
      let n := min c.skip c.rem
      descrEnd k (modCtx k (fun c => { c with skip := c.skip - n }) (ctxTakeBytes k n d))
    else
      let paced := ctxStream d k && ctxPaced d k
      let q := ctxQuantum d k
      if paced ∧ c.quantum = 0 ∧ !shareTakes d k (ctxCls d k) (quantumWords c x q) ∧ !fifoRoom d k (quantumWords c x q) then
        -- full for the whole quantum: its data is lost, and the request is complete at once (R326)
        let d := bump (setF d F.fifoStat_OVERRUN 1 k) F.fifoCnt_OVR_BURSTS k
        dackPulse k (fifoReport k none (modCtx k (fun c => { c with pend := c.pend - 1, skip := q }) d))
      else
        let d := if paced ∧ c.quantum = 0 then modCtx k (fun c => { c with pend := c.pend - 1, quantum := q }) d else d
        let c := getCtx d k
        let n := if paced then min (burstLen c x) c.quantum else burstLen c x
        let eop := burstEop c x n
        let w := burstWords c n eop
        let cls := ctxCls d k
        let sh := shareTakes d k cls w
        let d := when (decide (cls = 0) && !sh) (lapse 7) d
        let last := paced && decide (c.quantum = n)
        let a := c.cur / 64 * 64
        let b : Burst := { id := c.nextBurst, addr := c.cur, skip := c.cur % 64, len := n, eop := eop, last := last, words := w }
        let (p, d) := match c.cmd with
          | some arr => ((getCmd d arr).purpose.getD 0, d)
          | none => match c.purp with
            | some p => (p, d)
            | none => newPurp (.ctx k) d
        let d := modFifo k (fun f => if sh then shareReserve w f else { f with resv := f.resv + w }) d
        let d := modCtx k (fun c =>
          { c with bursts := c.bursts ++ [b], nextBurst := c.nextBurst + 1, quantum := c.quantum - n, barr := false,
                   pktBytes := if eop then 0 else c.pktBytes + n, purp := if c.cmd.isSome then c.purp else some p }) d
        let d := match c.cmd with | some arr => modCmd arr (fun q => { q with moved := true }) d | none => d
        let d := mpRequest { purp := p, use := .data, addr := a, beats := (c.cur % 64 + n + 63) / 64, tagA := b.id, tagB := k, cls := cls } d
        ctxSettle k (xoffCheck k (descrEnd k (ctxTakeBytes k n d)))

/-- Contexts with a burst of class-0 data, oldest command first (R311 step 1). -/
def c0Ctx (d : Dev) : Option Nat :=
  (((List.range 64).filter fun k => ctxReady d k && decide (ctxCls d k = 0)).foldl (fun (b : Option (Nat × Nat)) k =>
    let a := (ctxTaker d k).getD 0
    match b with
    | none => some (k, a)
    | some y => if a < y.2 then some (k, a) else b) none).map (·.1)

/-- The weights of the priority levels (R311). -/
def prioWeight (p : Nat) : Nat := [8, 4, 2, 1].getD p 1

/-- The context that the next MPR grant goes to (R311 step 2): its level and number. -/
def prioCtx (d : Dev) : Option (Nat × Nat × Bool) :=
  let ready := (List.range 64).filter fun k => ctxReady d k
  let work := (List.range 4).filter fun p => ready.any fun k => decide (getF d F.dmaCtxcfg_PRIO k = p)
  let pick := fun p => let r := nget 0 d.dma.rr p
    ((List.range 64).map fun i => (r + i) % 64).find? fun k => ready.contains k && decide (getF d F.dmaCtxcfg_PRIO k = p)
  match work.find? (fun p => decide (nget 0 d.dma.grants p < prioWeight p)) with
  | some p => (pick p).map fun k => (p, k, false)
  | none => match work with
    | p :: _ => (pick p).map fun k => (p, k, true)
    | [] => none

/-! ### The read path (R264, R309, R317, R318) -/

/-- The statuses of an Observe command, the first that applies first (R264, R315). -/
def readOrder : List Nat := [2, 8, 9, 0xB, 0xA, 0x12, 0x10, 0x11]

/-- Note an error status of a command at an LBA: the lowest LBA of each status is kept. -/
def errNote (arr status lba : Nat) (d : Dev) : Dev :=
  let low := fun (e : Nat × Nat) => if e.1 = status then (status, min e.2 lba) else e
  modCmd arr (fun c => { c with errs := if c.errs.any (fun e => decide (e.1 = status)) then c.errs.map low else c.errs ++ [(status, lba)] }) d

/-- Requests of a command's purpose that have not ended, and whether the purpose has failed. -/
def purpReqs (d : Dev) (c : Cmd) : Nat × Bool :=
  match c.purpose with
  | some p => match getPurp d p with
    | some x => (x.reqs, x.failed)
    | none => (0, false)
  | none => (0, false)

/-- Commands whose data moves on the read path, or that read no host memory but the medium. -/
def isObserve (c : Cmd) : Bool := decide (c.opc = 1 ∨ c.opc = 6 ∨ c.opc = 0x13)

/-- An Observe command has all its outcomes and its writes: it finishes (R261, R264, R467). -/
def readCheck (arr : Nat) (d : Dev) : Dev :=
  let c := getCmd d arr
  let (reqs, bad) := purpReqs d c
  let chainBad := c.errs.any fun e => decide (e.1 = 2)
  if c.st ≠ .running ∨ !isObserve c then d
  else if chainBad then
    if reqs ≠ 0 then d else cmdFinish arr 2 0 (match c.purpose with | some p => endPurp p d | none => d)
  else if c.left ≠ 0 ∨ (d.dma.rdq.any fun x => decide (x.1 = arr)) ∨ c.chain.isSome then d
  else
    let wait := decide (c.dmode = 1) || bad || (c.descs.getLast?.map (·.barrier)).getD false
    if wait ∧ reqs ≠ 0 then d
    else
      let d := match c.purpose with | some p => if reqs = 0 then endPurp p d else d | none => d
      match (readOrder.findSome? fun s => c.errs.find? fun e => decide (e.1 = s)) with
      | some e => cmdFinish arr e.1 (if c.opc = 0x13 then c.result else e.2) d
      | none => cmdFinish arr 0 (if c.opc = 0x13 then c.result else 2 ^ 64 - 1) d

/-- End positions of the descriptors of a chain that set BARRIER. -/
def barrEnds : List Descr → Nat → List Nat
  | [], _ => []
  | x :: xs, p => if x.barrier then (p + x.len) :: barrEnds xs (p + x.len) else barrEnds xs (p + x.len)

/-- The first barrier that a command has not passed. -/
def barrNext (c : Cmd) : Option Nat := (barrEnds c.descs 0).find? fun e => decide (c.barr < e)

/-- Everything before position e has had its outcome and its writes. -/
def barrPassed (d : Dev) (arr e : Nat) (c : Cmd) : Bool :=
  decide ((purpReqs d c).1 = 0) && !(d.dma.rdq.any fun x => decide (x.1 = arr ∧ x.2.1 < e)) &&
    (c.opc = 0x13 || (c.sources.take (ceilDiv e 4096)).all fun s => decide (s = Source.done))

/-- Bytes of a piece of the read path that can be written now. -/
def rdRoom (d : Dev) (x : Nat × Nat × List Byte) : Nat :=
  let c := getCmd d x.1
  if purpReqs d c |>.2 then 0
  else
    let n := min x.2.2.length (c.chainBytes - x.2.1)
    match barrNext c with
    | some e => if x.2.1 < e then min n (e - x.2.1) else if barrPassed d x.1 e c then n else 0
    | none => n

/-- The first access of n bytes from position `off` of a command's data: host address and length (R318). -/
def rdAccess : List Descr → Nat → Nat → Nat → Option (Nat × Nat)
  | [], _, _, _ => none
  | x :: ds, start, off, n =>
    if start + x.len ≤ off then rdAccess ds (start + x.len) off n
    else
      let s := off - start
      let a := if x.fix then x.addr else x.addr + s
      let m := min n (x.len - s)
      some (a, if x.hw = 6 && !x.fix then min m (2048 - a % 2048) else min m (min (2 ^ x.hw) (64 - a % 64)))

/-- The next piece of the read path: class 0 first, then the levels in the ratio of R311, each oldest first. -/
def rdNext (d : Dev) : Option (Nat × Nat × List Byte) :=
  let q := d.dma.rdq.filter fun x => decide (0 < rdRoom d x)
  let cls := fun (x : Nat × Nat × List Byte) => (getCmd d x.1).cls
  match q.find? (fun x => decide (cls x = 0)) with
  | some x => some x
  | none =>
    let work := [1, 2, 3].filter fun p => q.any fun x => decide (cls x = p)
    match (work.find? fun p => decide (nget 0 d.dma.grants (4 + p) < prioWeight p)).orElse fun _ => work.head? with
    | some p => q.find? fun x => decide (cls x = p)
    | none => none

/-- Count a grant of level p on the read path; a round ends when no level with work has one left. -/
def rdGrant (d : Dev) (p : Nat) : Dev :=
  let full := decide (prioWeight p ≤ nget 0 d.dma.grants (4 + p))
  modDma d fun m =>
    let g := if full then m.grants.filter (fun e => decide (e.1 < 4)) else m.grants
    { m with grants := nset 0 g (4 + p) (nget 0 g (4 + p) + 1) }

/-- One burst of the read path: the first access of a piece; what is left of the piece goes on waiting. -/
def rdBurst (x : Nat × Nat × List Byte) (d : Dev) : Dev :=
  let (arr, off, bs) := x
  let c := getCmd d arr
  let c := match barrNext c with | some e => if e ≤ off then { c with barr := e } else c | none => c
  let d := modCmd arr (fun q => { q with barr := c.barr, moved := true }) d
  match rdAccess c.descs 0 off (rdRoom d x) with
  | none => d
  | some (a, n) =>
    let rest := if n < bs.length then [(arr, off + n, bs.drop n)] else []
    let put := fun (y : Nat × Nat × List Byte) => if y = x then rest else [y]
    let d := if c.cls = 0 then d else rdGrant d c.cls
    let d := modDma d fun m => { m with rdq := m.rdq.flatMap put }
    let d := mpRequest { purp := c.purpose.getD 0, use := .data, write := true, addr := a / 64 * 64, beats := (a % 64 + n + 63) / 64,
                         data := bs.take n, qfo := a % 64, qle := (a + n - 1) % 64, tagB := off / 4096, cls := c.cls } d
    readCheck arr d

/-- Bytes for position `off` of a command's data join the read path. -/
def rdPut (arr off : Nat) (bs : List Byte) (d : Dev) : Dev :=
  if (purpReqs d (getCmd d arr)).2 then d else modDma d fun m => { m with rdq := m.rdq ++ [(arr, off, bs)] }

/-- DMA_BURST_ISSUE: memory port `port` grants one burst: to a context on an MPR port, to the read path on an MPW port (R311). -/
def burstDev (port : Nat) (d : Dev) : Dev :=
  if pickPort d (decide (4 ≤ port)) ≠ some port then d
  else if port < 4 then
    match c0Ctx d with
    | some k => ctxBurst k d
    | none =>
      match prioCtx d with
      | some (p, k, fresh) =>
        let d := modDma d fun m => { m with rr := nset 0 m.rr p ((k + 1) % 64), grants := let g := if fresh then [] else m.grants; nset 0 g p (nget 0 g p + 1) }
        ctxBurst k d
      | none => d
  else match rdNext d with
    | some x => rdBurst x d
    | none => d

/-- DMA_BURST_ISSUE (R311). -/
def execDmaBurstIssue (port : Nat) (st : State) : Host.Outcome State Fault Refusal := onDev (burstDev port) st

/-! ### Request lines, kicks, pause, enable (R312, R320 to R322) -/

/-- DRQ_EDGE: a rising edge on DRQ[k] (R33, R312, R329, Table FIJ-1 p = 3). -/
def drqDev (k : Nat) (d : Dev) : Dev :=
  if !running d ∨ d.pins.pfail ∨ d.mode.mode = .dormant then d
  else if !(ctxEn d k && ctxStream d k && ctxPaced d k) then d
  else
    let (a, d) := fijEvent d 3 k [1] false
    if a ≠ 0 then d
    else if 255 ≤ (getCtx d k).pend then setF d F.dmaCtxstat_REQ_OVERFLOW 1 k
    else modCtx k (fun c => { c with pend := c.pend + 1 }) d

/-- DRQ_EDGE (R312). -/
def execDrqEdge (k : Nat) (st : State) : Host.Outcome State Fault Refusal := onDev (drqDev (k % 64)) st

/-- DMA_KICK: a write to PRM_DMA_KICK (R320). -/
def kickDev (v : Nat) (d : Dev) : Dev :=
  let k := v % 64
  let c := getCtx d k
  if !socUp d ∨ !ctxEn d k ∨ !ctxStream d k then d
  else if c.state = 2 ∧ !c.reading then ctxFetch k c.tailAt d
  else modCtx k (fun c => { c with kickPend := true }) d

/-- DMA_KICK (R320). -/
def execDmaKick (v : Word) (st : State) : Host.Outcome State Fault Refusal := onDev (kickDev v.toNat) st

/-- CTX_PAUSE: PAUSE is set (R321). -/
def pauseDev (k : Nat) (d : Dev) : Dev :=
  if !socUp d ∨ 64 ≤ k then d
  else
    let d := setF d F.dmaCtxctl_PAUSE 1 k
    modCtx k (fun c => if c.state = 3 ∨ c.state = 4 ∨ !ctxEn d k then c else { c with before := c.state, state := 3 }) d

/-- CTX_PAUSE (R321). -/
def execCtxPause (k : Nat) (st : State) : Host.Outcome State Fault Refusal := onDev (pauseDev k) st

/-- PAUSE_COMPLETE: the outstanding bursts of a PAUSING context have returned (Table DMA-3 step 4). -/
def pausedDev (k : Nat) (d : Dev) : Dev :=
  modCtx k (fun c => if c.state = 3 ∧ c.bursts = [] ∧ !c.reading then { c with state := 4 } else c) d

/-- PAUSE_COMPLETE (R321). -/
def execPauseComplete (k : Nat) (st : State) : Host.Outcome State Fault Refusal := onDev (pausedDev k) st

/-- CTX_RESUME: PAUSE is cleared: the context goes on, or a pause in progress is cancelled (R321). -/
def resumeDev (k : Nat) (d : Dev) : Dev :=
  if !socUp d ∨ 64 ≤ k then d
  else
    let d := setF d F.dmaCtxctl_PAUSE 0 k
    let was := (getCtx d k).state
    let d := modCtx k (fun c => if c.state = 3 ∨ c.state = 4 then { c with state := c.before } else c) d
    let c := getCtx d k
    -- TAIL-WAIT is entered again: a kick that came meanwhile reads the LINK word (R320)
    if was ≠ 2 ∧ c.state = 2 ∧ c.kickPend ∧ !c.reading then ctxFetch k c.tailAt (modCtx k (fun c => { c with kickPend := false }) d)
    else ctxStart k d

/-- CTX_RESUME (R321). -/
def execCtxResume (k : Nat) (st : State) : Host.Outcome State Fault Refusal := onDev (resumeDev k) st

/-- EN of context k may be cleared: IDLE, TAIL-WAIT, PAUSED, or held as if paused (R322, R329). -/
def ctxMayOff (d : Dev) (k : Nat) : Bool :=
  let c := getCtx d k
  decide (c.state = 0 ∨ c.state = 2 ∨ c.state = 4) || (!ladleMay d && c.bursts.isEmpty && !c.reading)

/-- CTX_DISABLE: EN is cleared where it may be (R322). -/
def ctxOffDev (k : Nat) (d : Dev) : Dev :=
  let c := getCtx d k
  if !socUp d ∨ 64 ≤ k ∨ !ctxEn d k ∨ !ctxMayOff d k then d
  else
    let d := setF d F.dmaCtxcfg_EN 0 k
    let d := if ctxStream d k ∧ c.hold ≠ [] then
        emitWord k (128 + 64 + c.hold.length % 64) c.hold (modFifo k (fun f => { f with resv := f.resv + 1 }) d)
      else d
    modCtx k (fun c => { ({} : DmaCtx) with dacks := c.dacks, dackAt := c.dackAt, nextBurst := c.nextBurst }) d

/-- CTX_DISABLE (R322). -/
def execCtxDisable (k : Nat) (st : State) : Host.Outcome State Fault Refusal := onDev (ctxOffDev k) st

/-- The chain start registers of a context. -/
def chainStart (d : Dev) (k : Nat) : Nat := getF d F.dmaChainLo_ADDR k * 32 + getF d F.dmaChainHi_ADDR k * 2 ^ 32

/-- A context is enabled (R322): a STREAM context starts at PRM_DMA_CHAINk. -/
def ctxOn (k : Nat) (d : Dev) : Dev :=
  if ctxEn d k then d
  else
    let d := setF d F.dmaCtxcfg_EN 1 k
    let d := if isSet d F.dmaCtxctl_PAUSE k then modCtx k (fun c => { c with state := 3, before := if ctxStream d k then 1 else 0 }) d
      else modCtx k (fun c => { c with state := if ctxStream d k then 1 else 0 }) d
    if ctxStream d k then ctxFetch k (chainStart d k) d else ctxStart k d

/-- CTX_ENABLE (R322). -/
def ctxOnDev (k : Nat) (d : Dev) : Dev := if socUp d ∧ k < 64 then ctxOn k d else d
def execCtxEnable (k : Nat) (st : State) : Host.Outcome State Fault Refusal := onDev (ctxOnDev k) st

/-- A purpose of a STREAM context has failed: the context goes to IDLE as after a bad descriptor. -/
def ctxFailed (k : Nat) (d : Dev) : Dev :=
  let w := ((getCtx d k).bursts.map (·.words)).sum
  let d := modFifo k (fifoUnreserve w) (setF d F.dmaCtxstat_CHAIN_ERR 1 k)
  modCtx k (fun c => { c with state := 0, desc := none, rem := 0, bursts := [], reading := false, purp := none }) d

/-- The power-failure latch stops the ladle: bytes in holding registers are discarded (R329). -/
def ladlePowerFail (d : Dev) : Dev := each (d.dma.ctxs.map (·.1)) (fun d k => ctxSpill k d) d

end Sys2Proof.Machine
end

