-- ==== Sys2Proof/Machine/Energy.lean ====
section
/-! DEFINITION. Machine/Energy.lean: usable energy and cover (R334, R335), charging and the store's health (R336, R337),
the spindle link (R37, R38) and braking (R341). Energies are whole µJ, powers whole mW, rounded down. -/

namespace Sys2Proof.Machine

open Sys2Proof

/-! ### The HOLDUP section (Table HUP-1) -/

def huStore (d : Dev) : Nat := hupByte d 0 1
def huBattery (d : Dev) : Bool := nbit (huStore d) 0
def huSplCredit (d : Dev) : Bool := nbit (huStore d) 1
def huVmax (d : Dev) : Nat := hupByte d 2 2
def huVmin (d : Dev) : Nat := hupByte d 4 2
def huCnom (d : Dev) : Nat := hupByte d 6 2
def huEta (d : Dev) : Nat := hupByte d 8 1
def huEtaSpl (d : Dev) : Nat := hupByte d 9 1
def huPktl (d : Dev) : Nat := hupByte d 0x12 2
def huReserve (d : Dev) : Nat := hupByte d 0x14 2
def huTfix (d : Dev) : Nat := hupByte d 0x16 2
def huJ (d : Dev) : Nat := hupByte d 0x18 2
def huOmegaMin (d : Dev) : Nat := hupByte d 0x1A 2
def huAlphaMax (d : Dev) : Nat := hupByte d 0x1C 2
def huHealthH (d : Dev) : Nat := hupByte d 0x1E 2
def huRate (d : Dev) (l : Nat) : Nat := hupByte d (0x20 + 8 * l) 2
def huPower (d : Dev) (l : Nat) : Nat := hupByte d (0x22 + 8 * l) 2
def huLuns (d : Dev) (l : Nat) : Nat := hupByte d (0x24 + 8 * l) 1

/-! ### Usable energy (R334) -/

/-- FILT of KTL_AIN, not below zero. -/
def storeFilt (d : Dev) : Nat := (sext 16 (getF d F.adcData_FILT (hupByte d 0x0A 1))).toNat

/-- The filtered store voltage times 32,768, in 10 mV units. -/
def storeV15 (d : Dev) : Nat := storeFilt d * hupByte d 0x0C 2

/-- The store is at V_MAX. -/
def storeFull (d : Dev) : Bool := decide (huVmax d * 32768 ≤ storeV15 d)

/-- E_KTL in µJ, at most 200 J (R334). -/
def eKtlNow (d : Dev) : Nat :=
  let v := storeV15 d
  let m := huVmin d * 32768
  if v ≤ m then 0
  else
    let e :=
      if huBattery d then
        min (huCnom d * 100000) (huCnom d * 100000 * (v - m) / ((huVmax d - huVmin d) * 32768))
      else huEta d * min (huCnom d) d.hup.cMeas * (v * v - m * m) / (2000 * 2 ^ 30)
    min 200000000 e

/-- E_SPL in µJ (R334). -/
def eSplNow (d : Dev) : Nat :=
  let w := d.spl.omega
  if splLost d ∨ w ≤ huOmegaMin d then 0 else huEtaSpl d * huJ d * (w * w - huOmegaMin d * huOmegaMin d) / 2000

/-- P_SPL in mW (R334). -/
def pSplNow (d : Dev) : Nat :=
  if splLost d ∨ d.spl.omega ≤ huOmegaMin d then 0 else huEtaSpl d * huJ d * d.spl.omega * huAlphaMax d / 1000000

/-! ### Cover (R335) -/

/-- Plan level l covers b bytes with energy e (µJ) and power p (mW). -/
def levelCovers (d : Dev) (l b e p : Nat) : Bool :=
  let r := huRate d l * 1000
  decide (huRate d l ≠ 0) && decide (huPower d l * 1000 ≤ p) &&
    decide (huPower d l * (huTfix d * r + b) + huReserve d * 100000 * r ≤ e * r)

/-- The test of COVER for a bound of b bytes (R335). -/
def coverFor (d : Dev) (b : Nat) : Bool :=
  let c := huSplCredit d
  let e := eKtlNow d + (if c then eSplNow d else 0)
  let p := huPktl d * 1000 + (if c then pSplNow d else 0)
  decide (b + 67108864 ≤ d.hup.zoneBytes) && (List.range 4).any fun l => levelCovers d l b e p

/-- COVER (R335). -/
def cover (d : Dev) : Bool := coverFor d (boundWith d (regionBytes d))

/-- The hold-up registers follow the estimate: EST, KTL, BOUND and STAT (R334, R335). -/
def estimateDev (d : Dev) : Dev :=
  if !socUp d || !d.cfg.done || decide (d.mode.mode = .holdup) then d
  else
    let was := isSet d F.hupStat_COVER
    let now := cover d
    let d := setF d F.hupEst_E_KTL (divOpen (eKtlNow d) 100000).toNat
    let d := setF d F.hupEst_E_SPL (min 0xFFFF (divOpen (eSplNow d) 1000000).toNat)
    let d := setF d F.hupBound_B (ceilDiv (boundWith d (regionBytes d)) 4096)
    let d := setF d F.hupKtl_V (min 0xFFFF (divOpen (storeV15 d) 32768).toNat)
    let d := setF (setF d F.hupStat_COVER (b2n now)) F.hupStat_SPL_AVAIL (b2n (decide (0 < eSplNow d)))
    let d := modHup d fun h => { h with coverStop := !now && (h.coverStop || (was && d.mode.mode.run)) }
    if was && !now && d.mode.mode.run then setF d F.hupStat_COVER_LOST 1 else d

/-- ENERGY_ESTIMATE (R334). -/
def execEnergyEstimate (st : State) : Host.Outcome State Fault Refusal := onDev estimateDev st

/-! ### Charging (R336) -/

/-- KTL_CHG_EN is high. -/
def chargeWanted (d : Dev) : Bool :=
  socUp d && decide (d.mode.mode ≠ .holdup) && d.cfg.done && !inputOn d 4 && !isSet d F.hupCfg_CHG_DIS &&
    decide (d.hup.phase ≠ 1)

/-- KTL_CHG_EN follows its conditions, and loop slot 1 follows KTL_CHG_EN (R336, Table LOOP-2). -/
def chargeUpdate (d : Dev) : Dev :=
  let w := chargeWanted d
  if w = d.hup.chargeEn then d
  else
    let d := setF (modHup d fun h => { h with chargeEn := w }) F.hupStat_CHARGING (b2n w)
    if !(getSlot d 1).sect then d
    else if w then
      let sp := divOpen (hupByte d 0x10 2 * 32768 : Nat) (hupByte d 0x0E 2)
      slotClose 1 (modSlot d 1 fun x => imgSet x 6 (wrapI 16 (q15Sat sp).1))
    else slotOpen 1 d

/-! ### Health (R337) -/

/-- A health check may be made now. -/
def healthMay (d : Dev) : Bool :=
  socUp d && d.cfg.done && (decide (d.mode.mode = .warm ∨ d.mode.mode = .safe) || d.mode.mode.run) && storeFull d &&
    decide (d.hup.phase = 0)

/-- Phase 1 begins: the charger is off. -/
def healthStart (d : Dev) : Dev :=
  if healthMay d then chargeUpdate (modHup d fun h => { h with phase := 1, phaseAt := d.now }) else d

/-- KETTLE_HEALTH_CHECK: HEALTH_H hours of age clock have passed since the last check, for either kind of store (DEDUCED, log 107). -/
def healthDue (d : Dev) : Bool := decide (huHealthH d * 60 ≤ d.ageMin - d.hup.checkMin)

/-- KETTLE_HEALTH_CHECK (R337). -/
def execKettleHealthCheck (st : State) : Host.Outcome State Fault Refusal :=
  onDev (fun d => when (healthDue d) healthStart d) st

/-- HEALTH_GO (R337). -/
def execHealthGo (st : State) : Host.Outcome State Fault Refusal := onDev healthStart st

/-- The check ends without a result. -/
def healthFail (d : Dev) : Dev :=
  chargeUpdate (setF (modHup d fun h => { h with phase := 0, checkMin := d.ageMin }) F.hupStat_HC_FAIL 1)

/-- The check ends with C mF: within 25 % to 150 % of C_NOM it counts (R337). -/
def healthResult (c : Nat) (d : Dev) : Dev :=
  let n := huCnom d
  if c * 4 < n ∨ 3 * n < c * 2 then healthFail d
  else
    let d := modHup d fun h => { h with phase := 0, checkMin := d.ageMin, goodMin := some d.ageMin, cMeas := c }
    let d := setF (setF d F.hupKtl_C_MEAS (min 0xFFFF c)) F.hupEsr_ESR (min 0xFFFF d.hup.esr)
    chargeUpdate (when (decide (c * 10 < n * 8)) (fun d => setF d F.hupStat_KTL_WEAK 1) d)

/-- A phase ends (R337). Phase 1: by the droop of 2 %, or by its timeout. Phase 2: the step a in 10 mV units at a charge
current of b mA. Phase 3: the charge a in mC, and the voltage b recovered in 10 mV units. -/
def healthPhaseDev (timeout : Bool) (a b : Nat) (d : Dev) : Dev :=
  if d.hup.phase = 1 then
    if timeout then healthFail d
    else if huBattery d then
      let d' := modHup d fun h => { h with phase := 0, checkMin := d.ageMin, goodMin := some d.ageMin }
      chargeUpdate (when (decide (d.now < d.hup.phaseAt + ms 10000)) (fun d => setF d F.hupStat_KTL_WEAK 1) d')
    else chargeUpdate (modHup d fun h => { h with phase := 2, phaseAt := d.now })
  else if d.hup.phase = 2 then
    modHup d fun h => { h with phase := 3, phaseAt := d.now, esr := if b = 0 then 0xFFFF else (divOpen (a * 10000 : Nat) b).toNat }
  else if d.hup.phase = 3 then
    if b = 0 then healthFail d else healthResult (divOpen (a * 100 : Nat) b).toNat d
  else d

/-- HEALTH_PHASE_END (R337). -/
def execHealthPhaseEnd (timeout : Bool) (a b : Nat) (st : State) : Host.Outcome State Fault Refusal :=
  onDev (fun d => when (socUp d) (healthPhaseDev timeout a b) d) st

/-! ### The spindle link and braking (R37, R38, R341) -/

/-- Drive a spindle command with SPL_CMD_VALID (Table PRT-8): SEQ goes up by one for each. -/
def splDrive (op alpha : Nat) (d : Dev) : Dev :=
  let q := (d.spl.seq + 1) % 16
  modSpl d fun s =>
    { s with seq := q, lastCmd := BitVec.ofNat 32 (op * 2 ^ 28 + q * 2 ^ 24 + alpha % 65536), valid := true, next := none, ackSeen := false }

/-- Send a spindle command; while the one before it is not accepted, the newest waits (DEDUCED, log 91). -/
def splSend (op alpha : Nat) (d : Dev) : Dev :=
  if d.spl.valid then modSpl d fun s => { s with next := some (op, alpha) } else splDrive op alpha d

/-- A status word echoes the SEQ of the command on the link: the host chip has accepted it, and what waits is sent. -/
def splAccepted (seq : Nat) (d : Dev) : Dev :=
  if d.spl.valid && decide (seq = d.spl.seq) then
    let d1 := modSpl d fun s => { s with valid := false }
    match d.spl.next with
    | some x => if x.1 = 1 ∧ d.spl.fault then modSpl d1 fun s => { s with next := none } else splDrive x.1 x.2 d1
    | none => d1
  else d

/-- The deceleration of R341, in 0.1 rad/s². -/
def alphaFor (d : Dev) : Nat :=
  let den := huEtaSpl d * huJ d * d.spl.omega
  if den = 0 then huAlphaMax d else min (huAlphaMax d) (divOpen (huPower d d.hup.level * 1000000000 : Nat) den).toNat

/-- What is sent: α × (1 + out) while slot 2 is closed with ALPHA as its destination (Table LOOP-3). -/
def alphaSent (d : Dev) (a : Nat) : Nat :=
  let x := getSlot d 2
  if x.sect && decide (slotDst x = 0x20) && decide (x.st ≠ 0) then
    (clampI 0 (huAlphaMax d) (divOpen (a * (32768 + x.out)) 32768)).toNat
  else a

/-- The level steps down until its power fits the sources that are left (R341). -/
def stepDown : Nat → Dev → Dev
  | 0, d => d
  | n + 1, d =>
    if d.hup.level = 0 ∨ huPower d d.hup.level * 1000 ≤ huPktl d * 1000 + pSplNow d then d
    else stepDown n (modHup d fun h => { h with level := h.level - 1 })

/-- The spindle counts as lost (R341). -/
def splLoss (d : Dev) : Dev :=
  if d.hup.running then
    let d := stepDown 4 (modSpl d fun s => { s with braking := false })
    setF d F.hupStat_LEVEL d.hup.level
  else d

/-- BRAKE_REFRESH: the command with a fresh α, every 1 ms while braking (R341). -/
def brakeDev (d : Dev) : Dev :=
  if d.hup.running && d.spl.braking && !splLost d then
    let a := alphaFor d
    splSend 1 (alphaSent d a) (modLoops d fun l => { l with alpha := a })
  else d

/-- BRAKE_REFRESH (R341). -/
def execBrakeRefresh (st : State) : Host.Outcome State Fault Refusal := onDev brakeDev st

/-- A status word arrives (R37, R38). The first ACK after BRAKE closes slot 2 (Table LOOP-2). -/
def splStatusDev (w : Word) (d : Dev) : Dev :=
  let n := w.toNat
  if !socUp d || decide (nbits n 31 28 ≠ 8) then d
  else
    let ack := nbit n 20 && decide (nbits n 27 24 = d.spl.seq)
    let first := ack && !d.spl.ackSeen && d.spl.braking
    let d := modSpl d fun s =>
      { s with status := w, lastAt := some d.now, lost := false, stopped := nbit n 22, fault := nbit n 21,
               omega := nbits n 15 0, ackSeen := s.ackSeen || ack }
    let d := modLoops d fun l => { l with omegas := ((nbits n 15 0, d.now) :: l.omegas).filter fun p => decide (d.now ≤ p.2 + ms 10) }
    let d := if first && (getSlot d 2).sect && decide ((getSlot d 2).st = 0) then slotClose 2 d else d
    let d := splAccepted (nbits n 27 24) d
    if nbit n 21 then splLoss d else d

/-- SPL_STATUS_WORD (R37). -/
def execSplStatusWord (w : Word) (st : State) : Host.Outcome State Fault Refusal := onDev (splStatusDev w) st

/-- No status word has arrived for 500 µs (R38). -/
def splTimeoutDev (d : Dev) : Dev := if socUp d then splLoss (modSpl d fun s => { s with lost := true }) else d

/-- SPL_STATUS_TIMEOUT (R38). -/
def execSplStatusTimeout (st : State) : Host.Outcome State Fault Refusal := onDev splTimeoutDev st

end Sys2Proof.Machine
end

