-- ==== Sys2Proof/Machine/Modes.lean ====
section
/-! DEFINITION. Machine/Modes.lean: requests, wakes, descents and idle expiry (R79 to R88, R466). A transition that takes time
stands in `trans` until its own command ends it; the mode that it goes on to stands in `onward`. -/

namespace Sys2Proof.Machine

open Sys2Proof

def getSq (d : Dev) (q : Nat) : SubQ := nget {} d.cq.sqs q
def modSq (q : Nat) (f : SubQ → SubQ) (d : Dev) : Dev := modCq d fun c => { c with sqs := nmod {} c.sqs q f }

/-- Fetching from an SQ stops: entry reads outstanding are to be discarded, and their entries asked for again (R469). -/
def fetchStop (q : Nat) (d : Dev) : Dev := modSq q (fun s => { s with ask := s.head, period := s.period + 1, got := [] }) d

/-- Fetching stops at every SQ. -/
def fetchStopAll (d : Dev) : Dev := each (d.cq.sqs.map (·.1)) (fun d q => fetchStop q d) d

/-- Enter a mode; the charger, the schedulers and the threshold sweeps follow it (R141, R155, R190, R336). -/
def goMode (m : Mode) (cause : Nat) (d : Dev) : Dev :=
  schedMode (chargeUpdate (enterMode m cause (if m = .maintain then d else sweepsEnd d)))

/-- The conditions of DORMANT entry (R82). -/
def dormantMay (d : Dev) : Bool :=
  d.cq.regions.isEmpty && !(d.hk.slots.any fun s => decide (s.2 = 1)) && d.hk.update.isNone && !burstWarn d

/-- A request for mode m meets the conditions of Table MOD-2. -/
def modeMay (d : Dev) (m : Mode) : Bool :=
  match m with
  | .factory => decide (level d = 0) && d.pins.straps.getLsbD 3 && decide (d.mode.mode ≠ .safe)
  | .standby => !burstWarn d && decide (d.mode.mode ≠ .safe)
  | .dormant => dormantMay d && decide (d.mode.mode ≠ .safe)
  | _ => decide (d.mode.mode ≠ .safe)

/-- A transition begins. -/
def transBegin (k : TransKind) (target : Mode) (d : Dev) : Dev :=
  modMode d fun s => { s with trans := some { kind := k, target := target, cause := s.onwardCause, since := d.now } }

/-- No mode is left to go on to. -/
def onwardEnd (d : Dev) : Dev := modMode d fun s => { s with onward := none }

/-- The mode gone on to is refused on the way: RESULT 2 where a request named it (R80, R82). -/
def onwardRefuse (d : Dev) : Dev :=
  modMode d fun s => { s with onward := none, result := if s.onwardCause = 1 then 2 else s.result }

/-- One step towards the mode that Premel is to reach, through the modes between (R79). -/
def modeStep : Nat → Dev → Dev
  | 0, d => d
  | n + 1, d =>
    match d.mode.onward with
    | none => d
    | some m =>
      let now := d.mode.mode
      let c := d.mode.onwardCause
      if d.mode.trans.isSome then d
      else if m = now then onwardEnd d
      else if now = .dormant then transBegin .wakeDormant .warm d
      else if m = .safe then onwardEnd (goMode .safe c d)
      else if now = .standby then
        if m = .dormant then (if dormantMay d then transBegin .toDormant .dormant d else onwardRefuse d)
        else transBegin .wakeStandby .warm d
      else if now = .warm then
        if m = .standby ∨ m = .dormant then (if burstWarn d then onwardRefuse d else transBegin .toStandby .standby d)
        else if d.mode.restored then modeStep n (onwardEnd (goMode m c d))
        else d
      else if now.run ∧ m.run then onwardEnd (goMode m c d)
      else if now.run ∨ now = .factory then
        fetchStopAll (modMode (transBegin .drain .warm d) fun s => { s with bgStop := true })
      else onwardEnd d

/-- Go towards mode m for a cause. -/
def modeTo (m : Mode) (cause : Nat) (d : Dev) : Dev :=
  modeStep 4 (modMode d fun s => { s with onward := some m, onwardCause := cause })

/-- A descent is in progress. -/
def inDescent (d : Dev) : Bool :=
  match d.mode.trans with
  | some t => decide (t.kind = .toStandby ∨ t.kind = .toDormant)
  | none => false

/-- A wake event that leads to mode `goal` arrives in a descent: it acts at the descent's next step (R83, R466). The first one gives the
cause; a doorbell after it takes Premel on into its run mode. -/
def descentWake (cause : Nat) (goal : Mode) (d : Dev) : Dev :=
  modMode d fun s => { s with trans := s.trans.map fun t =>
    { t with wake := match t.wake with
      | some w => some (w.1, if w.2.1 = .warm then goal else w.2.1, w.2.2)
      | none => some (cause, goal, d.now) } }

/-- The wake event that ends a descent acts while the core power switches are closed: back to WARM as Table MOD-4 runs. -/
def descentAct (d : Dev) : Dev :=
  match d.mode.trans with
  | some t =>
    match t.wake with
    | some w =>
      modMode d fun s =>
        { s with onward := some w.2.1, onwardCause := w.1, trans := some { kind := .wakeStandby, target := .warm, cause := w.1, since := d.now } }
    | none => d
  | none => d

/-- The times of a descent's steps before its last, in AO ticks from its start (Tables MOD-9 and MOD-10). DESIGN CHOICE (log 93): each
step takes place at its bound. -/
def descentSteps : TransKind → List Nat
  | .toStandby => [us 2]
  | .toDormant => [us 20, us 30]
  | _ => []

/-- A step of the descent has come since the wake event that is to end it. -/
def descentDue (d : Dev) : Bool :=
  match d.mode.trans with
  | some t =>
    match t.wake with
    | some w => (descentSteps t.kind).any fun x => decide (w.2.2 < t.since + x ∧ t.since + x ≤ d.now)
    | none => false
  | none => false

/-- A wake event that stops at WARM (R85); the idle counts start again. -/
def wakeEvent (cause : Nat) (d : Dev) : Dev :=
  if inDescent d then descentWake cause .warm d
  else if d.mode.trans.isNone ∧ (d.mode.mode = .dormant ∨ d.mode.mode = .standby) then modeTo .warm cause d
  else modMode d fun s => { s with idleFrom := d.now }

/-- The run mode that a submission doorbell leads to (PRM_PWR_MODE_REQ.RUN). -/
def runTarget (d : Dev) : Mode := (modeOf (getF d F.pwrModeReq_RUN)).getD .serve

/-- A submission doorbell has been taken (R85). -/
def doorbellWake (d : Dev) : Dev :=
  let m := d.mode.mode
  if m = .loading ∨ m = .awaitPatch then modMode d fun s => { s with doorbellKept := true }
  else if inDescent d then descentWake 2 (runTarget d) d
  else
    let wakes : Bool := match d.mode.trans with
      | some t => decide (t.kind = .wakeStandby ∨ t.kind = .wakeDormant)
      | none => true
    if (m = .dormant ∨ m = .standby ∨ m = .warm) ∧ wakes then
      if d.mode.onward = none ∨ d.mode.onward = some .warm then modeTo (runTarget d) 2 d else d
    else d

/-- A write to PRM_PWR_MODE_REQ (R80): its REQ, none for 0 and for a code that may not be requested, and its RUN. DEDUCED (log 93): a
request for the mode in force is accepted with RESULT 0 also while a transition is in progress; any other request made then has no effect
but RESULT 3, so it ends no descent.
-/
def modeReq (m : Option Mode) (legal : Bool) (r : Nat) (d : Dev) : Dev :=
  if !running d then d
  else
    let d := if 6 ≤ r ∧ r ≤ 9 then setF d F.pwrModeReq_RUN r else d
    let res := fun v d => modMode d fun s => { s with result := v }
    let now := d.mode.mode
    match m with
    | none => if legal then d else res 1 d
    | some m =>
      if now = .loading ∨ now = .awaitPatch ∨ now = .holdup ∨ now = .sanitize then res 1 d
      else if m = now then res 0 d
      else if d.mode.trans.isSome ∨ d.mode.onward.isSome then res 3 d
      else if !modeMay d m then res 2 d
      else modeTo m 1 (res 0 d)

/-- MODE_REQ_NONE (R80, R85). -/
def execModeReqNone (run : BitVec 4) (st : State) : Host.Outcome State Fault Refusal := onDev (modeReq none true run.toNat) st
/-- MODE_REQ_DORMANT (R80, R82). -/
def execModeReqDormant (run : BitVec 4) (st : State) : Host.Outcome State Fault Refusal := onDev (modeReq (some .dormant) true run.toNat) st
/-- MODE_REQ_STANDBY (R80, R88). -/
def execModeReqStandby (run : BitVec 4) (st : State) : Host.Outcome State Fault Refusal := onDev (modeReq (some .standby) true run.toNat) st
/-- MODE_REQ_WARM (R80, R81). -/
def execModeReqWarm (run : BitVec 4) (st : State) : Host.Outcome State Fault Refusal := onDev (modeReq (some .warm) true run.toNat) st
/-- MODE_REQ_SERVE (R79, R80). -/
def execModeReqServe (run : BitVec 4) (st : State) : Host.Outcome State Fault Refusal := onDev (modeReq (some .serve) true run.toNat) st
/-- MODE_REQ_INGEST (R79, R80). -/
def execModeReqIngest (run : BitVec 4) (st : State) : Host.Outcome State Fault Refusal := onDev (modeReq (some .ingest) true run.toNat) st
/-- MODE_REQ_DRAIN (R79, R80). -/
def execModeReqDrain (run : BitVec 4) (st : State) : Host.Outcome State Fault Refusal := onDev (modeReq (some .drain) true run.toNat) st
/-- MODE_REQ_MAINTAIN (R79, R80). -/
def execModeReqMaintain (run : BitVec 4) (st : State) : Host.Outcome State Fault Refusal := onDev (modeReq (some .maintain) true run.toNat) st
/-- MODE_REQ_SAFE (R79, R80, R300). -/
def execModeReqSafe (run : BitVec 4) (st : State) : Host.Outcome State Fault Refusal := onDev (modeReq (some .safe) true run.toNat) st
/-- MODE_REQ_FACTORY (R79, R80). -/
def execModeReqFactory (run : BitVec 4) (st : State) : Host.Outcome State Fault Refusal := onDev (modeReq (some .factory) true run.toNat) st

/-- No transition is in progress or waits. -/
def modeIdle (d : Dev) : Bool := d.mode.trans.isNone && d.mode.onward.isNone && !burstWarn d && running d

/-- WARM_IDLE_EXPIRY: WARM_IDLE has elapsed without a wake event (Table MOD-2, R88). DESIGN CHOICE (log 93): an expiry while media state is
being restored has no effect. -/
def warmIdleDev (d : Dev) : Dev :=
  if modeIdle d && decide (d.mode.mode = .warm) && !d.mode.restoring && decide (getF d F.pwrIdle_WARM_IDLE ≠ 0) then modeTo .standby 4 d else d

/-- WARM_IDLE_EXPIRY (R88). -/
def execWarmIdleExpiry (st : State) : Host.Outcome State Fault Refusal := onDev warmIdleDev st

/-- STBY_IDLE_EXPIRY: STBY_IDLE has elapsed without a wake event; refused silently under R82. -/
def stbyIdleDev (d : Dev) : Dev :=
  if modeIdle d && decide (d.mode.mode = .standby) && decide (getF d F.pwrIdle_STBY_IDLE ≠ 0) && dormantMay d then modeTo .dormant 4 d else d

/-- STBY_IDLE_EXPIRY (R82, R88). -/
def execStbyIdleExpiry (st : State) : Host.Outcome State Fault Refusal := onDev stbyIdleDev st

/-- Channel c loses its power with its group: its records and bus are gone, its PHY is parked, the counts and flags of its per-channel
registers restart, and a pending calibration is discarded (Table MOD-5 steps 4 and 5, R389, R437). -/
def chanOff (c : Nat) (d : Dev) : Dev :=
  let d := calDiscard c (modChan d c fun h =>
    { h with recs := [], running := none, bus := [], wire := [], ceLow := none, up := false, lastVol := [], phy := none, faults := [] })
  each [Reg.chnErr, .seqFault, .seqFaultinfo, .seqUtil] (fun d r => setReg d r c (resetVal d.build r c)) d

/-- What DORMANT loses (R82, R396, R409): unlocked namespaces, pantry, map cache, housekeeper RAM, operation records, threshold table, queue state. -/
def dormantLoss (d : Dev) : Dev :=
  let d := if d.rp.wait.isSome then { d with rp := { last := some (0, true), wait := none } } else d
  let d := traceDiscard <| lockAll <| when (decide (1 ≤ d.sec.st ∧ d.sec.st ≤ 5)) relock d
  let d := modCodec d fun x =>
    { total := x.total, fifoBytes := x.fifoBytes, c0Bytes := x.c0Bytes, pbBytes := x.pbBytes, nextCw := x.nextCw, nextIop := x.nextIop }
  let d := modXlt d fun x => { x with lines := [], victims := [] }
  let d := modRrc d fun r => { r with table := [], lastOfs := [], sweeps := [], filter := [] }
  let d := modDma d fun m =>
    { m with fifos := [], rdq := [], ctxs := m.ctxs.map fun c => (c.1, { c.2 with bursts := [], hold := [], reading := false }) }
  let d := each (List.range d.build.channels) (fun d c => chanOff c d) d
  let d := modHk d fun h => { h with load := 0, shed := 0, thrCount := 0 }
  each (List.range d.build.groups) (fun d g => modGroup d g fun x =>
    { x with keep := decide (x.stage = .gated ∨ x.stage = .handshake), quiesced := false, stage := .off }) d

/-- DESCENT_COMPLETE: the last step of a descent (Tables MOD-9, MOD-10). A wake event since the step before acts at it: before the fast
clocks stop, or with the core power switches open, so that the wake runs as Table MOD-3 (R466). -/
def descentDev (d : Dev) : Dev :=
  match d.mode.trans with
  | some t =>
    if t.kind = .toStandby then (if t.wake.isSome then descentAct d else modeStep 4 (goMode .standby t.cause d))
    else if t.kind = .toDormant then
      let d := goMode .dormant t.cause (dormantLoss d)
      match t.wake with
      | some w => modeTo w.2.1 w.1 d
      | none => modeStep 4 d
    else d
  | none => d

/-- DESCENT_COMPLETE (R466). -/
def execDescentComplete (st : State) : Host.Outcome State Fault Refusal := onDev descentDev st

end Sys2Proof.Machine
end

