-- ==== Sys2Proof/Machine/Queues.lean ====
section
/-! DEFINITION. Machine/Queues.lean: submission and completion queues in host memory (R250 to R259, R279, R281, R282, R469):
set-up, doorbells, fetching, the completion entry and the pending bits. -/

namespace Sys2Proof.Machine

open Sys2Proof

def getCqq (d : Dev) (q : Nat) : ComplQ := nget {} d.cq.cqs q
def modCqq (q : Nat) (f : ComplQ → ComplQ) (d : Dev) : Dev := modCq d fun c => { c with cqs := nmod {} c.cqs q f }

def sqEn (d : Dev) (q : Nat) : Bool := isSet d F.cqSqcfg_EN q
def cqEn (d : Dev) (q : Nat) : Bool := isSet d F.cqCqcfg_EN q
/-- Entries of a queue. -/
def sqLen (d : Dev) (q : Nat) : Nat := getF d F.cqSqcfg_SIZE q + 1
def cqLen (d : Dev) (q : Nat) : Nat := getF d F.cqCqcfg_SIZE q + 1
def sqBase (d : Dev) (q : Nat) : Nat := getF d F.cqSqbaseLo_ADDR q * 4096 + getF d F.cqSqbaseHi_ADDR q * 2 ^ 32
def cqBase (d : Dev) (q : Nat) : Nat := getF d F.cqCqbaseLo_ADDR q * 4096 + getF d F.cqCqbaseHi_ADDR q * 2 ^ 32

/-- A queue error: its flag, and QNUM of the first one not yet cleared. -/
def cqErr (f : FRef) (cq : Bool) (q : Nat) (d : Dev) : Dev :=
  let first := !isSet d F.cqErr_DBERR && !isSet d F.cqErr_CFGERR
  let d := when first (fun d => setF (setF d F.cqErr_CQ (b2n cq)) F.cqErr_QNUM q) d
  setF d f 1

/-- A doorbell that is ignored (R252). -/
def dbErr (cq : Bool) (q : Nat) (d : Dev) : Dev :=
  eqNote 0x12 0xFFF (q + (if cq then 2 ^ 31 else 0)) 6 (cqErr F.cqErr_DBERR cq q d)

/-! ### Completion entries (R254, R255, R279) -/

/-- DUR of a completion (R19, Table CQ-2). -/
def durCode (c : Cmd) : Nat :=
  if c.status ≠ 0 then (if (c.opc = 2 ∨ c.opc = 3) ∧ c.staged then (if c.durable then 2 else 1) else 0)
  else if c.opc = 4 ∨ c.opc = 0x21 then 2
  else if [2, 3, 5, 0x11, 0x12].contains c.opc then (if c.durable then 2 else 1)
  else 0

/-- The 16 bytes of a completion entry (Table CQ-5). -/
def cqEntry (d : Dev) (c : Cmd) (p : Bool) : List Byte :=
  natLe 8 c.result ++ natLe 2 (getSq d c.sq).head ++ natLe 1 c.sq ++ natLe 1 (durCode c + c.cflags % 64 / 4 * 4 + b2n c.demoted * 64) ++
    natLe 2 c.cid ++ natLe 1 c.status ++ natLe 1 (b2n p)

/-- The CQ of a command. -/
def cmdCq (d : Dev) (c : Cmd) : Nat := getF d F.cqSqcfg_CQID c.sq

/-- Write the completion entry of a command into its CQ's next slot. -/
def cqWrite (arr : Nat) (d : Dev) : Dev :=
  let c := getCmd d arr
  let q := cmdCq d c
  let x := getCqq d q
  let (p, d) := newPurp (.cqWrite q arr) d
  let bs := cqEntry d c x.phase
  let t := (x.tail + 1) % cqLen d q
  let d := modCmd arr (fun c => { c with st := .writing }) d
  let a := cqBase d q + 16 * x.tail
  let d := modCqq q (fun y => { y with tail := t, phase := if t = 0 then !y.phase else y.phase, waiting := y.waiting.filter (· ≠ arr) }) d
  mpWriteRange p .completion a bs 0 c.cls d

/-- CQ q has no slot that may be written. -/
def cqFull (d : Dev) (q : Nat) : Bool := decide (((getCqq d q).tail + 1) % cqLen d q = (getCqq d q).head)

/-- Completions that wait for room in CQ q are written in order (R255). -/
def cqPump (q : Nat) : Nat → Dev → Dev
  | 0, d => d
  | n + 1, d =>
    match (getCqq d q).waiting with
    | [] => d
    | a :: _ => if cqFull d q ∨ (getCqq d q).stopped ∨ !cqEn d q then d else cqPump q n (cqWrite a d)

/-! ### Doorbells (R252, R255, R303) -/

/-- An SQ tail doorbell takes effect. -/
def sqTail (q v : Nat) (d : Dev) : Dev :=
  if !sqEn d q ∨ (getSq d q).rst ∨ sqLen d q ≤ v then dbErr false q d
  else doorbellWake (modSq q (fun s => { s with tail := v, dbAt := d.now }) d)

/-- SQ_DOORBELL: recorded in DORMANT, where it starts the wake (R86), and while quiesced (R303). -/
def sqDbDev (q v : Nat) (d : Dev) : Dev :=
  if !running d ∨ 64 ≤ q then d
  else if d.mode.mode = .dormant then doorbellWake (modSq q (fun s => { s with kept := some v }) d)
  else if d.ord.quiesce ∧ !(getSq d q).rst then modSq q (fun s => { s with kept := some v }) d
  else sqTail q v d

/-- SQ_DOORBELL (R252). -/
def execSqDoorbell (q : Nat) (v : Word) (st : State) : Host.Outcome State Fault Refusal := onDev (sqDbDev q (v.toNat % 65536)) st

/-- Entries of a CQ that host firmware has not consumed. -/
def cqUnread (d : Dev) (q : Nat) : Nat := ((getCqq d q).tail + cqLen d q - (getCqq d q).head) % cqLen d q

/-- A CQ head doorbell takes effect: completions that waited for the room are written. -/
def cqHead (q v : Nat) (d : Dev) : Dev :=
  let c := getCqq d q
  if !cqEn d q ∨ cqLen d q ≤ v ∨ cqUnread d q < (v + cqLen d q - c.head) % cqLen d q then dbErr true q d
  else cqPump q 65536 (modCqq q (fun c => { c with head := v }) d)

/-- CQ_DOORBELL. -/
def cqDbDev (q v : Nat) (d : Dev) : Dev :=
  if !running d ∨ 64 ≤ q then d
  else if d.mode.mode = .dormant then modCqq q (fun c => { c with keptHead := some v }) d
  else cqHead q v d

/-- CQ_DOORBELL (R252, R255). -/
def execCqDoorbell (q : Nat) (v : Word) (st : State) : Host.Outcome State Fault Refusal := onDev (cqDbDev q (v.toNat % 65536)) st

/-- Doorbells recorded take effect, each SQ's before the CQ's of the same number. -/
def keptApply (d : Dev) : Dev :=
  each (List.range 64) (fun d q =>
    let d := match (getSq d q).kept with
      | some v => sqTail q v (modSq q (fun s => { s with kept := none }) d)
      | none => d
    match (getCqq d q).keptHead with
    | some v => cqHead q v (modCqq q (fun c => { c with keptHead := none }) d)
    | none => d) d

/-! ### Fetching (R257, R258, R422, R469) -/

/-- Submission entries are fetched now: the mode, media state restored, no drain, no quiesce, no power failure. -/
def fetchMay (d : Dev) : Bool :=
  running d && d.mode.mode.fetches && d.mode.restored && d.mode.trans.isNone && !d.ord.quiesce && !d.pins.pfail && !d.sec.sanitize

/-- Entries of SQ q that are not asked for. -/
def sqUnasked (d : Dev) (q : Nat) : Nat := ((getSq d q).tail + sqLen d q - (getSq d q).ask) % sqLen d q

/-- Commands of SQ q that are fetched or asked for and have not completed. -/
def sqOut (d : Dev) (q : Nat) : Nat := (getSq d q).inflight + ((getSq d q).ask + sqLen d q - (getSq d q).head) % sqLen d q

/-- HK_THROTTLE limits the SQs with C0_EN = 0 (R422). -/
def throttled (d : Dev) : Bool := isSet d F.hkThrottle_EN && decide (getF d F.hkThrottle_THR_LVL ≤ d.hk.load)

/-- Commands that the throttle leaves for this 100 µs. -/
def thrLeft (d : Dev) : Nat :=
  let n := if d.hk.thrFrom + us 100 ≤ d.now then 0 else d.hk.thrCount
  max 1 (getF d F.hkThrottle_MAX_CMDS) - n

/-- Entries that one turn of SQ q takes. -/
def turnSize (d : Dev) (q : Nat) : Nat :=
  if !sqEn d q ∨ (getSq d q).stopped ∨ (getSq d q).rst then 0
  else
    let all := ((List.range 64).map fun i => sqOut d i).sum
    let n := min (min 64 (sqUnasked d q)) (min (1024 - sqOut d q) (8192 - all))
    if isSet d F.cqSqcfg_C0_EN q ∨ !throttled d then n else min n (thrLeft d)

/-- The SQ whose turn it is: those with C0_EN first, each kind in round robin. -/
def fetchPick (d : Dev) : Option Nat :=
  let pick := fun (c0 : Bool) (r : Nat) =>
    ((List.range 64).map fun i => (r + i) % 64).find? fun q => (isSet d F.cqSqcfg_C0_EN q == c0) && decide (0 < turnSize d q)
  (pick true d.cq.rr0).orElse fun _ => pick false d.cq.rr1

/-- Entries of one read request from a slot: within 2 KiB, and not past the ring's end. -/
def fetchRun (d : Dev) (q slot n : Nat) : Nat := min n (min (32 - slot % 32) (sqLen d q - slot))

/-- Entries that the two read requests of a turn of n ask for. -/
def turnRuns (d : Dev) (q n : Nat) : Nat :=
  let s := (getSq d q).ask
  let m := fetchRun d q s n
  m + fetchRun d q ((s + m) % sqLen d q) (n - m)

/-- Ask for the entries of a turn, in up to two read requests. -/
def fetchAsk (p q : Nat) : Nat → Nat → Dev → Dev
  | 0, _, d => d
  | k + 1, n, d =>
    if n = 0 then d
    else
      let slot := (getSq d q).ask
      let m := fetchRun d q slot n
      let d := mpReadRange p .entry (sqBase d q + slot * 64) (m * 64) slot (if isSet d F.cqSqcfg_C0_EN q then 0 else 3) d
      fetchAsk p q k (n - m) (modSq q (fun s => { s with ask := (slot + m) % sqLen d q }) d)

/-- SQ_FETCH: the arbiter gives one SQ its turn (R257). -/
def sqFetchDev (d : Dev) : Dev :=
  if !fetchMay d then d
  else match fetchPick d with
    | none => d
    | some q =>
      let d := queueHeal q d
      let n := turnRuns d q (turnSize d q)
      let c0 := isSet d F.cqSqcfg_C0_EN q
      let d := modCq d fun c => if c0 then { c with rr0 := (q + 1) % 64 } else { c with rr1 := (q + 1) % 64 }
      let d := if c0 then d else modHk d fun h =>
        if h.thrFrom + us 100 ≤ d.now then { h with thrFrom := d.now, thrCount := n } else { h with thrCount := h.thrCount + n }
      let (p, d) := newPurp (.sqFetch q (getSq d q).ask n (getSq d q).period) d
      fetchAsk p q 2 n d

/-- SQ_FETCH (R257). -/
def execSqFetch (st : State) : Host.Outcome State Fault Refusal := onDev sqFetchDev st

/-- The opcodes of Table CQ-2. -/
def cmdOpcodes : List Nat := [1, 2, 3, 4, 5, 6, 0x10, 0x11, 0x12, 0x13, 0x20, 0x21, 0x30, 0x31]

/-- The record of a fetched entry (R258, R259, R283). -/
def cmdOf (d : Dev) (q : Nat) (b : List Byte) : Cmd :=
  let fl := leAt b 1 1
  let cls := nbits fl 3 2
  let dem := decide (cls = 0) && !isSet d F.cqSqcfg_C0_EN q
  let opc := leAt b 0 1
  { sq := q, cid := leAt b 2 2, locked := nsLocked d (leAt b 4 1), opc := opc, flags := fl, cls := if dem then 1 else cls, demoted := dem, ns := leAt b 4 1,
    lba := leAt b 8 8, nlb := leAt b 16 4 % 65536, dmode := leAt b 5 1 % 4, ctx := leAt b 6 1, dptr := leAt b 0x18 8 % 2 ^ 48,
    arg0 := leAt b 0x20 8, arg1 := leAt b 0x28 8, entry := b, doorbell := (getSq d q).dbAt,
    st := if cmdOpcodes.contains opc then .fetched else .finished, status := if cmdOpcodes.contains opc then 0 else 1 }

/-- An entry is fetched: it takes the next arrival number, and HEAD moves past it. -/
def entryTake (q : Nat) (b : List Byte) (d : Dev) : Dev :=
  let a := d.cq.nextArr
  let c := cmdOf d q b
  let d := modCq d fun x => { x with nextArr := a + 1 }
  let d := modOrd d fun o => { o with cmds := nput o.cmds a c }
  modSq q (fun s => { s with head := (s.head + 1) % sqLen d q, inflight := s.inflight + 1 }) d

/-- Entries that are in take their numbers in queue order. -/
def entriesTake (q : Nat) : Nat → Dev → Dev
  | 0, d => d
  | n + 1, d =>
    match nfind (getSq d q).got (getSq d q).head with
    | some b =>
      let h := (getSq d q).head
      entriesTake q n (entryTake q b (modSq q (fun s => { s with got := nerase s.got h }) d))
    | none => d

/-- The response of an entry read from `slot` is accepted (R258). -/
def entriesArrive (q slot period : Nat) (bs : List Byte) (d : Dev) : Dev :=
  if (getSq d q).period ≠ period then d
  else
    let d := each (List.range (bs.length / 64)) (fun d i => modSq q (fun s => { s with got := nput s.got (slot + i) (slice bs (64 * i) 64) }) d) d
    entriesTake q 64 d

/-- A submission fetch has failed for good: the queue is stopped (R29, R282). -/
def fetchFailed (q period : Nat) (d : Dev) : Dev :=
  if (getSq d q).period ≠ period then d
  else eqNote 0x10 0xFFF q 6 (fetchStop q (modSq q (fun s => { s with stopped := true }) d))

/-! ### The pending bits (R256) -/

/-- PEND of CQ q. -/
def pendGet (d : Dev) (q : Nat) : Bool := if q < 32 then nbit (getF d F.cqPendlo_PEND) q else nbit (getF d F.cqPendhi_PEND) (q - 32)
def pendPut (q : Nat) (v : Bool) (d : Dev) : Dev :=
  if q < 32 then setF d ⟨.cqPendlo, q, q⟩ (b2n v) else setF d ⟨.cqPendhi, q - 32, q - 32⟩ (b2n v)

/-- The pending bit is set (R256): entries written from here on count for the clear. -/
def pendSet (q : Nat) (d : Dev) : Dev := modCqq q (fun c => { c with afterPend := 0 }) (pendPut q true d)

/-- An entry of CQ q has been written (R256). -/
def cqWritten (q : Nat) (c0 : Bool) (d : Dev) : Dev :=
  let d := modCqq q (fun c => { c with sinceClear := c.sinceClear + 1, firstAt := c.firstAt.orElse fun _ => some d.now,
                                       afterPend := c.afterPend + 1 }) d
  if pendGet d q then d
  else if c0 ∨ 2 ^ getF d F.cqCqcfg_AGG_N q ≤ (getCqq d q).sinceClear then pendSet q d
  else d

/-- CQ_AGG_TIMER: AGG_T has passed since the first entry after the clear (R256). -/
def aggDev (q : Nat) (d : Dev) : Dev :=
  if (getCqq d q).firstAt.isSome ∧ getF d F.cqCqcfg_AGG_T q ≠ 0 ∧ !pendGet d q then pendSet q d else d

/-- CQ_AGG_TIMER (R256). -/
def execCqAggTimer (q : Nat) (st : State) : Host.Outcome State Fault Refusal := onDev (aggDev q) st

/-- Clear PEND of one CQ; it sets again where entries written after the last setting are unconsumed (R256). -/
def pendClear (q : Nat) (d : Dev) : Dev :=
  if !pendGet d q then d
  else
    let again := decide (0 < min (getCqq d q).afterPend (cqUnread d q))
    let d := modCqq q (fun c => { c with sinceClear := 0, firstAt := none }) (pendPut q false d)
    if again then pendSet q d else d

/-- CQ_PEND_CLEAR: a W1C of PRM_CQ_PENDLO or PRM_CQ_PENDHI. -/
def pendClearDev (hi : Bool) (v : Nat) (d : Dev) : Dev :=
  if !socUp d then d
  else each ((List.range 32).filter fun i => nbit v i) (fun d i => pendClear (i + 32 * b2n hi) d) d

/-- CQ_PEND_CLEAR (R256). -/
def execCqPendClear (hi : Bool) (mask : Word) (st : State) : Host.Outcome State Fault Refusal := onDev (pendClearDev hi mask.toNat) st

/-! ### Set-up (R251) -/

/-- An enabled SQ names CQ q. -/
def cqNamed (d : Dev) (q : Nat) : Bool := (List.range 64).any fun s => sqEn d s && decide (getF d F.cqSqcfg_CQID s = q)

/-- SQ_ENABLE: EN of SQ q is set, with the other fields as they stand. -/
def sqOnDev (q : Nat) (d : Dev) : Dev :=
  if !socUp d ∨ 64 ≤ q ∨ sqEn d q then d
  else if getF d F.cqSqcfg_SIZE q = 0 ∨ !cqEn d (getF d F.cqSqcfg_CQID q) then cqErr F.cqErr_CFGERR false q d
  else modSq q (fun s => { ({} : SubQ) with period := s.period + 1 }) (setF d F.cqSqcfg_EN 1 q)

/-- SQ_ENABLE (R251). -/
def execSqEnable (q : Nat) (st : State) : Host.Outcome State Fault Refusal := onDev (sqOnDev q) st

/-- CQ_ENABLE (R251). -/
def cqOnDev (q : Nat) (d : Dev) : Dev :=
  if !socUp d ∨ 64 ≤ q ∨ cqEn d q then d
  else if getF d F.cqCqcfg_SIZE q = 0 then cqErr F.cqErr_CFGERR true q d
  else modCqq q (fun _ => {}) (setF d F.cqCqcfg_EN 1 q)

/-- CQ_ENABLE (R251). -/
def execCqEnable (q : Nat) (st : State) : Host.Outcome State Fault Refusal := onDev (cqOnDev q) st

/-- CQ_RESET: a reset of CQ q, or with `off` a clearing of its EN (R251, R281). -/
def cqResetDev (q : Nat) (off : Bool) (d : Dev) : Dev :=
  if !socUp d ∨ 64 ≤ q ∨ (off && !cqEn d q) then d
  else if cqNamed d q then cqErr F.cqErr_CFGERR true q d
  else
    let d := modCqq q (fun _ => {}) (pendPut q false d)
    if off then setF d F.cqCqcfg_EN 0 q else d

/-- CQ_RESET (R281). -/
def execCqReset (q : Nat) (off : Bool) (st : State) : Host.Outcome State Fault Refusal := onDev (cqResetDev q off) st

end Sys2Proof.Machine
end

