-- ==== Sys2Proof/Machine/Cmds.lean ====
section
/-! DEFINITION. Machine/Cmds.lean: the checks of a command (R260 to R263, R470), and what each command of Table CQ-2 does when it
is checked and recorded (R264 to R278, R283 to R289, R304, R305, R471 to R473). A command is checked in arrival order. -/

namespace Sys2Proof.Machine

open Sys2Proof

/-! ### Checks (R260, R470) -/

def opIn (c : Cmd) (l : List Nat) : Bool := l.contains c.opc

/-- The DMODE values that a command accepts (Table CQ-2). -/
def dmodesOf (opc : Nat) : List Nat := if opc = 1 then [1, 2] else if opc = 2 ∨ opc = 3 then [1, 2, 3] else if opc = 0x13 then [1] else [0]

/-- ARG0 of a command is allowed (Table CQ-2, R269). -/
def arg0Ok (d : Dev) (c : Cmd) : Bool :=
  if c.opc = 0x10 then decide (c.arg0 < 8) && (if (getNs d c.ns).verify = 3 then decide (c.arg0 / 2 ≤ 2) else decide (c.arg0 < 2))
  else if c.opc = 0x21 then decide (c.arg0 < 2 ^ 32)
  else if c.opc = 0x30 then true
  else if c.opc = 0x31 then decide (c.arg0 < 64)
  else decide (c.arg0 = 0)

/-- DPTR of a command is allowed: zero where it is not used; descriptors are 32-byte aligned (R314). -/
def dptrOk (c : Cmd) : Bool :=
  zeroAt c.entry 0x1E 2 &&
    (if c.opc = 0x30 ∨ c.dmode = 1 then true else if c.dmode = 2 then decide (c.dptr % 32 = 0) else decide (c.dptr = 0))

/-- The first field check of Table CQ-1 that fails, 0 where none does (R260). -/
def fieldCheck (d : Dev) (c : Cmd) : Nat :=
  let b := c.entry
  let known := decide (c.ns < 16) && (getNs d c.ns).present
  if 32 ≤ c.flags then 2
  else if !opIn c [0x20, 0x21, 0x30, 0x31] && !known && !(decide (c.opc = 4 ∧ c.ns = 0xFF)) then 3
  else if !(dmodesOf c.opc).contains (leAt b 5 1) then 2
  else if (if c.dmode = 3 then decide (64 ≤ c.ctx) else decide (c.ctx ≠ 0)) then 2
  else if !zeroAt b 7 1 then 2
  else if !zeroAt b 0xE 2 || (!opIn c [1, 2, 3, 5, 6, 0x10, 0x11, 0x12, 0x13] && decide (c.lba ≠ 0)) then 2
  else if !zeroAt b 0x12 2 || (!opIn c [1, 2, 3, 5, 6, 0x13] && decide (c.nlb ≠ 0)) then 2
  else if !zeroAt b 0x14 4 then 2
  else if !dptrOk c then 2
  else if !arg0Ok d c then 2
  else if c.arg1 ≠ 0 then 2
  else if !zeroAt b 0x30 16 then 2
  else 0

/-- The namespace kind (NOT_FOR_KIND). -/
def kindCheck (d : Dev) (c : Cmd) : Nat :=
  if opIn c [3, 0x10, 0x11, 0x12, 0x13] && (getNs d c.ns).random then 4
  else if c.opc = 5 && !(getNs d c.ns).random then 4
  else 0

/-- Sectors of a namespace. -/
def nsSize (d : Dev) (ns : NsSec) : Nat := if ns.random then ns.lbaCount else zoneCount ns * zsze d ns

/-- The zone of a command's LBA. -/
def cmdZone (d : Dev) (c : Cmd) : Nat := c.lba / zsze d (getNs d c.ns)

/-- A range of a ZONED namespace touches an LBA from ZCAP to ZSZE - 1 of a zone (R263). -/
def touchesGap (d : Dev) (n : Nat) (ns : NsSec) (a len : Nat) : Bool :=
  let s := zsze d ns
  (rangeFrom (a / s) ((a + len - 1) / s + 1 - a / s)).any fun z =>
    decide (max a (z * s + zoneCap d n ns z) < min (a + len) ((z + 1) * s))

/-! ### Placing writes in zones (R271, R310, R471) -/

/-- The COMMAND FIFO for a stream: the one that it is bound to, else the one with the fewest occupied words (R310). -/
def fifoChoice (d : Dev) (stream : Nat) : Option Nat :=
  let ks := (List.range 64).filter fun k => !ctxStream d k && decide (0 < getF d F.fifoCfg_SIZE k)
  match ks.find? (fun k => (getFifo d k).bound.contains stream) with
  | some k => some k
  | none => (ks.foldl (fun (b : Option (Nat × Nat)) k =>
      let f := getFifo d k
      let n := f.sent + f.resv - f.mark
      match b with
      | none => some (k, n)
      | some x => if n < x.2 then some (k, n) else b) none).map (·.1)

/-- The FIFO that a write's data goes to. -/
def pathOf (d : Dev) (c : Cmd) : Option Nat := if c.dmode = 3 then some c.ctx else fifoChoice d (streamOf d c)

/-- Pad that a change of data path puts before a write into zone z (R310, R471). -/
def pathPad (d : Dev) (c : Cmd) (z : Nat) : Nat :=
  let zn := getZone d c.ns z
  let u := zoneU d c.ns (getNs d c.ns) z
  match zn.path with
  | some k => if zn.st = ZState.open_ ∧ zn.wp % u ≠ 0 ∧ some k ≠ pathOf d c then u - zn.wp % u else 0
  | none => 0

/-- The offset in its zone at which a write or APPEND would be placed. -/
def placeAt (d : Dev) (c : Cmd) : Nat := let z := cmdZone d c; (getZone d c.ns z).wp + pathPad d c z

/-- The range (LBA_RANGE, ZONE_BOUNDARY; R263). -/
def rangeCheck (d : Dev) (c : Cmd) : Nat :=
  let ns := getNs d c.ns
  let len := c.nlb + 1
  if opIn c [0x10, 0x11, 0x12, 0x13] then (if nsSize d ns ≤ c.lba then 5 else 0)
  else if !opIn c [1, 2, 3, 5, 6] then 0
  else if nsSize d ns < c.lba + (if c.opc = 3 then 1 else len) then 5
  else if ns.random then 0
  else
    let z := cmdZone d c
    let cap := zoneCap d c.ns ns z
    let off := c.lba % zsze d ns
    if c.opc = 1 ∨ c.opc = 6 then (if touchesGap d c.ns ns c.lba len then 5 else 0)
    else if c.opc = 2 then (if cap ≤ off then 5 else if cap < off + len then 0x22 else 0)
    else if (getZone d c.ns z).st = ZState.full ∧ cap ≤ placeAt d c then 0
    else if cap < placeAt d c + len then 0x22 else 0

/-- OPEN zones of all namespaces. -/
def openZones (d : Dev) : Nat := (d.cq.zones.filter fun z => decide (z.2.st = ZState.open_)).length

/-- Zone state and limits (Table CQ-3, R270). -/
def zoneCheck (d : Dev) (c : Cmd) : Nat :=
  let ns := getNs d c.ns
  let z := cmdZone d c
  let zn := getZone d c.ns z
  if ns.random then 0
  else if c.opc = 2 ∨ c.opc = 3 then
    if zn.st = ZState.full then 0x20
    else if c.opc = 2 ∧ c.lba % zsze d ns ≠ placeAt d c then 0x21
    else if zn.st = ZState.empty ∧ 128 ≤ openZones d then 0x23
    else 0
  else if c.opc = 0x10 then
    let slc := nbit c.arg0 0
    let pol := if ns.verify = 3 then c.arg0 / 2 % 4 else ns.verify
    if zn.st = ZState.full then 0x20
    else if zn.st = ZState.empty ∧ 128 ≤ openZones d then 0x23
    else if slc && !((sgMembers ns (zoneRow ns z)).all fun l => profFeat d l 0) then 0x24
    else if zn.st = ZState.open_ ∧ (zn.slc ≠ slc ∨ zn.policy ≠ pol) then 0x24
    else 0
  else 0

/-- Two byte ranges overlap. -/
def overlaps (a n b m : Nat) : Bool := decide (a < b + m ∧ b < a + n)

/-- The checks of the command itself (R275, R277, R278). -/
def ownCheck (d : Dev) (c : Cmd) : Nat :=
  if c.opc = 0x21 then (if (d.ord.epoch + 2 ^ 32 - c.arg0) % 2 ^ 32 < 2 ^ 31 then 0 else 2)
  else if c.opc = 0x30 then
    if c.dptr % 4096 ≠ 0 ∨ c.arg0 = 0 ∨ c.arg0 % 4096 ≠ 0 then 2
    else if 64 ≤ d.cq.regions.length ∨ 2 ^ 36 < regionBytes d + c.arg0 then 0x30
    else if d.cq.regions.any fun r => overlaps c.dptr c.arg0 r.2.addr r.2.len then 0x31
    else if !coverFor d (boundWith d (regionBytes d + c.arg0)) then 0x32
    else 0
  else if c.opc = 0x31 then (if (nfind d.cq.regions c.arg0).isSome then 0 else 0x33)
  else 0

/-- The first check that fails, in the order of R470; 0 where none does. -/
def cmdCheck (d : Dev) (c : Cmd) : Nat :=
  let first := fun (l : List Nat) => (l.find? (· ≠ 0)).getD 0
  let f := fieldCheck d c
  if f ≠ 0 then f
  else
    first [kindCheck d c, rangeCheck d c,
      if d.mode.mode = .safe ∧ opIn c [2, 3, 5, 0x10, 0x11, 0x12, 0x30] then 6 else 0,
      if c.opc = 1 ∧ c.locked then 7 else 0, zoneCheck d c, ownCheck d c]

/-! ### Zones -/

/-- A zone is FULL: its data path ends, and an SLC zone is queued for folding (R240). -/
def zoneFull (n z : Nat) (d : Dev) : Dev :=
  let slc := (getZone d n z).slc
  let d := modZone d n z fun x => { x with st := .full, path := none, foldPending := slc }
  if slc then modXlt d fun x => { x with folds := x.folds ++ [(n, z)] } else d

/-- Open an EMPTY zone in a mode and with a verify policy (R228, R269). -/
def zoneOpen (n z : Nat) (slc : Bool) (policy : Nat) (d : Dev) : Dev :=
  let ns := getNs d n
  let g := zoneRow ns z
  let skip := skipNow d ns g
  modZone d n z fun x =>
    { x with st := .open_, wp := 0, drawn := 0, slc := slc, policy := policy, skipped := skip, path := none, pads := [],
             zcap := zcapOf d g (ns.width - parOf ns - skip.length) slc }

/-- Pad an OPEN zone to its unit boundary; WP moves over it but for ZONE_FINISH (R471). -/
def zonePad (n z cls : Nat) (move : Bool) (d : Dev) : Dev :=
  let u := zoneU d n (getNs d n) z
  let zn := getZone d n z
  let r := zn.wp % u
  if r = 0 then d
  else
    let d := modZone d n z fun x => { x with pads := x.pads ++ [(x.wp, u - r)], wp := if move then x.wp + (u - r) else x.wp, path := none }
    let d := if move && decide (zn.zcap ≤ zn.wp + (u - r)) then zoneFull n z d else d
    zoneClosed n z (zonePads n z cls 4096 d)

/-! ### Durability and forcing (R214, R244, R272, R274, R275, R289, R305) -/

/-- The data of a command is DURABLE. -/
def cmdDurable (d : Dev) (c : Cmd) : Bool :=
  if c.opc = 2 ∨ c.opc = 3 then
    match c.waitJseq with
    | some n => c.discard && decide (n ≤ d.pgm.ckptDone)
    | none => decide (c.st ≠ .fetched ∧ c.need ≤ c.accepted) && (List.range c.need).all fun i => nget false c.dur i
  else if c.opc = 5 then match c.waitJseq with | some n => decide (n ≤ nget 0 d.xlt.mapDone c.ns) | none => true
  else match c.waitJseq with | some n => decide (n ≤ d.pgm.ckptDone) | none => true

/-- Commands whose data has become DURABLE are marked so; the record of one whose completion is written then ends. -/
def cmdSweep (d : Dev) : Dev :=
  let d := each (d.ord.cmds.filter fun c => decide (c.2.kind = 2) && !c.2.durable && decide (c.2.st ≠ .fetched)) (fun d c =>
    if cmdDurable d c.2 then modCmd c.1 (fun c => { c with durable := true }) d else d) d
  modOrd d fun o => { o with cmds := o.cmds.filter fun c => !(decide (c.2.st = .released) && (c.2.durable || decide (c.2.kind ≠ 2))) }

/-- Every Change command that `cover` names is DURABLE. -/
def coverDurable (cover : Nat → Cmd → Bool) (d : Dev) : Bool :=
  d.ord.cmds.all fun c => decide (c.2.kind ≠ 2) || c.2.durable || !cover c.1 c.2

/-- Bring the data of the commands that `cover` names to DURABLE at once (R274, R275): pad, journal pages, map checkpoints and
the CHECKPOINT. -/
def flushForce (cover : Nat → Cmd → Bool) (d : Dev) : Dev :=
  let cs := d.ord.cmds.filter fun c => decide (c.2.kind = 2) && !c.2.durable && cover c.1 c.2
  let zs := (cs.filter fun c => opIn c.2 [2, 3] && !(getNs d c.2.ns).random).map fun c => (c.2.ns, cmdZone d c.2, c.2.cls)
  let d := each zs (fun d z => if (getZone d z.1 z.2.1).st = ZState.open_ then zonePad z.1 z.2.1 z.2.2 true d else d) d
  let d := closePartials (fun a c => cover a c && decide (c.need ≤ c.accepted)) d
  let d := each (cs.filter fun c => decide (c.2.opc = 5)) (fun d c => mapCkpt c.2.ns d) d
  let d := if cs.any fun c => opIn c.2 [0x11, 0x12] then ckptPump (ckptAsk d).2 else d
  jForce (d.pgm.nextJseq - 1) d

/-- What a FLUSH of namespace n that arrived as `arr` covers (R274). -/
def flushCover (n arr : Nat) (a : Nat) (c : Cmd) : Bool := decide (a < arr) && decide (n = 0xFF ∨ c.ns = n)

/-- What an EPOCH_COMMIT of epoch e covers (R275, R305). -/
def epochCover (e : Nat) (_a : Nat) (c : Cmd) : Bool := opIn c [2, 3] && decide ((e + 2 ^ 32 - c.epoch) % 2 ^ 32 < 2 ^ 31)

/-- The condition of a FLUSH or EPOCH_COMMIT holds (R289, R305). -/
def waitHolds (d : Dev) (arr : Nat) (c : Cmd) : Bool :=
  if c.opc = 4 then coverDurable (flushCover c.ns arr) d else coverDurable (epochCover c.arg0) d

/-- The epoch current at the arrival of a command that has not been checked: every earlier command has (R304). -/
def arrivalEpoch (d : Dev) (c : Cmd) : Nat := (d.ord.epoch + 2 ^ 32 - c.edges % 2 ^ 32) % 2 ^ 32

/-- The durable epoch (R305). -/
def durableEpoch (d : Dev) : Nat :=
  let es := (d.ord.cmds.filter fun c => opIn c.2 [2, 3] && (decide (c.2.st = .fetched) || decide (c.2.kind = 2) && !c.2.durable)).map fun c =>
    (d.ord.epoch + 2 ^ 32 - (if c.2.st = .fetched then arrivalEpoch d c.2 else c.2.epoch)) % 2 ^ 32
  if es.isEmpty then d.ord.epoch else (d.ord.epoch + 2 ^ 32 - es.foldl max 0 - 1 + 2 ^ 32) % 2 ^ 32

/-- The epoch number advances (R304). -/
def epochStep (d : Dev) : Dev :=
  let e := (d.ord.epoch + 1) % 2 ^ 32
  modRet (modOrd d fun o => { o with epoch := e }) fun r => { r with epoch := e }

/-- An EPOCH_SYNC edge advances the epoch for the commands that arrive after it: those fetched keep the one before (R304). -/
def epochEdge (d : Dev) : Dev :=
  epochStep (each (d.ord.cmds.filter fun c => decide (c.2.st = .fetched)) (fun d c => modCmd c.1 (fun c => { c with edges := c.edges + 1 }) d) d)

/-! ### Sources of Observe commands (R284 to R286) -/

/-- The source that the mapping in force gives an LBA. -/
def mapSource (d : Dev) (n lba : Nat) : Source :=
  let ns := getNs d n
  if d.xlt.lost.contains (n, lba) then .lost
  else if ns.random then
    let v := mapLook d n lba
    if v = unmapped then .unmapped
    else match psnPlace d ns v with
      | some (_, p) => .flash p.lun p.row p.k p.slc
      | none => .unmapped
  else
    let s := zsze d ns
    let z := lba / s
    let off := lba % s
    let zn := getZone d n z
    if zn.st = ZState.empty ∨ zn.wp ≤ off ∨ (zn.pads.any fun p => decide (p.1 ≤ off ∧ off < p.1 + p.2)) then .unmapped
    else let p := zonePlace d n ns z off
         .flash p.lun p.row p.k p.slc

/-- The sector of a write in its FIFO, while its words are held. -/
def heldSec (d : Dev) (a i : Nat) : Option (Nat × FSec) :=
  (getCmd d a).path.bind fun k => ((getFifo d k).secs.find? fun s => decide (s.arr = some a ∧ s.idx = i)).map fun s => (k, s)
def heldSector (d : Dev) (a i : Nat) : Option (List Byte) := (heldSec d a i).map fun p => secBytes (getFifo d p.1) p.2

/-- A sector that is served from the pantry: a poisoned word is read again first, or the sector is UNCORRECTABLE (Table MEM-2). -/
def heldServe (a off : Nat) (out : Nat → Option (List Byte) → Dev → Dev) (d : Dev) : Dev :=
  match heldSec d a off with
  | none => d
  | some (k, s) =>
    let (wait, d) := secHeal k (getCmd d a) s d
    if wait then d else if secSick (getFifo d k) s = [] then out 0 (some (secBytes (getFifo d k) s)) d else out 0x10 none d

/-- The newest Change command that arrived before `arr` and covers an LBA. -/
def newestChange (d : Dev) (arr n lba : Nat) : Option (Nat × Cmd) :=
  (d.ord.cmds.filter fun c => decide (c.1 < arr ∧ c.2.kind = 2 ∧ c.2.ns = n ∧ c.2.start ≤ lba ∧ lba < c.2.start + c.2.len) &&
    (!opIn c.2 [2, 3] || decide (lba - c.2.start < c.2.need))).getLast?

/-- The source of an LBA for the command that arrived as `arr` (R284). -/
def resolve (d : Dev) (arr n lba : Nat) : Source :=
  match newestChange d arr n lba with
  | some (a, c) =>
    if opIn c [2, 3] then
      if c.accepted ≤ lba - c.start ∨ (heldSector d a (lba - c.start)).isSome then .word a (lba - c.start) else mapSource d n lba
    else .unmapped
  | none => mapSource d n lba

/-- The place of a page's codeword, for a rebuild. -/
def rowPlace (d : Dev) (l row k : Nat) (slc : Bool) : Option (Nat × Place) :=
  let b := blkOfRow d l row / profPlanes d l
  (sbOfBlk d l b).map fun sbn =>
    let pg := pgOfRow d l row
    let r := if slc then pg else pg / profCell d l
    let q := if slc then 0 else pg % profCell d l
    let plane := blkOfRow d l row % profPlanes d l
    (sbn, { lun := l, blk := b, row := row, k := k, slc := slc, member := 0, unitRow := r, sec := 4 * (profPlanes d l * q + plane) + k })

/-- Sector i of an Observe command has its outcome: an error status, or flags of the completion, and its data (R264, R267). -/
def secOutcome (arr i status flags : Nat) (data : Option (List Byte)) (d : Dev) : Dev :=
  let c := getCmd d arr
  if c.st ≠ .running ∨ c.sources[i]? = some Source.done ∨ c.sources.length ≤ i then d
  else
    let d := if status = 0 then d else errNote arr status (c.lba + i) d
    let d := modCmd arr (fun c => { c with sources := c.sources.set i .done, left := c.left - 1, cflags := c.cflags ||| flags }) d
    let d := match data with
      | some bs => if c.opc = 1 then rdPut arr (4096 * i) bs d else d
      | none => d
    readCheck arr d

/-- A sector without mapping (R180, R264). -/
def secUnwritten (arr i : Nat) (d : Dev) : Dev :=
  let c := getCmd d arr
  if c.opc = 1 ∧ ((getNs d c.ns).unwErr ∨ d.cfg.zeroUnwErr) then secOutcome arr i 0x11 0 none d
  else secOutcome arr i 0 16 (some (zeros 4096)) d

/-- A sector of the medium that cannot be read: a rebuild, or the error (R198, R298, R299). -/
def secBad (arr i l row k : Nat) (slc : Bool) (d : Dev) : Dev :=
  let c := getCmd d arr
  let fail := fun d => secOutcome arr i (if lunIsol d l then 0x12 else 0x10) 0 none d
  match rowPlace d l row k slc with
  | some (sbn, p) => if canRebuild d sbn then rebuildStart sbn p c.cls (some (arr, i)) none d else fail d
  | none => fail d

/-- The tag that a sector is expected to carry (R177). -/
def secTag (c : Cmd) (i : Nat) : Option (Nat × Nat) := some (c.ns, c.lba + i)

/-- Serve the sectors `is` of a begun Observe command from their sources: what is on the medium is read page by page. -/
def secServe (arr : Nat) (is : List Nat) (d : Dev) : Dev :=
  let c := getCmd d arr
  let src := fun i => c.sources.getD i .done
  let d := each is (fun d i => match src i with
    | .unmapped => secUnwritten arr i d
    | .lost => secOutcome arr i 0x12 0 none d
    | .flash l row k slc => if lunIsol d l then secBad arr i l row k slc (when (decide (c.cls = 0)) (lapse 6) d) else d
    | .word a off => heldServe a off (fun st bs d => secOutcome arr i st 0 bs d) d
    | .done => d) d
  let pages := is.filterMap fun i => match src i with
    | .flash l row k slc => if lunIsol d l then none
      else some (i, ({ lun := l, blk := 0, row := row, k := k, slc := slc, member := 0, unitRow := 0, sec := 0 } : Place), secTag c i)
    | _ => none
  each (readRuns pages) (fun d r => runIssue c.cls (.cmd arr r.i) r d) d

/-- Waiting words of an Observe command that can now be served, or whose write has ended without them: those are resolved again. -/
def wordsServe (arr : Nat) (d : Dev) : Dev :=
  let c := getCmd d arr
  let ready := c.sources.zipIdx.filterMap fun p => match p.1 with
    | .word a off => let w := getCmd d a
                     if off < w.accepted ∨ w.need ≤ off ∨ (nfind d.ord.cmds a).isNone then some p.2 else none
    | _ => none
  if ready.isEmpty then d
  else
    let f := fun (i : Nat) (s : Source) => match s with
      | .word a off => if (heldSector d a off).isSome then s else if ready.contains i then resolve d arr c.ns (c.lba + i) else s
      | _ => s
    secServe arr ready (modCmd arr (fun c => { c with sources := c.sources.zipIdx.map fun p => f p.2 p.1 }) d)

/-- READ commands that move data now (R309). -/
def readsMoving (d : Dev) : Nat := (d.ord.cmds.filter fun c => decide (c.2.opc = 1 ∧ c.2.st = .running) && c.2.ladled).length

/-- The fill of a line that the command's translation reads has not arrived (R246). What the entries hold is fixed when the command
starts: a later change of an entry is not the command's to see (R284). -/
def mapWaits (d : Dev) (c : Cmd) : Bool :=
  (getNs d c.ns).random && mcOn d && ((List.range c.len).map fun i => (mapLine d c.ns (c.start + i)).1).dedup.any fun l =>
    (getLine d l).filling.isSome && !(getLine d l).valid

/-- Begin an Observe command once its translation is done: at most 256 READ commands move at once (R309). -/
def readBegin (arr : Nat) (d : Dev) : Dev :=
  let c := getCmd d arr
  if c.ladled ∨ mapWaits d c ∨ (c.opc = 1 ∧ 256 ≤ readsMoving d) then d
  else
    let d := modCmd arr (fun c => { c with ladled := true }) d
    let d := match c.purpose with
      | some p => if c.dmode = 2 then
          mpReadRange p .descr c.dptr 32 64 c.cls (modCmd arr (fun c => { c with chain := some c.dptr }) d)
        else modCmd arr (fun q => { q with descs := [{ addr := c.dptr, len := (c.nlb + 1) * 4096 }], chainBytes := (c.nlb + 1) * 4096 }) d
      | none => d
    secServe arr (List.range c.sources.length) d

/-- Every Observe command goes on where it can. -/
def observePump (d : Dev) : Dev :=
  each (d.ord.cmds.filter fun c => isObserve c.2 && decide (c.2.st = .running)) (fun d c =>
    if c.2.opc = 0x13 then d else wordsServe c.1 (readBegin c.1 d)) d

/-- A descriptor of a read's chain arrives (R315, R316). -/
def readDescr (arr : Nat) (bs : List Byte) (d : Dev) : Dev :=
  let c := getCmd d arr
  match c.chain with
  | none => d
  | some a =>
    let x := descrOf a bs
    let total := (c.nlb + 1) * 4096
    if c.st ≠ .running then d
    else if descrBad bs ∨ (x.tail ∧ c.chainBytes + x.len < total) then
      let d := modCmd arr (fun c => { c with chain := none, left := 0, sources := c.sources.map fun _ => Source.done }) d
      readCheck arr (modDma (errNote arr 2 0 d) fun m => { m with rdq := m.rdq.filter fun y => decide (y.1 ≠ arr) })
    else
      let d := modCmd arr (fun c => { c with descs := c.descs ++ [x], chainBytes := c.chainBytes + x.len, chain := none }) d
      if total ≤ c.chainBytes + x.len then readCheck arr d
      else match c.purpose with
        | some p => mpReadRange p .descr x.link 32 64 c.cls (modCmd arr (fun c => { c with chain := some x.link }) d)
        | none => d

/-! ### The commands -/

/-- The lowest arrival number that is not checked yet, with its record: commands are checked in arrival order (R271). -/
def nextCheck (d : Dev) : Option (Nat × Cmd) := d.ord.cmds.find? fun c => decide (c.2.st = .fetched)

/-- Check command `arr`, an entry with opcode `opc` whose turn it is; on success it runs as `go` says (R470). -/
def cmdStart (opc arr : Nat) (go : Nat → Cmd → Dev → Dev) (d : Dev) : Dev :=
  match nextCheck d with
  | none => d
  | some (a, c) =>
    if a ≠ arr ∨ c.opc ≠ opc ∨ !running d then d
    else
      let v := cmdCheck d c
      if v ≠ 0 then cmdFinish arr v 0 d
      else
        let d := when (decide (c.cls = 0 ∧ (d.mode.mode = .safe ∨ d.mode.mode = .factory))) (lapse 0) d
        cmdSweep (go arr c (modCmd arr (fun c => { c with st := .running, epoch := arrivalEpoch d c }) d))

/-- READ and VERIFY: each sector's source is resolved, and what is ready is served (R264, R267, R284). -/
def goRead (arr : Nat) (c : Cmd) (d : Dev) : Dev :=
  let n := c.nlb + 1
  let srcs := (List.range n).map fun i => resolve d arr c.ns (c.lba + i)
  let lines := if (getNs d c.ns).random then ((List.range n).map fun i => (mapLine d c.ns (c.lba + i)).1).dedup else []
  let d := each lines (fun d l => lineTouch l d) d
  let (p, d) := if c.opc = 1 then (fun (x : Nat × Dev) => (some x.1, x.2)) (newPurp (.cmd arr) d) else (none, d)
  let d := modCmd arr (fun c => { c with kind := 1, start := c.lba, len := n, left := n, sources := srcs, purpose := p }) d
  readBegin arr d

/-- READ (R264). -/
def execRead (arr : Nat) (st : State) : Host.Outcome State Fault Refusal := onDev (cmdStart 1 arr goRead) st
/-- VERIFY (R267). -/
def execVerify (arr : Nat) (st : State) : Host.Outcome State Fault Refusal := onDev (cmdStart 6 arr goRead) st

/-- A write joins the FIFO of its data path, and its context starts where it is idle (R308, R310). -/
def writePath (arr : Nat) (d : Dev) : Dev :=
  let c := getCmd d arr
  match c.path with
  | none => d
  | some k =>
    let s := streamOf d c
    let d := modFifo k (fun f => { f with takers := f.takers.filter (fun a => decide ((getCmd d a).accepted < (getCmd d a).need)) ++ [arr],
                                          bound := if f.bound.contains s then f.bound else f.bound ++ [s] }) d
    let d := when (decide (c.cls = 0 ∧ c.dmode = 3) && ctxPaced d k) (lapse 8) d
    let (p, d) := if c.dmode = 3 then (none, d) else (fun (x : Nat × Dev) => (some x.1, x.2)) (newPurp (.cmd arr) d)
    ctxStart k (fifoPump k (modCmd arr (fun c => { c with purpose := p }) d))

/-- WRITE and APPEND: placed at arrival, with the pads of R471, and given to their FIFO (R266, R271, R283, R310, R471). -/
def goWrite (arr : Nat) (c : Cmd) (d : Dev) : Dev :=
  let ns := getNs d c.ns
  let n := c.nlb + 1
  let path := pathOf d c
  let w := d.cq.nextWseq
  let d := modCq d fun x => { x with nextWseq := w + n }
  let rec_ := fun (a : Nat) (d : Dev) => modCmd arr (fun c =>
    { c with kind := 2, lba := a, start := a, len := n, need := n, wseq := w, path := path }) d
  if ns.random then
    let olds := (d.pgm.units.filter fun u => decide (u.2.st = .filling ∧ u.2.ns = c.ns ∧ u.2.cls = c.cls)).filterMap fun u =>
      match u.2.use with | .fifo k => if some k = path then none else some (u.1, k) | _ => none
    let d := each olds (fun d u => bump (unitClose u.1 d) F.fifoCnt_PATH_PADS u.2) d
    writePath arr (rec_ c.lba d)
  else
    let z := cmdZone d c
    let d := if (getZone d c.ns z).st = ZState.empty then zoneOpen c.ns z false (if ns.verify = 3 then 1 else ns.verify) d else d
    let pad := pathPad d c z
    let d := match (getZone d c.ns z).path with
      | some k => if pad = 0 then d else bump (zonePad c.ns z c.cls true d) F.fifoCnt_PATH_PADS k
      | none => d
    let zn := getZone d c.ns z
    let u := zoneU d c.ns ns z
    let d := modZone d c.ns z fun x => { x with wp := x.wp + n, path := if (x.wp + n) % u = 0 then none else path }
    let d := rec_ (z * zsze d ns + zn.wp) d
    let d := if zn.zcap ≤ zn.wp + n then zoneFull c.ns z d else d
    let d := if nbit c.flags 1 then zonePad c.ns z c.cls true d else d
    writePath arr d

/-- WRITE (R266). -/
def execWrite (arr : Nat) (st : State) : Host.Outcome State Fault Refusal := onDev (cmdStart 2 arr goWrite) st
/-- APPEND (R266, R271). -/
def execAppend (arr : Nat) (st : State) : Host.Outcome State Fault Refusal := onDev (cmdStart 3 arr goWrite) st

/-- FLUSH and EPOCH_COMMIT: the data that they cover is forced; in SAFE, READ_ONLY where the condition does not hold (R274 to
R276). -/
def goWait (arr : Nat) (c : Cmd) (d : Dev) : Dev :=
  let r := if c.opc = 4 then 0 else c.arg0
  if waitHolds (cmdSweep d) arr c then cmdFinish arr 0 r d
  else if d.mode.mode = .safe then cmdFinish arr 6 0 d
  else flushForce (if c.opc = 4 then flushCover c.ns arr else epochCover c.arg0) (modCmd arr (fun c => { c with result := r }) d)

/-- FLUSH (R274). -/
def execFlush (arr : Nat) (st : State) : Host.Outcome State Fault Refusal := onDev (cmdStart 4 arr goWait) st
/-- EPOCH_COMMIT (R275). -/
def execEpochCommit (arr : Nat) (st : State) : Host.Outcome State Fault Refusal := onDev (cmdStart 0x21 arr goWait) st

/-- TRIM: the range is unmapped (R268). -/
def goTrim (arr : Nat) (c : Cmd) (d : Dev) : Dev :=
  let w := d.cq.nextWseq
  let k := nget 0 d.xlt.mapAsm c.ns + 1
  let d := each (List.range (c.nlb + 1)) (fun d i => mapSet c.ns (c.lba + i) unmapped w d) d
  let d := modCmd arr (fun c => { c with kind := 2, start := c.lba, len := c.nlb + 1, staged := true, waitJseq := some k }) d
  cmdFinish arr 0 0 (if nbit c.flags 1 then mapCkpt c.ns d else d)

/-- TRIM (R268). -/
def execTrim (arr : Nat) (st : State) : Host.Outcome State Fault Refusal := onDev (cmdStart 5 arr goTrim) st

/-- A zone change is STAGED: the CHECKPOINT that will carry it, at once where FUA is set (R272). -/
def zoneStaged (arr a len result : Nat) (d : Dev) : Dev :=
  let (n, d) := ckptAsk d
  let d := modCmd arr (fun c => { c with kind := 2, start := a, len := len, staged := true, waitJseq := some n }) d
  cmdFinish arr 0 result (if nbit (getCmd d arr).flags 1 then ckptPump d else d)

/-- A ZONE_FINISH or ZONE_RESET that changes nothing: its completion is written at STAGED, and with FUA at DURABLE, once an earlier
change of the zone is (R272). -/
def zoneSame (arr z a : Nat) (c : Cmd) (d : Dev) : Dev :=
  let waits := d.ord.cmds.any fun x => opIn x.2 [0x11, 0x12] && decide (x.2.kind = 2 ∧ x.2.ns = c.ns ∧ cmdZone d x.2 = z) && !x.2.durable
  if waits then zoneStaged arr a 0 a d
  else cmdFinish arr 0 a (modCmd arr (fun c => { c with durable := nbit c.flags 1 }) d)

/-- ZONE_OPEN (Table CQ-3, R269). -/
def goZoneOpen (arr : Nat) (c : Cmd) (d : Dev) : Dev :=
  let ns := getNs d c.ns
  let z := cmdZone d c
  let d := if (getZone d c.ns z).st = ZState.empty then
      zoneOpen c.ns z (nbit c.arg0 0) (if ns.verify = 3 then c.arg0 / 2 % 4 else ns.verify) d else d
  cmdFinish arr 0 (z * zsze d ns + (getZone d c.ns z).wp) d

/-- ZONE_OPEN (R269). -/
def execZoneOpen (arr : Nat) (st : State) : Host.Outcome State Fault Refusal := onDev (cmdStart 0x10 arr goZoneOpen) st

/-- ZONE_FINISH (Table CQ-3, R272): the partial unit is padded, WP stays. -/
def goZoneFinish (arr : Nat) (c : Cmd) (d : Dev) : Dev :=
  let ns := getNs d c.ns
  let z := cmdZone d c
  let zn := getZone d c.ns z
  let wp := z * zsze d ns + zn.wp
  if zn.st = ZState.full then zoneSame arr z wp c d
  else
    let d := if zn.st = ZState.empty then zoneOpen c.ns z false (if ns.verify = 3 then 1 else ns.verify) d else d
    let d := zoneFull c.ns z (zonePad c.ns z c.cls false d)
    zoneStaged arr wp ((z + 1) * zsze d ns - wp) wp (zoneClosed c.ns z d)

/-- ZONE_FINISH (R272). -/
def execZoneFinish (arr : Nat) (st : State) : Host.Outcome State Fault Refusal := onDev (cmdStart 0x11 arr goZoneFinish) st

/-- A reset of its zone discards what a write has not had drawn, and abandons what has been (R473). -/
def zoneDiscard (n z : Nat) (d : Dev) : Dev :=
  let mine := fun (c : Cmd) => opIn c [2, 3] && decide (c.kind = 2 ∧ c.ns = n) && !c.durable && decide (cmdZone d c = z)
  let k := d.pgm.ckptAsm + 1
  let d := each (d.ord.cmds.filter fun c => mine c.2) (fun d c => modCmd c.1 (fun c => { c with discard := true, waitJseq := some k }) d) d
  let us := (d.pgm.units.filter fun u => decide (u.2.ns = n ∧ u.2.zone = z) && !isMove u.2 && !(getNs d u.2.ns).random).map (·.1)
  let fs := (us.filterMap fun u => match (getUnit d u).use with | .fifo k => some k | _ => none).dedup
  let d := each fs (fun d k => modFifo k (fun f => { f with secs := f.secs.map fun s => match s.unit with
    | some u => if us.contains u then { s with rel := true } else s
    | none => s }) d) d
  each us (fun d u => abandon u (modUnit u (fun x => { x with dead := true }) d)) d

/-- A reset in a ring counts; after every G of them a gap move is queued (R231). -/
def ringReset (sg g : Nat) (d : Dev) : Dev :=
  modRing d sg fun r => if max 1 g ≤ r.resets + 1 then { r with resets := 0, moveQueued := r.moveQueued + 1 } else { r with resets := r.resets + 1 }

/-- ZONE_RESET (Table CQ-3, R272, R473, Table XLT-2). -/
def goZoneReset (arr : Nat) (c : Cmd) (d : Dev) : Dev :=
  let ns := getNs d c.ns
  let z := cmdZone d c
  let a := z * zsze d ns
  if (getZone d c.ns z).st = ZState.empty then zoneSame arr z a c d
  else
    let d := zoneDiscard c.ns z d
    let sb := zoneSb d ns z
    let d := modSb d sb fun _ => {}
    let d := relocReset c.ns z d
    let d := modZone d c.ns z fun _ => {}
    let d := modXlt d fun x => { x with folds := x.folds.filter (· ≠ (c.ns, z)), refresh := x.refresh.filter fun e => decide (e.sbn ≠ sb),
                                        lost := x.lost.filter fun p => !decide (p.1 = c.ns ∧ p.2 / zsze d ns = z) }
    zoneStaged arr a (zsze d ns) a (ringReset (zoneRow ns z).sg ns.g d)

/-- ZONE_RESET (R272). -/
def execZoneReset (arr : Nat) (st : State) : Host.Outcome State Fault Refusal := onDev (cmdStart 0x12 arr goZoneReset) st

/-- The 16 bytes of a zone descriptor (Table CQ-4). -/
def zoneDescr (d : Dev) (n z : Nat) : List Byte :=
  let ns := getNs d n
  let x := getZone d n z
  let skipped := if x.st = ZState.empty then !(skipNow d ns (zoneRow ns z)).isEmpty else !x.skipped.isEmpty
  let pol := if x.st = ZState.empty then (if ns.verify = 3 then 1 else ns.verify) else x.policy
  natLe 6 (z * zsze d ns + x.wp) ++ natLe 1 (match x.st with | .empty => 0 | .open_ => 1 | .full => 2) ++
    natLe 1 (b2n x.slc + 2 * b2n x.foldPending + 4 * b2n skipped + 8 * pol) ++ natLe 4 (zoneCap d n ns z) ++ natLe 2 (zoneU d n ns z) ++ zeros 2

/-- ZONE_REPORT (R273). -/
def goZoneReport (arr : Nat) (c : Cmd) (d : Dev) : Dev :=
  let ns := getNs d c.ns
  let z := cmdZone d c
  let n := min (c.nlb + 1) (zoneCount ns - z)
  let bs := (rangeFrom z n).flatMap fun i => zoneDescr d c.ns i
  let (p, d) := newPurp (.cmd arr) d
  let d := modCmd arr (fun c => { c with kind := 1, ladled := true, purpose := some p, result := n + Nat.log2 (zsze d ns) * 2 ^ 32,
                                         descs := [{ addr := c.dptr, len := bs.length }], chainBytes := bs.length }) d
  readCheck arr (rdPut arr 0 bs d)

/-- ZONE_REPORT (R273). -/
def execZoneReport (arr : Nat) (st : State) : Host.Outcome State Fault Refusal := onDev (cmdStart 0x13 arr goZoneReport) st

/-- EPOCH_MARK (R275, R304). -/
def goEpochMark (arr : Nat) (c : Cmd) (d : Dev) : Dev := let d := epochStep d; cmdFinish arr 0 (arrivalEpoch d c) d
def execEpochMark (arr : Nat) (st : State) : Host.Outcome State Fault Refusal := onDev (cmdStart 0x20 arr goEpochMark) st

/-- CUSTODY_REGISTER (R277): the lowest free handle. -/
def goCustody (arr : Nat) (c : Cmd) (d : Dev) : Dev :=
  let h := ((List.range 64).find? fun h => (nfind d.cq.regions h).isNone).getD 0
  estimateDev (cmdFinish arr 0 h (modCq d fun x => { x with regions := nput x.regions h ⟨c.dptr, c.arg0, arr⟩ }))
def execCustodyRegister (arr : Nat) (st : State) : Host.Outcome State Fault Refusal := onDev (cmdStart 0x30 arr goCustody) st

/-- CUSTODY_RELEASE (R278). -/
def goUncustody (arr : Nat) (c : Cmd) (d : Dev) : Dev :=
  estimateDev (cmdFinish arr 0 0 (modCq d fun x => { x with regions := nerase x.regions c.arg0 }))
def execCustodyRelease (arr : Nat) (st : State) : Host.Outcome State Fault Refusal := onDev (cmdStart 0x31 arr goUncustody) st

/-! ### Releasing completions (R287, R290, R300) -/

/-- R287 holds command `arr` back: an ORDERED command waits for every earlier one of its SQ, and every later one for it. Commands
that a queue reset has aborted take no part (R302). -/
def orderHeld (d : Dev) (arr : Nat) (c : Cmd) : Bool :=
  !c.aborted && d.ord.cmds.any fun x => decide (x.1 < arr ∧ x.2.sq = c.sq ∧ x.2.st ≠ .released) && !x.2.aborted && (nbit c.flags 0 || nbit x.2.flags 0)

/-- The completion of a command needs its data DURABLE (R290). -/
def needsDurable (c : Cmd) : Bool := nbit c.flags 1 && decide (c.kind = 2) && c.staged

/-- A command is finished but for a DURABLE condition that it waits for: whether it has one, and whether that holds. -/
def releaseReady (d : Dev) (arr : Nat) (c : Cmd) : Bool :=
  let safe := decide (d.mode.mode = .safe)
  if c.st = .finished then !needsDurable c || c.durable || safe
  else decide (c.st = .running) && opIn c [4, 0x21] && (waitHolds d arr c || safe || decide (c.status ≠ 0))

/-- The class-0 counts of a completed read (PRM_SCH_C0CNT, PRM_SCH_C0MAX). -/
def c0Count (c : Cmd) (d : Dev) : Dev :=
  if c.cls = 0 ∧ c.opc = 1 then
    let t := d.now - c.doorbell
    when (decide (us 250 < t)) (fun d => bump d F.schC0cnt_LATE) (peak (bump d F.schC0cnt_READS) F.schC0max_READ_MAX (t / 4))
  else d

/-- COMPLETION_RELEASE: the rail releases the completion of command `arr`, where R287 and R290 let it. -/
def releaseDev (arr : Nat) (d : Dev) : Dev :=
  let d := cmdSweep d
  match nfind d.ord.cmds arr with
  | none => d
  | some c =>
    let q := cmdCq d c
    if !running d ∨ !releaseReady d arr c ∨ orderHeld d arr c ∨ (getCqq d q).waiting.contains arr then d
    else
      let lost := decide (d.mode.mode = .safe) && ((needsDurable c && !c.durable) || (opIn c [4, 0x21] && decide (c.st = .running) && !waitHolds d arr c))
      let d := modCmd arr (fun c => { c with st := .finished, status := if lost then 6 else c.status }) d
      let d := if c.opc = 0x21 ∧ c.status = 0 ∧ !lost ∧ sysMay d then sysIssue .epoch [] d.pgm.ckptAsm d else d
      cqPump q 65536 (modCqq q (fun x => { x with waiting := x.waiting ++ [arr] }) (queueHeal (64 + q) (queueHeal c.sq d)))

/-- COMPLETION_RELEASE (R290). -/
def execCompletionRelease (arr : Nat) (st : State) : Host.Outcome State Fault Refusal := onDev (releaseDev arr) st

/-- The completion entry of a command is written: its class-0 time ends (R150). -/
def cmdWritten (q arr : Nat) (d : Dev) : Dev :=
  let c := getCmd d arr
  let d := c0Count c d
  let d := modCmd arr (fun c => { c with st := .released }) d
  let d := modSq c.sq (fun s => { s with inflight := s.inflight - 1 }) d
  cmdSweep (cqWritten q (decide (c.cls = 0)) d)

/-- The write of a completion entry has failed for good: the CQ is stopped and holds its completions (R29, R293). -/
def cqFailed (q arr : Nat) (d : Dev) : Dev :=
  let d := modCmd arr (fun c => { c with st := .finished }) d
  eqNote 0x11 0xFFF q 6 (modCqq q (fun x => { x with stopped := true }) d)

/-! ### Queue reset (R281, R302) -/

/-- A command of a queue in reset: ABORTED_BY_RESET where R281 says so. -/
def cmdAbort (arr : Nat) (d : Dev) : Dev :=
  let c := getCmd d arr
  let out := fun (d : Dev) => modCmd arr (fun c => { c with aborted := true }) d
  if c.st = .fetched then cmdFinish arr 9 0 (out d)
  else if c.st ≠ .running then d
  else if isObserve c then
    let d := modCmd arr (fun c => { c with left := 0, chain := none, sources := c.sources.map fun _ => Source.done }) d
    let d := modDma d fun m => { m with rdq := m.rdq.filter fun y => decide (y.1 ≠ arr) }
    readCheck arr (errNote arr 9 c.lba (out d))
  else if opIn c [2, 3] ∧ (!c.moved ∨ c.dmode = 3) then writeFail arr 9 (out d)
  else d

/-- SQ_RESET: RST is written, or with `off` EN is cleared (R281). -/
def sqResetDev (q : Nat) (off : Bool) (d : Dev) : Dev :=
  if !socUp d ∨ 64 ≤ q ∨ (off && !sqEn d q) ∨ (getSq d q).rst then d
  else
    let d := modSq q (fun s => { s with rst := true, clearEn := off, kept := none, tail := s.head }) (fetchStop q d)
    let d := setF d F.cqSqcfg_RST 1 q
    observePump (each ((d.ord.cmds.filter fun c => decide (c.2.sq = q)).map (·.1)) (fun d a => cmdAbort a d) d)

/-- SQ_RESET (R281). -/
def execSqReset (q : Nat) (off : Bool) (st : State) : Host.Outcome State Fault Refusal := onDev (sqResetDev q off) st

/-- SQ_RESET_COMPLETE: every completion of the queue is written (R281 step 5). -/
def sqResetEndDev (q : Nat) (d : Dev) : Dev :=
  let s := getSq d q
  if !s.rst ∨ (d.ord.cmds.any fun c => decide (c.2.sq = q ∧ c.2.st ≠ .released)) then d
  else
    let d := modSq q (fun s => { ({} : SubQ) with period := s.period + 1 }) (setF d F.cqSqcfg_RST 0 q)
    if s.clearEn then setF d F.cqSqcfg_EN 0 q else d

/-- SQ_RESET_COMPLETE (R281). -/
def execSqResetComplete (q : Nat) (st : State) : Host.Outcome State Fault Refusal := onDev (sqResetEndDev q) st

/-! ### Drain and quiesce (R81, R303) -/

/-- Background moves that have programmed nothing stop at the unit boundary (R81 step 2). -/
def bgHalt (d : Dev) : Dev :=
  let us := d.pgm.units.filter fun u => isMove u.2 && decide (u.2.pagesOut = 0 ∧ u.2.st ≠ .done ∧ u.2.st ≠ .abandoned)
  each us (fun d u =>
    let d := match u.2.use with
      | .ring sg => modRing d sg fun r => { r with reloc := r.reloc.map fun x => if x.cur = some u.1 then { x with cur := none } else x }
      | .copy _ => modPgm d fun p => { p with copies := p.copies.map fun x => if x.unit = some u.1 then { x with unit := none } else x }
      | .gc n => setGc n none d
      | _ => d
    abandon u.1 d) d

/-- Everything fetched is brought to DURABLE (R81 steps 3 and 4). -/
def drainForce (d : Dev) : Dev :=
  let d := bgHalt (cmdSweep d)
  let d := flushForce (fun _ _ => true) d
  each (d.pgm.units.filter fun u => decide (u.2.st = .filling) && (getNs d u.2.ns).random) (fun d u => unitClose u.1 d) d

/-- RUN_DRAIN_COMPLETE: with every completion written and the pantry DURABLE, WARM is entered (R81, R191); until then the data
is forced on. -/
def drainDev (d : Dev) : Dev :=
  match d.mode.trans with
  | some t =>
    if t.kind ≠ .drain then d
    else if commandsOut d then d
    else if !pantryDurable (cmdSweep d) then drainForce d
    else
      let d := if d.mode.mode.run then thrSave (cmdSweep d) else cmdSweep d
      modeStep 4 (goMode .warm t.cause (modMode d fun s => { s with bgStop := false }))
  | none => d

/-- RUN_DRAIN_COMPLETE (R81). -/
def execRunDrainComplete (st : State) : Host.Outcome State Fault Refusal := onDev drainDev st

/-- QUIESCE_REQUEST: REQ is set (R303). -/
def quiesceDev (d : Dev) : Dev :=
  if !socUp d ∨ d.ord.quiesce then d
  else fetchStopAll (modOrd (setF d F.ordQuiesce_REQ 1) fun o => { o with quiesce := true, ready := false })

/-- QUIESCE_REQUEST (R303). -/
def execQuiesceRequest (st : State) : Host.Outcome State Fault Refusal := onDev quiesceDev st

/-- QUIESCE_COMPLETE: every completion is written and all pantry data is DURABLE: READY (R303). -/
def quiesceEndDev (d : Dev) : Dev :=
  if !d.ord.quiesce ∨ commandsOut d then d
  else if !pantryDurable (cmdSweep d) then drainForce d
  else modOrd (cmdSweep d) fun o => { o with ready := true }

/-- QUIESCE_COMPLETE (R303). -/
def execQuiesceComplete (st : State) : Host.Outcome State Fault Refusal := onDev quiesceEndDev st

/-- QUIESCE_CLEAR: REQ is cleared; doorbells recorded meanwhile act (R303). -/
def quiesceClearDev (d : Dev) : Dev :=
  if !socUp d ∨ !d.ord.quiesce then d
  else keptApply (modOrd (setF d F.ordQuiesce_REQ 0) fun o => { o with quiesce := false, ready := false })

/-- QUIESCE_CLEAR (R303). -/
def execQuiesceClear (st : State) : Host.Outcome State Fault Refusal := onDev quiesceClearDev st

/-- EPOCH_SET_WRITE (R306). -/
def epochSetDev (v : Nat) (d : Dev) : Dev :=
  if !socUp d then d
  else if d.mode.mode = .warm ∧ !d.mode.runEntered ∧ d.mode.restored ∧ (v + 2 ^ 32 - d.ord.epoch) % 2 ^ 32 < 2 ^ 31 then
    modRet (modOrd d fun o => { o with epoch := v }) fun r => { r with epoch := v }
  else setF d F.ordEpochStat_SETERR 1

/-- EPOCH_SET_WRITE (R306). -/
def execEpochSetWrite (v : Word) (st : State) : Host.Outcome State Fault Refusal := onDev (epochSetDev v.toNat) st

end Sys2Proof.Machine
end

