-- ==== Sys2Proof/Machine/Holdup.lean ====
section
/-! DEFINITION. Machine/Holdup.lean: the power-fail latch and the HOLDUP sequence (R41, R84, R156, R338 to R345, R347,
R375). -/

namespace Sys2Proof.Machine

open Sys2Proof

/-! ### The level (R338) -/

/-- The highest plan level that covers the bound with both sources; where none does, the highest whose power fits, or 0. -/
def hupLevel (d : Dev) : Nat :=
  let e := eKtlNow d + eSplNow d
  let p := huPktl d * 1000 + pSplNow d
  let b := boundWith d (regionBytes d)
  match [3, 2, 1, 0].find? fun l => levelCovers d l b e p with
  | some l => l
  | none => ([3, 2, 1, 0].find? fun l => decide (huRate d l ≠ 0) && decide (huPower d l * 1000 ≤ p)).getD 0

/-! ### What is saved, and in what order (R340) -/

/-- The words after the last one that belongs to a command in custody. -/
def custodyStop (d : Dev) (f : Fifo) : Nat :=
  (f.secs.filter fun s => match s.arr with
    | some a => let c := getCmd d a
                c.staged && !c.discard
    | none => false).foldl (fun m s => max m s.stop) f.mark

/-- Maximal runs of a rising list of word numbers, as first word and count. -/
def wordRuns : List Nat → List (Nat × Nat)
  | [] => []
  | w :: ws =>
    match wordRuns ws with
    | (a, n) :: rs => if a = w + 1 then (w, n + 1) :: rs else (w, 1) :: (a, n) :: rs
    | [] => [(w, 1)]

/-- Put x before the first element whose key is higher. -/
def insertKey {α : Type} (key : α → Nat) (x : α) : List α → List α
  | [] => [x]
  | y :: ys => if key x < key y then x :: y :: ys else y :: insertKey key x ys

/-- Sorted by a key, equal keys in their order. -/
def sortKey {α : Type} (key : α → Nat) (l : List α) : List α := l.foldl (fun a x => insertKey key x a) []

/-- Runs of the words of a FIFO in custody, those in share slices or those in its pool slices. -/
def custodyRuns (d : Dev) (k : Nat) (share : Bool) : List HupItem :=
  let f := getFifo d k
  let ws := (rangeFrom f.mark (custodyStop d f - f.mark)).filter fun w => inShare f w == share
  (wordRuns ws).map fun r => .words k r.1 r.2

/-- The TRIM and zone records (R340 step 3). -/
def custodyRecords (d : Dev) : List HupRec :=
  d.ord.cmds.filterMap fun c =>
    let x := c.2
    if !x.staged ∨ x.durable then none
    else if x.opc = 5 then some { ns := x.ns, first := x.lba, count := x.nlb + 1, arr := c.1 }
    else if opIn x [0x11, 0x12] then some { ns := x.ns, first := cmdZone d x, count := x.opc, arr := c.1, zone := true }
    else none

/-- Everything that HOLDUP saves, in order: the share, the FIFOs by their oldest mark, the records, the regions. -/
def custodyItems (d : Dev) : List HupItem :=
  let ks := d.dma.fifos.map (·.1)
  let byMark := sortKey (fun k => (getFifo d k).markAt) ks
  let recs := custodyRecords d
  (ks.flatMap fun k => custodyRuns d k true) ++ (byMark.flatMap fun k => custodyRuns d k false) ++
    (if recs.isEmpty then [] else [.records recs]) ++
    (sortKey (fun p => p.2.arr) d.cq.regions).map fun p => .region p.1 0 p.2.len

/-! ### Step 2: the schedulers (R156) -/

/-- An operation that HOLDUP keeps where it is queued: the journal's pages (Table MOD-1). -/
def hupKeeps (o : Op) : Bool := match o.use with | .sysPage _ _ | .sysErase _ _ => true | _ => false

/-- What the rail holds back at HOLDUP entry is dropped, but for the journal's pages, and rebuilds end; plane pages whose COP is not issued
leave the pantry, and band waits end (R156, R209). What the schedulers have queued they drop themselves, on the HOLDUP message. -/
def railHoldup (d : Dev) : Dev :=
  let gone := (d.ord.held.filter fun h => !hupKeeps h.2).map (·.2)
  let d := each gone (fun d o => modOrd (progFree o d) fun x => { x with ops := nerase x.ops o.tag }) d
  let d := modOrd d fun o => { o with held := o.held.filter (fun h => hupKeeps h.2), rebuilds := [] }
  let d := each (d.pgm.units.map (·.1)) (fun d u => unitSlotsFree u d) d
  each (d.pgm.units.filter fun u => decide (u.2.st = .waitBand)) (fun d u => modUnit u.1 (fun x => { x with st := .waitHwm }) d) d

/-- Commands at HOLDUP entry (R156): class-0 reads complete ABORTED_POWER_FAIL, other reads and commands not yet begun
receive no completion. -/
def cmdsHoldup (d : Dev) : Dev :=
  let d := each (d.ord.cmds.filter fun c => decide (c.2.opc = 1 ∧ c.2.cls = 0 ∧ c.2.st = .running)) (fun d c => cmdFinish c.1 0xB 0 d) d
  let d := modDma d fun m => { m with rdq := [] }
  modOrd d fun o => { o with cmds := o.cmds.filter fun c => !(decide (c.2.st = .fetched) || (isObserve c.2 && decide (c.2.st = .running))) }

/-! ### The save (R340) -/

/-- LUNs with hold-up blocks that can be written. -/
def hupLuns (d : Dev) : List Nat := (allLuns d).filter fun l => lunUsable d l

/-- SLC program units that the LUN's hold-up blocks hold. -/
def hupCap (d : Dev) (l : Nat) : Nat := hupByte d 1 1 * blkRows d l

/-- The LUN can start a hold-up program: powered, nothing running or queued on it, room in its zone, and free page-buffer slots. -/
def hupLunFree (d : Dev) (l : Nat) : Bool :=
  decide ((getGroup d (groupOf (chanOf l))).stage = .on) && decide (nget 0 d.hup.placed l < hupCap d l) &&
    (openRun d (profPlanes d l)).isSome && !(d.ord.ops.any fun o => decide (o.2.lun = l))

/-- Hold-up programs that run on a channel. -/
def hupRunning (d : Dev) (c : Nat) : Nat :=
  (d.ord.ops.filter fun o => decide (chanOf o.2.lun = c) && match o.2.use with | .holdup _ => true | _ => false).length

/-- The LUN that takes the next unit: the channels in turn, and on each its LUNs in turn, at most LUNS_L of them at once. -/
def hupNextLun (d : Dev) : Option Nat :=
  let n := d.build.channels
  (List.range n).findSome? fun i =>
    let c := (d.hup.turn + i) % n
    if huLuns d d.hup.level ≤ hupRunning d c then none
    else ((hupLuns d).filter fun l => decide (chanOf l = c) && hupLunFree d l).foldl (fun b l => match b with
      | none => some l
      | some x => if nget 0 d.hup.placed l < nget 0 d.hup.placed x then some l else b) none

/-- The next index of a source. -/
def hupIndex (src : Nat) (d : Dev) : Nat × Dev :=
  (nget 0 d.hup.index src, modHup d fun h => { h with index := nset 0 h.index src (nget 0 h.index src + 1) })

/-- A FIFO word's 64 bytes as they are saved. -/
def wordImage (w : FWord) : List Byte := w.data ++ zeros (64 - w.data.length)

/-- Take the next sector from what is left to save; a region's sector asks for its bytes (R340). -/
def hupTake (d : Dev) : Option Dev :=
  match d.hup.todo with
  | [] => none
  | .words k a n :: rest =>
    let m := min n 64
    let ws := (rangeFrom a m).map fun i => nget {} (getFifo d k).words i
    let (i, d) := hupIndex 1 d
    let data := ws.flatMap wordImage
    some (modHup d fun h =>
      { h with todo := if n ≤ 64 then rest else .words k (a + 64) (n - 64) :: rest,
               queue := h.queue ++ [{ src := 1, index := i, data := data ++ zeros (4096 - data.length), region := k, off := a, words := ws }] })
  | .records rs :: rest =>
    let (i, d) := hupIndex 3 d
    let (v, d) := free d
    some (modHup d fun h =>
      { h with todo := if (rs.drop 256).isEmpty then rest else .records (rs.drop 256) :: rest,
               queue := h.queue ++ [{ src := 3, index := i, data := natLe 4096 v, recs := rs.take 256 }] })
  | .region r off len :: rest =>
    if d.hup.lostRegions.contains r ∨ len ≤ off then some (modHup d fun h => { h with todo := rest })
    else
      let (i, d) := hupIndex 2 d
      let a := (nget ⟨0, 0, 0⟩ d.cq.regions r).addr + off
      let d := modHup d fun h =>
        { h with todo := if len ≤ off + 4096 then rest else .region r (off + 4096) len :: rest,
                 queue := h.queue ++ [{ src := 2, index := i, left := (pieces 4 a 4096).length, region := r, off := off }] }
      let (p, d) := match nfind d.hup.regionPurp r with
        | some p => (p, d)
        | none =>
          let (p, d) := newPurp (.custody r) d
          (p, modHup d fun h => { h with regionPurp := nput h.regionPurp r p })
      some (mpReadRange p .data a 4096 i 0 d)

/-- Fill the queue to n sectors. -/
def hupFill (n : Nat) : Nat → Dev → Dev
  | 0, d => d
  | fuel + 1, d => if n ≤ d.hup.queue.length then d else match hupTake d with
    | some d => hupFill n fuel d
    | none => d

/-- The 4,128 information bytes of a hold-up sector (R344). -/
def hupInfo (d : Dev) (s : HupSector) : List Byte :=
  infoBytes { lba := s.src * 2 ^ 44 + s.index, kind := 3, wseq := d.hup.count, epoch := d.ord.epoch, node := d.pins.nodeId.toNat } s.data

/-- Program a unit of hold-up sectors at the LUN's next place: SLC units upwards from block 8 (R340). The caller has seen that slots for
its plane pages are free. -/
def hupProgram (l : Nat) (ss : List HupSector) (man : Bool) (d : Dev) : Dev :=
  let pl := profPlanes d l
  let n := nget 0 d.hup.placed l
  let b := remapBlk d l (8 + n / blkRows d l)
  let row := rowAddr d l (b * pl) (n % blkRows d l)
  let i0 := (openRun d pl).getD 0
  let base := slotAddr d i0
  let d := each (List.range pl) (fun d p =>
    let rowp := row + p * 2 ^ profPageShift d l
    let infos := (rangeFrom (4 * p) 4).map fun i => match ss[i]? with
      | some s => hupInfo d s
      | none => infoBytes {} (zeros 4096)
    slotFill (i0 + p) (base + p * pageBytes d l) (planePage d l rowp infos) d) d
  let u := d.hup.nextUnit
  let d := modHup d fun h =>
    { h with units := nput h.units u { lun := l, sectors := ss, manifest := man }, nextUnit := u + 1,
             placed := nset 0 h.placed l (n + 1), turn := (chanOf l + 1) % d.build.channels }
  opIssue { lun := l, cls := 1, cop := 5, row := row, addr := base, count := pageBytes d l, flags := pl, use := .holdup u } d

/-- Start hold-up programs while LUNs and sectors are there (Table HUP-2, steps 6 and 7). An OTP program that has started completes first
(19_protection.md, Table SEC-2). -/
def hupPump : Nat → Dev → Dev
  | 0, d => d
  | fuel + 1, d =>
    if !d.hup.saving || d.hup.short || d.hup.ended || d.sec.busy.isSome then d
    else match hupNextLun d with
      | none => d
      | some l =>
        let n := profPlanes d l * 4
        let d := hupFill n 64 d
        let ss := d.hup.queue.take n
        if ss.isEmpty || ss.any fun s => decide (s.left ≠ 0) then d
        else hupPump fuel (hupProgram l ss false (modHup d fun h => { h with queue := h.queue.drop n }))

/-- Bytes of a region sector have come, from byte `off` of it; the first piece begins within a beat where the region does. -/
def hupData (i off : Nat) (bs : List Byte) (d : Dev) : Dev :=
  let f := fun s : HupSector =>
    if s.src = 2 ∧ s.index = i ∧ s.left ≠ 0 then
      let skip := if off = 0 then ((nget ⟨0, 0, 0⟩ d.cq.regions s.region).addr + s.off) % 64 else 0
      { s with left := s.left - 1, data := (layAt s.data off (bs.drop skip)).take 4096 }
    else s
  hupPump 4096 (modHup d fun h => { h with queue := h.queue.map f })

/-- The reads of region r have all been asked for. -/
def hupAsked (d : Dev) (r : Nat) : Bool :=
  !d.hup.todo.any fun t => match t with | .region h _ _ => decide (h = r) | _ => false

/-- A region's read has failed: it is lost from there on, and the save goes on (R29). -/
def hupRegionLost (r : Nat) (d : Dev) : Dev :=
  hupPump 4096 (modHup d fun h =>
    { h with lostRegions := if h.lostRegions.contains r then h.lostRegions else h.lostRegions ++ [r],
             queue := h.queue.filter fun s => !(decide (s.src = 2 ∧ s.region = r) && decide (s.left ≠ 0)) })

/-- A saved sector enters the manifest (Table HUP-3). -/
def hupSaved (s : HupSector) (d : Dev) : Dev :=
  let d := modHup d fun h => { h with saved := h.saved + 1 }
  match s.src with
  | 1 =>
    let f := getFifo d s.region
    modHup d fun h => { h with manifest := { h.manifest with fifos := h.manifest.fifos ++
      [{ fifo := s.region, mark := s.off, wr := f.wr, first := s.index, last := s.index, words := s.words }] } }
  | 2 => modHup d fun h => { h with regionSaved := nset 0 h.regionSaved s.region (nget 0 h.regionSaved s.region + 4096) }
  | 3 => modHup d fun h => { h with manifest := { h.manifest with recs := h.manifest.recs ++ s.recs } }
  | _ => d

/-- The entry that ends the sequence, once both copies of the manifest are written (R345). -/
def hupEntry (d : Dev) : Dev :=
  let n := d.pgm.nextJseq
  let m := d.hup.manifest
  let e := min 0xFFFF ((m.eKtl + m.eSpl + 50000) / 100000)
  let d := jAhead 8 0xFFF d.hup.count d.hup.saved (m.outcome * 2 ^ 24 + d.hup.level * 2 ^ 16 + e) d
  modHup d fun h => { h with doneJ := n }

/-- A hold-up program has ended: its sectors are saved, or go to another unit; a copy of the manifest likewise. -/
def hupProgEnd (u code : Nat) (d : Dev) : Dev :=
  match nfind d.hup.units u with
  | none => d
  | some x =>
    let d := modHup d fun h => { h with units := nerase h.units u }
    if x.manifest then
      if code = 0 then
        let d := modHup d fun h => { h with copies := h.copies + 1 }
        if d.hup.copies = 2 then hupEntry d else d
      else
        match (hupLuns d).find? fun l => decide (l ≠ x.lun) && hupLunFree d l with
        | some l => hupProgram l x.sectors true d
        | none => d
    else if code = 0 then hupPump 4096 (each x.sectors (fun d s => hupSaved s d) d)
    else hupPump 4096 (modHup d fun h => { h with queue := x.sectors ++ h.queue })

/-! ### Entry -/

/-- Nothing is to be saved: R84, or restoration is in progress (R347). -/
def hupNothing (d : Dev) : Bool :=
  decide (d.mode.mode = .dormant ∨ d.mode.mode = .loading ∨ d.mode.mode = .awaitPatch) || d.mode.restoring || !d.cfg.done ||
    custodyEmpty d

/-- The loops at HOLDUP entry: slot 0 closes at step 1 of Table HUP-2 (Table LOOP-2), slots 3 to 14 are FORCED (R375). -/
def loopsHoldup (save : Bool) (d : Dev) : Dev :=
  let d := if save && (getSlot d 0).sect && decide ((getSlot d 0).st ≠ 1) then slotClose 0 d else d
  each (rangeFrom 3 12) (fun d s =>
    let d := modSlot (setLoopSt d s 5) s fun x => { x with tune := none }
    putOut d s (slotOutSafe (getSlot d s))) d

/-- Steps 3 to 5 of Table HUP-2 and the first programs: none where the energy found at step 3 is within E_RESERVE (R342). -/
def hupSave (d : Dev) : Dev :=
  let n := d.hup.count + 1
  let l := hupLevel d
  let items := custodyItems d
  let d := modHup d fun h =>
    { h with level := l, eKtl := eKtlNow d, eSpl := eSplNow d, pSpl := pSplNow d, bound := boundWith d (regionBytes d), count := n,
             saving := true, todo := items, queue := [], index := [], units := [], placed := [], turn := 0, saved := 0,
             regionSaved := [], regionPurp := [], lostRegions := [], manifest := { count := n, level := l }, copies := 0, doneJ := 0,
             short := decide (eKtlNow d + eSplNow d ≤ huReserve d * 100000) }
  let d := setF d F.hupStat_LEVEL l
  let d := modRet d fun r => { r with huStarted := true, huDone := false, huBytes := 0, huEnergy := 0 }
  let a := alphaFor d
  let d := if d.hup.eSpl = 0 then d
    else splSend 1 (alphaSent d a) (modLoops (modSpl d fun s => { s with braking := true }) fun x => { x with alpha := a })
  let d := each (List.range d.build.groups) (fun d g =>
    let d := if (getGroup d g).stage = .handshake then modGroup d g fun x => { x with stage := .on } else ungate g d
    hsend g 0 (.holdup 0 l) d) d
  hupPump 4096 (jAhead 8 0xFFF n 0 (2 ^ 24 + l * 2 ^ 16) d)

/-- PFAIL_LATCH, PF_SNS_TRIP: the latch is set, admission stops and HOLDUP begins (R41, R84, R338, R339). -/
def pfailDev (d : Dev) : Dev :=
  if !running d then d
  else
    let d := modPins d fun p => { p with pfail := true }
    if d.mode.mode = .holdup then d
    else
      let e := hupNothing d
      let d := ladlePowerFail (modFij d fun f => { f with stopped := true })
      let d := modMode (fetchStopAll d) fun s => { s with onward := none }
      let d := modHup d fun h => { h with running := true, empty := e, saving := false, ended := false, latchAt := d.now, phase := 0 }
      let d := goMode .holdup 5 d
      let d := setF d F.hupStat_HOLDUP_STARTED 1
      let d := each (List.range d.build.channels) (fun d c => calDiscard c d) (loopsHoldup (!e) d)
      let d := cmdsHoldup (railHoldup d)
      if e then each (liveGroups d) (fun d g => hsend g 0 (.holdup 0 0) d) d else hupSave d

/-- The low level of input i, one of the two latching inputs, passes its filter (R40, R41). -/
def latchDev (i : Nat) (d : Dev) : Dev :=
  when (running d && filterMay d i) (fun d => pfailDev (modInput d i fun x => { x with asserted := true })) d

/-- PFAIL_LATCH (R41). -/
def execPfailLatch (st : State) : Host.Outcome State Fault Refusal := onDev (latchDev 0) st

/-- PF_SNS_TRIP: the comparator is OR-ed into the same latch (R41, R447). -/
def execPfSnsTrip (st : State) : Host.Outcome State Fault Refusal := onDev (latchDev 1) st

/-! ### Steps 7 to 9 -/

/-- HOLDUP_ENERGY_CHECK: the energy still usable and that which started programs will take, in µJ; the saving ends at
E_RESERVE (R342). -/
def hupEnergyDev (usable committed : Nat) (d : Dev) : Dev :=
  if !d.hup.saving ∨ d.hup.ended ∨ (d.hup.todo.isEmpty ∧ d.hup.queue.isEmpty) then d
  else if usable ≤ committed + huReserve d * 100000 then modHup d fun h => { h with short := true }
  else d

/-- HOLDUP_ENERGY_CHECK (R342). -/
def execHoldupEnergyCheck (usable committed : Nat) (st : State) : Host.Outcome State Fault Refusal :=
  onDev (hupEnergyDev usable committed) st

/-- The staged sectors that no unit has drawn are given their destinations, as the packer gives them (Table HUP-3). -/
def hupDraw (d : Dev) : Dev :=
  let d := each (d.dma.fifos.map (·.1)) (fun d k => Nat.repeat (packerRun (·.staged) k) 4096 d) d
  each (d.pgm.units.filter fun u => decide (u.2.st = .filling)) (fun d u => unitClose u.1 d) d

/-- All words of a sector of FIFO k have been saved. -/
def secSaved (d : Dev) (k : Nat) (s : FSec) : Bool :=
  s.zero || (rangeFrom s.first (s.stop - s.first)).all fun w =>
    d.hup.manifest.fifos.any fun x => decide (x.fifo = k ∧ x.mark ≤ w ∧ w < x.mark + x.words.length)

/-- A unit as it can be restored: sectors whose words were not saved are lost, and pad stands in their place (R342). -/
def unitSaved (d : Dev) (u : Nat) (x : PUnit) : PUnit :=
  match x.use with
  | .fifo k =>
    if x.st = .done then x
    else
      let ok := ((getFifo d k).secs.filter fun s => decide (s.unit = some u)).map (secSaved d k)
      { x with sectors := x.sectors.zipIdx.map fun p =>
          let j := ((x.sectors.take p.2).filter (·.arr.isSome)).length
          if p.1.arr.isSome && decide (ok[j]? = some false) then padSector d x.ns else p.1 }
  | _ => x

/-- The units of the manifest: not DURABLE, all their data in custody, and some of it saved. -/
def hupUnits (d : Dev) : List PUnit :=
  ((d.pgm.units.filter fun u => !u.2.durable && !u.2.dead && decide (u.2.st ≠ .abandoned) &&
    (match u.2.use with | .fifo _ => true | _ => false) &&
    u.2.sectors.all fun s => match s.arr with | some a => (getCmd d a).staged | none => true).map fun u => unitSaved d u.1 u.2).filter
      fun x => x.sectors.any (·.arr.isSome)

/-- The commands in custody with their sectors not yet programmed (Table HUP-3). -/
def hupCmds (d : Dev) : List (Nat × Nat × Nat × Nat × Bool) :=
  (d.ord.cmds.filter fun c => opIn c.2 [2, 3] && c.2.staged && !c.2.durable && !c.2.discard).map fun c =>
    let held := fun (s : FSec) => decide (s.arr = some c.1) && match s.unit with
      | some u => decide ((getUnit d u).st ≠ .done)
      | none => true
    (c.1, c.2.sq, c.2.cid, (d.dma.fifos.map fun f => (f.2.secs.filter held).length).sum, decide (c.2.st = .released))

/-- Regions not saved in full. -/
def hupLostCount (d : Dev) : Nat := (d.cq.regions.filter fun p => decide (nget 0 d.hup.regionSaved p.1 < p.2.len)).length

/-- Step 8: the manifest, with an epoch record for each copy (R306, R344). -/
def hupFinish (usedKtl usedSpl : Nat) (d : Dev) : Dev :=
  let d := hupDraw d
  let short := d.hup.short || decide (hupLostCount d ≠ 0)
  let o := if short then 3 else 2
  let cmds := hupCmds d
  let regs := (sortKey (fun p => p.2.arr) d.cq.regions).map fun p =>
    ({ handle := p.1, addr := p.2.addr, len := p.2.len, saved := nget 0 d.hup.regionSaved p.1 } : HupRegion)
  let d := modHup d fun h =>
    { h with ended := true, manifest := { h.manifest with level := h.level, bound := h.bound, sectors := h.saved, outcome := o,
                                                            eKtl := usedKtl, eSpl := usedSpl, units := hupUnits d, cmds := cmds, regions := regs } }
  let d := setF (setF d F.hupLastb_SECTORS d.hup.saved) F.hupLaste_KTL (min 0xFFFF ((usedKtl + 50000) / 100000))
  let d := setF (setF d F.hupLaste_SPL (min 0xFFFF ((usedSpl + 500000) / 1000000))) F.hupLasts_OUTCOME o
  let d := setF (setF d F.hupLasts_LEVEL d.hup.level) F.hupLasts_LOST (hupLostCount d)
  let d := setF d F.hupStat_ARMED 0
  let d := modRet d fun r => { r with huBytes := d.hup.saved * 4096, huEnergy := usedKtl + usedSpl }
  let sec := fun (v : Nat) => ({ src := 0, index := 0, data := natLe 4096 v } : HupSector)
  let (v, d) := free d
  match nextPair d with
  | none => hupEntry d
  | some (a, b) =>
    let d := sysIssue .epoch [] d.pgm.ckptAsm d
    hupProgram b [sec v] true (hupProgram a [sec v] true d)

/-- Both copies of the manifest find slots. -/
def manifestMay (d : Dev) : Bool :=
  match nextPair d with
  | some (a, b) => (openRun d (profPlanes d a + profPlanes d b)).isSome
  | none => true

/-- HOLDUP_SAVE_COMPLETE: step 7 has ended, with the energy used from each source so far in µJ (Table HUP-2, step 8). -/
def hupSaveEndDev (usedKtl usedSpl : Nat) (d : Dev) : Dev :=
  if d.hup.saving && !d.hup.ended && d.hup.units.isEmpty && (d.hup.short || (d.hup.todo.isEmpty && d.hup.queue.isEmpty)) &&
      !(d.ord.ops.any fun o => !hupKeeps o.2) && manifestMay d
  then hupFinish usedKtl usedSpl d else d

/-- HOLDUP_SAVE_COMPLETE (R339, R344, R345). -/
def execHoldupSaveComplete (usedKtl usedSpl : Nat) (st : State) : Host.Outcome State Fault Refusal :=
  onDev (hupSaveEndDev usedKtl usedSpl) st

/-- Step 9 can come: the entry of step 8 is written; or, where nothing is saved, no program runs any more. -/
def hupMayEnd (d : Dev) : Bool :=
  d.hup.running && (if d.hup.empty then !(d.ord.ops.any fun o => isProgCop o.2.cop)
    else d.hup.ended && decide (d.hup.doneJ ≠ 0) && jWritten d d.hup.doneJ)

/-- HOLDUP_DONE: the pin, BRAKE_STOP and EVT[10] (Table HUP-2, step 9). -/
def hupDoneDev (d : Dev) : Dev :=
  if !hupMayEnd d then d
  else
    let d := modPins d fun p => { p with holdupDoneOut := true }
    let d := setF d F.hupStat_HOLDUP_DONE 1
    let d := modHup d fun h => { h with running := false, saving := false }
    if d.hup.empty then d
    else
      let d := setF d F.hupLastt_TIME (min 0xFFFFFFFF ((d.now - d.hup.latchAt) / 4))
      let d := modRet d fun r => { r with huDone := true }
      let d := if d.spl.braking then splSend 2 0 (modSpl d fun s => { s with braking := false }) else d
      if (getSlot d 2).st = 1 then slotOpen 2 d else d

/-- OTP_PROGRAM_DONE: the OTP write in progress ends; a save that waited for it goes on. -/
def otpEndDev (d : Dev) : Dev := let d := otpDoneDev d; if d.hup.saving then hupPump 4096 d else d

/-- OTP_PROGRAM_DONE (R406, R412). -/
def execOtpProgramDone (st : State) : Host.Outcome State Fault Refusal := onDev otpEndDev st

/-- HOLDUP_DONE (R339). -/
def execHoldupDone (st : State) : Host.Outcome State Fault Refusal := onDev hupDoneDev st

end Sys2Proof.Machine
end

