-- ==== Sys2Proof/Machine/Sanit.lean ====
section
/-! DEFINITION. Machine/Sanit.lean: OTP programs, the lowering of the protection level and SANITIZE (R405, R406, R412, R415,
R416, R418 of spec/19_protection.md). -/

namespace Sys2Proof.Machine

open Sys2Proof

/-- A job for the SPI sequencer, which does one at a time, in order. -/
def spiAsk (j : SpiJob) (d : Dev) : Dev :=
  modHk d fun h => if h.spi.isNone then { h with spi := some j } else { h with spiWait := h.spiWait ++ [j] }

/-- The newest log entry is PENDING: a SANITIZE is to be finished (R416). -/
def sanPending (d : Dev) : Bool := match d.otp.log.getLast? with | some e => e.1 | none => false

/-! ### The erases of step 3 (R415, R418) -/

/-- The key that marks a RECOVER which comes before the erase of block b. -/
def sanRecover : Nat := 65536

/-- Erase block b of LUN l; an isolated LUN begins with RECOVER, and so does one that is INDETERMINATE (R136, R415 step 3). -/
def sanErase (l b : Nat) (d : Dev) : Dev :=
  let d := modSec d fun s => { s with sanErases := nput s.sanErases l (b + 1) }
  if lunIndet d l ∨ (lunIsol d l ∧ b = 0) then
    opIssue { lun := l, cls := 1, cop := 18, use := .sanitize l (sanRecover + b) } d
  else
    opIssue { lun := l, cls := 1, cop := 7, row := rowAddr d l (b * profPlanes d l) 0, flags := profPlanes d l, use := .sanitize l b } d

/-- LUNs of a channel that erase at once (PRM_SEC_SANCFG): 1 to 32, other values are treated as 8. -/
def sanPar (d : Dev) : Nat := let n := getF d F.secSancfg_PAR; if 1 ≤ n ∧ n ≤ 32 then n else 8

/-- LUNs of channel c whose erases are under way. -/
def sanActive (d : Dev) (c : Nat) : Nat :=
  ((chanLuns d c).filter fun l => decide (0 < nget 0 d.sec.sanErases l ∧ nget 0 d.sec.sanErases l ≤ mpBlocks d l)).length

/-- The next LUNs of a channel begin, while fewer than PAR run (R418). -/
def sanTake (c : Nat) : Nat → Dev → Dev
  | 0, d => d
  | n + 1, d =>
    if sanPar d ≤ sanActive d c then d
    else match (chanLuns d c).find? fun l => lunPresent d l && decide (nget 0 d.sec.sanErases l = 0) with
      | some l => sanTake c n (sanErase l 0 d)
      | none => d

/-- The next erase of LUN l after block b - 1, or the LUN is through and the next one begins. -/
def sanNext (l b : Nat) (d : Dev) : Dev :=
  if b < mpBlocks d l then sanErase l b d
  else sanTake (chanOf l) 64 (modSec d fun s => { s with sanErases := nput s.sanErases l (mpBlocks d l + 1) })

/-- An erase, or the RECOVER before it, has ended: failures are counted, not retried (R415 step 3). A LUN whose RECOVER fails stays
INDETERMINATE, takes no erase (R136), and the blocks left of it count as not erased. -/
def sanEraseEnd (l b code : Nat) (d : Dev) : Dev :=
  if d.mode.mode ≠ .sanitize then d
  else if sanRecover ≤ b then
    let b := b - sanRecover
    if code = 0 then
      opIssue { lun := l, cls := 1, cop := 7, row := rowAddr d l (b * profPlanes d l) 0, flags := profPlanes d l, use := .sanitize l b }
        (modXlt d fun x => { x with indet := nset false x.indet l false })
    else
      let n := mpBlocks d l - b
      sanNext l (mpBlocks d l) (bump (modSec d fun s => { s with sanDone := s.sanDone + n }) F.secSan_NOT_ERASED 0 n)
  else
    let d := modSec d fun s => { s with sanDone := s.sanDone + 1 }
    sanNext l (b + 1) (if code = 0 then d else bump d F.secSan_NOT_ERASED)

/-! ### The work area (R415 step 4) -/

/-- Write zero over the next 2 KiB of the work area, or note that all of it is zero. -/
def sanWipe (d : Dev) : Dev :=
  let at0 := d.sec.sanStage
  if d.cfg.workSize ≤ at0 then modSec d fun s => { s with sanZeroed := true }
  else
    let n := min 2048 (d.cfg.workSize - at0)
    let (p, d) := newPurp .work d
    mpWriteRange p .other (d.cfg.workBase + at0) (zeros n) 0 3 d

/-- A piece of the work area has been written, or its writing has failed for good. -/
def sanWiped (d : Dev) : Dev := if d.mode.mode = .sanitize then sanWipe (modSec d fun s => { s with sanStage := s.sanStage + 2048 }) else d

/-! ### Entry (R415 steps 1 and 2, R416) -/

/-- The higher GEN of the two slots, where one has a valid commit record (R75). -/
def higherGen (d : Dev) : Option Nat :=
  match d.cfg.genA, d.cfg.genB with
  | some x, some y => some (max x y)
  | some x, none => some x
  | none, y => y

/-- The copy of the loaded image goes to the SPI sequencer, with its GEN: one above the higher one, or 0 where that is the highest
(R415 step 5). -/
def sanCopyBegin (d : Dev) : Dev :=
  let g := match higherGen d with | some g => if 0xFFFFFFFE ≤ g then 0 else g + 1 | none => 0
  let d := modSec d fun s => { s with sanCopy := zeroUsers d.cfg.image, sanGen := g }
  spiAsk (.sanitizeCopy 0 (ceilDiv d.cfg.image.length (if d.pins.straps.getLsbD 1 then 4096 else 65536) + 1)) d

/-- The SoC side's work ends, memories are zeroed, and steps 3 to 5 begin. -/
def sanBegin (d : Dev) : Dev :=
  let total := ((allLuns d).map fun l => if lunPresent d l then mpBlocks d l else 0).sum
  let d := modSec d fun s => { s with sanitize := true, sanErases := [], sanTotal := total, sanDone := 0, sanZeroed := false,
                                      sanCopied := false, sanStage := 0 }
  let d := setF d F.secSan_NOT_ERASED 0
  let d := modOrd d fun o => { o with ops := [], held := [], late := [], rdGot := [], rebuilds := [] }
  let d := modPgm d fun p => { p with units := [], buf := [], pages := [], erases := [], toRetire := [], copies := [], par := [], settling := [] }
  let d := modXlt d fun x => { x with lines := [], victims := [], refresh := [], folds := [], gc := [] }
  let d := modRrc d fun r => { r with table := [], savedTable := [], sweeps := [], filter := [] }
  let d := cleanWords (fun w => decide (w.1 = 0 ∨ w.1 = 1 ∨ w.1 = 4 ∨ w.1 = 6)) (traceDiscard d)
  let d := each (d.scheds.map (·.1)) (fun d l => modSched d l fun s => { s with q0 := [], q1 := [], q2 := [], q3 := [], q4 := [], chosen := none }) d
  let d := modDma d fun m => { m with fifos := [], rdq := [] }
  let d := modHk d fun h => { h with load := 0, shed := 0 }
  let d := each (List.range d.build.groups) (fun d g => ungate g d) d
  let d := sanCopyBegin d
  each (List.range d.build.channels) (fun d c => sanTake c 64 d) (sanWipe d)

/-- SANITIZE is entered. -/
def sanEnter (d : Dev) : Dev := sanBegin (goMode .sanitize 8 (modMode d fun s => { s with onward := none, trans := none, restoring := false }))

/-- A start that finds the newest entry PENDING goes on from WARM (R416). -/
def sanResume (d : Dev) : Dev :=
  let t := match d.otp.log.getLast? with | some e => e.2 | none => 0
  sanEnter (modSec d fun s => { s with sanitize := true, sanTarget := t })

/-- Fetching stops, commands that have not started are aborted, and extended custody is dropped (R415 step 1). -/
def lowerStop (d : Dev) : Dev :=
  let d := each ((d.ord.cmds.filter fun c => decide (c.2.st = .fetched)).map (·.1)) (fun d a => cmdFinish a 9 0 d) (fetchStopAll d)
  estimateDev (modCq d fun c => { c with regions := [] })

/-- LOWER_ACCEPTED: the PENDING entry is programmed and fetching stops; SANITIZE is entered once the commands in flight have
run to completion. -/
def lowerDev (d : Dev) : Dev :=
  let d := if d.sec.busy = some 2 then otpDoneDev d else d
  let m := d.mode.mode
  if !d.sec.sanitize then d
  else if m = .warm ∨ m.run ∨ m = .safe then
    let d := lowerStop d
    if d.ord.cmds.any fun c => decide (c.2.st = .running) then d else sanEnter d
  else d

/-- A LOWER whose PENDING entry is programmed goes on to SANITIZE once the commands in flight have ended. -/
def lowerDue (d : Dev) : Bool := d.sec.sanitize && decide (d.mode.mode ≠ .sanitize)

/-- LOWER_ACCEPTED (R415). -/
def execLowerAccepted (st : State) : Host.Outcome State Fault Refusal := onDev lowerDev st

/-- Steps 3 to 5 have ended (R415 step 6). -/
def sanAllDone (d : Dev) : Bool :=
  decide (d.mode.mode = .sanitize) && d.sec.sanZeroed && d.sec.sanCopied && decide (d.sec.sanTotal ≤ d.sec.sanDone)

end Sys2Proof.Machine
end

