-- ==== Sys2Proof/Machine/Restore.lean ====
section
/-! DEFINITION. Machine/Restore.lean: wakes and channel bring-up (R87, R105 to R108, R387, R388), and media-state
restoration: the journal's replay and the return of what a HOLDUP saved (R74, R219, R244, R306, R346 to R348, R461). -/

namespace Sys2Proof.Machine

open Sys2Proof

/-! ### Channel bring-up (Table CHN-2) -/

/-- Isolate LUNs whose volume or channel did not come up (R106, R108). -/
def isolateAll (ls : List Nat) (d : Dev) : Dev := each ls (fun d l => isolateLun l d) d

/-- Mapped volumes of a channel, 4·e + v, in the order of their lines and chains (R101). -/
def chanVols (d : Dev) (c : Nat) : List Nat := ((chanLuns d c).map fun l => l % 32 / 2).dedup

/-- The first LUN of volume v of channel c. -/
def volLun (c v : Nat) : Nat := 32 * c + 2 * v

/-- A volume passes step 4 (R106): the first ID_LEN bytes of its ID, and the first copy of its parameter page that is good. -/
def volPass (d : Dev) (c v : Nat) (a : Option VolAns) : Bool :=
  let l := volLun c v
  match a with
  | none => false
  | some a =>
    decide (a.id.take (prof d l 0x0E 1) = slice (profile d l) 8 (prof d l 0x0E 1)) &&
      match a.params.find? (·.crcOk) with
      | some p => decide (p.pageBytes = prof d l 0x10 2 ∧ p.planes = prof d l 0x12 1 ∧ p.luns = nbits (mapByte d l) 4 3)
      | none => false

/-- Volume Select of a volume of the channel, where volumes are addressed (R102, R110). -/
def volSelect (d : Dev) (c v : Nat) : List BusEntry :=
  if profFeat d (volLun c v) 10 then [.cmd (cmdOpcode d (volLun c v) 20), .adr [v % 4]] else []

/-- The command and address cycles of bring-up (Table CHN-2): RESET on each line; the volumes appointed, one feature 0x58 each, which is
volume addressing (R101, R110); READ ID and READ PARAMETER PAGE; SET FEATURES 0x01, 0x02 and 0x10; ODT Configure and ZQ CALIBRATION LONG
where the profile has them. -/
def bringCycles (d : Dev) (c : Nat) (present : BitVec 16) : List BusEntry :=
  let vs := chanVols d c
  let op := fun v i => BusEntry.cmd (cmdOpcode d (volLun c v) i)
  let here := vs.filter fun v => present.getLsbD v
  ((vs.map (· / 4)).dedup.map fun e => op (((vs.filter fun v => decide (v / 4 = e)).head?).getD 0) 13) ++
  (vs.filter fun v => profFeat d (volLun c v) 10).flatMap (fun _ => [.cmd 0xEF, .adr [0x58]]) ++
  vs.flatMap (fun v => volSelect d c v ++ [op v 16, .adr [0], op v 17, .adr [0]]) ++
  here.flatMap (fun v => volSelect d c v ++ [.cmd 0xEF, .adr [0x01], .cmd 0xEF, .adr [0x02], .cmd 0xEF, .adr [0x10]]) ++
  (here.filter fun v => profFeat d (volLun c v) 11).flatMap (fun v => volSelect d c v ++ [op v 21, .adr [v % 4]]) ++
  (here.filter fun v => profFeat d (volLun c v) 9).flatMap fun v => volSelect d c v ++ [op v 18]

/-- The set-up of volume v once it has been brought up at a rate. -/
def volCfg (d : Dev) (c v rate : Nat) : VolCfg :=
  let l := volLun c v
  let n := fun i => prof d l i 1
  { appointed := if profFeat d l 10 then some (v % 4) else none, tmode := n 5, sig := n 4 % 4, rate := rate, drv := n 0x26,
    odt := if profFeat d l 11 then some (n 0x27) else none, zq := profFeat d l 9 }

/-- The profile rate of a channel: the lowest of its volumes'. DESIGN CHOICE (log 98). -/
def chanRate (d : Dev) (c : Nat) : Nat :=
  let rs := (chanVols d c).map fun v => prof d (volLun c v) 6 2
  rs.foldl min (rs.headD 0)

/-- An extension rate may run on the channel (R107): every volume's profile has SIG 0b11, EXT, that rate, and DFE enabled. -/
def extMay (d : Dev) (c r : Nat) : Bool :=
  (chanVols d c).all fun v =>
    let l := volLun c v
    decide (prof d l 4 1 % 4 = 3) && nbit (prof d l 4 1) 2 && decide (prof d l 6 2 = r) && nbit (prof d l 0xF3 1) 0

/-- The rates that training tries, highest first (R107, R108). -/
def trainRates (d : Dev) (c : Nat) : List Nat :=
  let sig := prof d (volLun c ((chanVols d c).headD 0)) 4 1 % 4
  (rateTable sig true).filter fun r =>
    decide (r ≤ chanRate d c ∧ getF d F.chnCfg_RATE_MIN c ≤ r) && (decide (r ≤ 3600) || extMay d c r)

/-- The set that training at a rate leaves, where its runs converge within Table CAL-3 (R386, R387); `old` is the cell selection that is
kept. -/
def trainAt (d : Dev) (b : BringUp) (sig : Nat) (old : List (List Nat)) (r : Nat) : Option CalSet :=
  calRuns d.build ((b.trains.filter fun t => decide (t.1 = r)).map fun t =>
    calSet d sig (decide (3600 < r)) old (if old.isEmpty then t.2 else { t.2 with cells := [] }))

/-- A channel is brought up (Table CHN-2, R105 to R108). `again`: steps 2 to 8 after a failed check, the stored cell selection kept
(R388). A channel none of whose volumes is present trains at no rate and does not come up: DESIGN CHOICE (log 98). -/
def bringUp (b : BringUp) (again : Bool) (d : Dev) : Dev :=
  let c := b.ch
  if !chanMapped d c ∨ (getGroup d (groupOf c)).stage ≠ .on then d
  else
    let vs := chanVols d c
    let pass := vs.filter fun v => volPass d c v (b.vols.find? fun a => decide (a.vol = v))
    let bits := fun l : List Nat => BitVec.ofNat 16 ((l.map fun v => 2 ^ v).sum)
    let old := if again then ((getCal d c).force.map (·.cells)).getD [] else []
    let rates := if pass.isEmpty then [] else trainRates d c
    let sig := prof d (volLun c (pass.headD 0)) 4 1 % 4
    let at_ := rates.find? fun r => (trainAt d b sig old r).isSome
    let set := (at_.bind (trainAt d b sig old)).getD {}
    let rate := at_.getD 0
    let ok := at_.isSome
    let none_ := !ok && !pass.isEmpty
    let tries := if ok then (rates.takeWhile (· ≠ rate)).length else rates.length - 1
    let zqs := (pass.filter fun v => profFeat d (volLun c v) 9 && (b.vols.any fun a => decide (a.vol = v) && a.zqFail)).length
    let d := modChan d c fun h =>
      { h with present := bits pass, idFail := bits (vs.filter fun v => !pass.contains v), rate := rate,
               sig := if ok then sig else 0, ext := decide (3600 < rate), degraded := ok && decide (rate < chanRate d c),
               failed := none_, up := ok, rbHigh := 0xF, bring := bringCycles d c (bits pass),
               vols := pass.map fun v => (v, volCfg d c v rate),
               lastVol := vs.foldl (fun m v => nput m (v / 4) (v % 4 + 1)) [] }
    let d := each (chanLuns d c) (fun d l => forgetOfs l d) d
    let d := when ok (fun d => modCalCh d c fun y =>
      { y with force := some set, temp := chanTemp d c, calibrated := true, lastMin := d.ageMin, pending := none, running := 0,
               run1 := none, pairs := 0 }) d
    let d := when ok (hsend (groupOf c) 1 (.event (.calDone c 4 (getCal d c).temp (some set)))) d
    let d := bump (bump d F.chnErr_RETRAIN c tries) F.chnErr_ZQ_FAIL c zqs
    let bad := vs.filter fun v => !pass.contains v
    let d := each bad (fun d v => eqNote 0x0A (volLun c v) v 5 d) d
    let d := isolateAll ((chanLuns d c).filter fun l => bad.contains (l % 32 / 2)) d
    if none_ then hsend (groupOf c) 1 (.event (.rateFailed c)) d else d

/-- Every mapped channel of a list that is not up is brought up, each with what it meets. -/
def bringAll (bring : List BringUp) (again : Bool) (cs : List Nat) (d : Dev) : Dev :=
  each cs (fun d c =>
    if (getChan d c).up || (getChan d c).failed then d
    else bringUp ((bring.find? fun b => decide (b.ch = c)).getD { ch := c }) again d) d

/-! ### Replay (Table PGM-6) -/

/-- What the replay gathers. -/
structure Replay where
  incomplete : List (Nat × Nat) := []
  erased : NMap Nat := []
  done : NMap Nat := []
  hwm : List (Nat × Nat) := []
  retire : List (Nat × Nat × Nat) := []
  settled : List Nat := []
  base : NMap Nat := []
  deriving DecidableEq, Repr

/-- The block that stands for block b of LUN l where the replay stands: the checkpointed remap table, and the retirements since. -/
def replayBlk (d : Dev) (r : Replay) (l b : Nat) : Nat :=
  remapGo (nget [] d.xlt.remap l ++ (r.retire.filter fun x => decide (x.1 = l)).map (·.2)) 64 b

/-- Members of the entry: the block of every LUN of the superblock, or its LUN's (R212). -/
def entryBlks (d : Dev) (r : Replay) (e : JEntry) : List (Nat × Nat) :=
  if e.lun = 0xFFF then (sgLuns d (e.unit / 65536)).map fun l => (l, replayBlk d r l (e.unit % 65536)) else [(e.lun, e.unit)]

/-- One entry of the journal. -/
def replayEntry (d : Dev) (r : Replay) (e : JEntry) : Replay :=
  let bs := entryBlks d r e
  match e.typ with
  | 1 => { r with incomplete := r.incomplete.filter (fun x => !bs.contains x) ++ bs,
                  done := r.done.filter fun p => !(bs.any fun b => decide (p.1 = blkKey b.1 b.2)) }
  | 2 => { r with incomplete := r.incomplete.filter (fun x => !bs.contains x),
                  erased := bs.foldl (fun m b => nput m (blkKey b.1 b.2) e.arg) r.erased }
  | 3 => { r with hwm := (r.hwm.filter fun h => decide (h.1 ≠ e.unit)) ++ [(e.unit, e.page)] }
  | 4 => { r with done := nput r.done (blkKey e.lun e.unit) (max e.page (nget 0 r.done (blkKey e.lun e.unit))) }
  | 5 => { r with retire := r.retire ++ [(e.lun, e.unit, e.arg)] }
  | 6 => { r with settled := r.settled ++ [e.lun] }
  | _ => r

/-- The good entries of the pages: each page up to its first bad ECRC (R219). -/
def goodEntries (img : MediaImg) : List JEntry :=
  img.pages.flatMap fun p => (p.takeWhile (·.2)).map (·.1)

/-- The entries that follow the newest CHECKPOINT. -/
def afterCkpt (es : List JEntry) : List JEntry := es.foldl (fun acc e => if e.typ = 7 then [] else acc ++ [e]) []

/-- Rows of a member that a zone's or pool superblock's checkpointed position covers. -/
def ckptRows (d : Dev) (l m : Nat) : Nat := rowsOf d l m

/-- Pages of one unit row in a superblock's mode. -/
def rowPages (d : Dev) (l : Nat) (slc : Bool) : Nat := if slc then 1 else profCell d l

/-- First row not DURABLE of a block, from its PROG_DONE or its checkpointed position. -/
def doneRow (d : Dev) (r : Replay) (l b : Nat) (slc : Bool) : Nat :=
  match nfind r.done (blkKey l b) with
  | some p => p / rowPages d l slc
  | none => match nfind r.base (blkKey l b) with
    | some n => n
    | none => ckptRows d l b

/-- The checkpointed rows of the blocks of some superblocks, before the replay moves any position. -/
def baseRows (d : Dev) (sbs : List Nat) : NMap Nat :=
  sbs.foldl (fun m s => (sgLuns d (s / 65536)).foldl (fun m l => let b := remapBlk d l (s % 65536); nput m (blkKey l b) (ckptRows d l b)) m) []

/-- The remnants of a block between its first row not DURABLE and row `top` (R461). -/
def remnants (img : MediaImg) (l b lo top : Nat) (indet : Bool) : List Nat :=
  let used := (img.scans.filter fun s => decide (s.lun = l ∧ s.mpb = b ∧ lo ≤ s.row ∧ s.row < top) && !s.erased).map (·.row)
  match used.foldl (fun m x => max m (x + 1)) 0 with
  | 0 => if indet && decide (lo < top) then [lo] else []
  | n => rangeFrom lo (min (n + 1) top - lo)

/-- The open ranges after the replay: superblock, LUN, block, first row not DURABLE, top row. -/
def openRanges (d : Dev) (r : Replay) : List (Nat × Nat × Nat × Nat × Nat) :=
  r.hwm.flatMap fun h =>
    let slc := (getSb d h.1).slc
    (sgLuns d (h.1 / 65536)).filterMap fun l =>
      let b := remapBlk d l (h.1 % 65536)
      let lo := doneRow d r l b slc
      let top := min (h.2 / rowPages d l slc) (blkRows d l)
      if lo < top then some (h.1, l, b, lo, top) else none

/-- LUNs left INDETERMINATE: an open erase or program range, and no SETTLED entry after (Table PGM-6). -/
def indetLuns (d : Dev) (r : Replay) : List Nat :=
  (((r.incomplete.map (·.1)) ++ (openRanges d r).map fun x => x.2.1).dedup).filter fun l => !r.settled.contains l

/-- A RETIRE: the remap is applied, or, where the spare does not hold every DURABLE row yet, the copy goes on (R223). -/
def replayRetire (r : Replay) (x : Nat × Nat × Nat) (d : Dev) : Dev :=
  let (l, b, s) := x
  let sb := sbOfBlk d l b
  let slc := match sb with | some n => (getSb d n).slc | none => false
  let need := doneRow d r l b slc
  let have_ := match nfind r.done (blkKey l s) with | some p => p / rowPages d l slc | none => 0
  let d := modPgm d fun p =>
    { p with retired := p.retired ++ [(l, b)],
             raw := if (nfind r.erased (blkKey l s)).isNone ∧ have_ = 0 then p.raw ++ [(l, s)] else p.raw }
  match sb with
  | some sbn =>
    if have_ < need then
      let k := (sgLuns d (sbn / 65536)).findIdx fun y => decide (y = l)
      modPgm d fun p => { p with copies := p.copies ++ [{ lun := l, src := b, dst := s, sbn := sbn, member := k, next := have_, rows := need }] }
    else modXlt d fun y => { y with remap := nset [] y.remap l (nget [] y.remap l ++ [(b, s)]) }
  | none => modXlt d fun y => { y with remap := nset [] y.remap l (nget [] y.remap l ++ [(b, s)]) }

/-- ZCAP of a zone in its mode: as it was opened, or, where that is not recorded, over the members it does not skip (R228). -/
def zcapBack (d : Dev) (n : Nat) (ns : NsSec) (z : Nat) : Nat :=
  let x := getZone d n z
  if x.zcap = 0 then zcapOf d (zoneRow ns z) (ns.width - parOf ns - x.skipped.length) x.slc else x.zcap

/-- Data-unit indexes of a zone whose row on its member satisfies p. -/
def unitsWhere (d : Dev) (n : Nat) (ns : NsSec) (z : Nat) (p : Nat → Nat → Bool) : List Nat :=
  let ms := zoneMembers d n ns z
  let u := zoneU d n ns z
  (List.range (zcapBack d n ns z / max 1 u)).filter fun i =>
    let (k, row, _) := placeSec ms.length (parOf ns) u (i * u)
    p (ms.getD k 0) row

/-- Take a zone's position from what its blocks hold: WP after the last unit that is DURABLE or a remnant, the units below
it that are not DURABLE standing as pad (Table PGM-6, R471). -/
def zoneFromUnits (n z : Nat) (ns : NsSec) (durable begun : Nat → Nat → Bool) (d : Dev) : Dev :=
  let u := zoneU d n ns z
  let cap := zcapBack d n ns z
  let is := unitsWhere d n ns z begun
  let top := is.foldl (fun m i => max m (i + 1)) 0
  if top = 0 then d
  else
    let old := getZone d n z
    let good := unitsWhere d n ns z durable
    let pads := (List.range top).filter fun i => !good.contains i && decide (old.wp ≤ i * u)
    let wp := max old.wp (min cap (top * u))
    modZone d n z fun x =>
      { x with st := if cap ≤ wp then .full else if x.st = .full then .full else .open_, wp := wp, drawn := max x.drawn (top * u), zcap := cap,
               pads := x.pads ++ pads.map fun i => (i * u, u) }

/-- The replay's effect on the SoC side's records (Table PGM-6). -/
def replay (img : MediaImg) (d : Dev) : Replay × List (Nat × Nat × Nat) × Dev :=
  let es := afterCkpt (goodEntries img)
  let r := es.foldl (replayEntry d) {}
  let units := (img.manifest.getD {}).units.map fun u => sbnOf u.sg u.sb
  let d := each r.erased (fun d p => modXlt d fun x => { x with erases := nset 0 x.erases p.1 p.2 }) d
  let d := each r.hwm (fun d h => modSb d h.1 fun s => { s with erased := true }) d
  let d := each r.retire (fun d x => replayRetire r x d) d
  let r := { r with base := baseRows d (r.hwm.map (·.1) ++ units).dedup }
  let ind := indetLuns d r
  let d := each ind (fun d l => markIndet l d) d
  let d := modPgm d fun p =>
    { p with incomplete := r.incomplete, hwm := r.hwm.foldl (fun m h => nput m h.1 (h.2 / rowPages d ((sgLuns d (h.1 / 65536)).headD 0) (getSb d h.1).slc, 0)) [] }
  let d := bump d F.pgmEcnt_INCOMPLETE 0 r.incomplete.length
  let rems := (openRanges d r).flatMap fun x => (remnants img x.2.1 x.2.2.1 x.2.2.2.1 x.2.2.2.2 (ind.contains x.2.1)).map fun w => (x.2.1, x.2.2.1, w)
  let sbs := (r.hwm.map (·.1)).dedup
  let d := each sbs (fun d s =>
    match zoneOfSb d s with
    | some (n, z) =>
      let slc := (getSb d s).slc
      let d := modZone d n z fun x => { x with slc := slc, skipped := if x.st = .empty then skipNow d (getNs d n) (zoneRow (getNs d n) z) else x.skipped }
      let dur := fun l row => decide (row < doneRow d r l (remapBlk d l (s % 65536)) slc)
      zoneFromUnits n z (getNs d n) dur (fun l row => dur l row || rems.contains (l, remapBlk d l (s % 65536), row)) d
    | none =>
      let w := max 1 ((sgLuns d (s / 65536)).length - 1)
      let top := ((sgLuns d (s / 65536)).map fun l =>
        let b := remapBlk d l (s % 65536)
        (rems.filter fun x => decide (x.1 = l ∧ x.2.1 = b)).foldl (fun m x => max m (x.2.2 + 1)) (doneRow d r l b false)).foldl max 0
      modSb d s fun x => { x with nextUnit := max x.nextUnit (top * w), pool := if x.pool = 0 then 1 else x.pool }) d
  (r, rems, d)

/-! ### What a HOLDUP saved (R346) -/

/-- The outcome that the newest HOLDUP entry carries, and its hold-up count: 0 where there is none (R345). -/
def hupOutcome (img : MediaImg) : Nat × Nat :=
  match ((goodEntries img).filter fun e => decide (e.typ = 8)).getLast? with
  | some e => (e.arg / 2 ^ 24, e.unit)
  | none => (0, 0)

/-- The LAST registers, from the manifest's header. -/
def hupLast (m : Manifest) (d : Dev) : Dev :=
  let lost := (m.regions.filter fun g => decide (g.saved < g.len)).length
  let d := setF (setF d F.hupLastt_TIME (min 0xFFFFFFFF m.time)) F.hupLastb_SECTORS m.sectors
  let d := setF (setF d F.hupLaste_KTL (min 0xFFFF ((m.eKtl + 50000) / 100000))) F.hupLaste_SPL (min 0xFFFF ((m.eSpl + 500000) / 1000000))
  setF (setF (setF d F.hupLasts_OUTCOME m.outcome) F.hupLasts_LEVEL m.level) F.hupLasts_LOST lost

/-- The saved words return to their FIFOs, at their positions and with their tags (R346 step 1). -/
def fifosBack (m : Manifest) (d : Dev) : Dev :=
  each m.fifos (fun d x =>
    modFifo x.fifo (fun f =>
      let top := max f.wr x.wr
      let words := (x.words.zipIdx).foldl (fun w p => nput w (x.mark + p.2) p.1) f.words
      { f with words := words, mark := if f.words.isEmpty then x.mark else min f.mark x.mark, wr := top, sent := top, rd := top, asm := top }) d) d

/-- Whether a restored unit is already covered by a PROG_DONE. -/
def unitCovered (d : Dev) (r : Replay) (x : PUnit) : Bool :=
  decide (x.row < doneRow d r x.lun (remapBlk d x.lun x.sb) x.slc)

/-- A restored unit goes to its recorded destination, or, where that may have begun, to a new unit of its pool, or to its
own position in a spare (R346, R461). -/
def unitBack (r : Replay) (rems : List (Nat × Nat × Nat)) (x : PUnit) (d : Dev) : Dev :=
  if unitCovered d r x then d
  else
    let ns := getNs d x.ns
    let b := remapBlk d x.lun x.sb
    let begun := rems.contains (x.lun, b, x.row)
    let fresh : PUnit := { x with use := .restore, st := .waitHwm, encoded := 0, copsDone := 0, pagesOut := 0, readsLeft := 0, attempts := 0,
                                  bandAsked := false, durable := false, jseqDone := none, eseq := none, waitJ := 0, kept := false,
                                  released := true, again := false, bad := false, viaParity := false, mpb := b,
                                  sectors := x.sectors.map fun s => { s with arr := none } }
    let put := fun (y : PUnit) (d : Dev) => modPgm d fun p => { p with units := nput p.units p.nextUnit y, nextUnit := p.nextUnit + 1 }
    if ns.random then
      if begun || !(getSb d (sbnOf x.sg x.sb)).erased then
        match randomUnit x.ns (4 * x.ns + x.cls) x.cls .restore d with
        | (some u, d) => modUnit u (fun y => { y with sectors := fresh.sectors, st := .waitHwm, arch := x.arch, released := true }) d
        | (none, d) => d
      else put fresh d
    else
      let d := if begun then (retireBlk x.lun b (doneRow d r x.lun b x.slc) none d).2 else d
      let u := unitSectors d x.lun x.slc
      let d := modZone d x.ns x.zone fun z =>
        { z with zcap := if z.slc = x.slc then z.zcap else 0, policy := x.policy, slc := x.slc,
                 skipped := if z.st = ZState.empty then skipNow d ns (zoneRow ns x.zone) else z.skipped }
      let d := modSb d (sbnOf x.sg x.sb) fun s => { s with slc := x.slc }
      let cap := zcapBack d x.ns ns x.zone
      let old := (getZone d x.ns x.zone).wp
      let top := min cap ((x.first + 1) * u)
      let gaps := ((List.range x.first).filter fun i => decide (old ≤ i * u)).map fun i => (i * u, u)
      let data := (x.sectors.filter fun s => decide (s.info.kind = 0)).length
      let d := modZone d x.ns x.zone fun z =>
        { z with wp := max z.wp top, drawn := max z.drawn ((x.first + 1) * u), zcap := cap,
                 st := if cap ≤ max z.wp top then .full else .open_,
                 pads := ((z.pads ++ gaps).filter fun p => decide (p.1 ≠ x.first * u)) ++ (if data < u then [(x.first * u + data, u - data)] else []) }
      put { fresh with mpb := remapBlk d x.lun x.sb } d

/-- The write sequence number that a saved TRIM counts as: after every restored sector that arrived before it. -/
def trimSeq (m : Manifest) (a : Nat) : Nat :=
  (m.units.flatMap fun u => u.sectors.filterMap fun s => match s.arr with
    | some b => if b < a then some (s.info.wseq + 1) else none
    | none => none).foldl max 0

/-- A saved TRIM or zone record is applied (R346 step 1). -/
def recBack (m : Manifest) (x : HupRec) (d : Dev) : Dev :=
  if !x.zone then each (rangeFrom x.first x.count) (fun d l =>
      let s := max (trimSeq m x.arr) (nget 0 d.xlt.mapSeq (mapKey x.ns l))
      mapSet x.ns l unmapped s d) d
  else if x.count = 0x11 then modZone d x.ns x.first fun z => { z with st := .full }
  else modZone d x.ns x.first fun _ => {}

/-- Units and records in arrival order; a zone reset drops the units that came before it. -/
def custodyBack (r : Replay) (rems : List (Nat × Nat × Nat)) (m : Manifest) (d : Dev) : Dev :=
  let resets := m.recs.filter fun x => x.zone && decide (x.count = 0x12)
  let arrOf := fun (u : PUnit) => (u.sectors.filterMap (·.arr)).foldl max 0
  let gone := fun (u : PUnit) => resets.any fun x => decide (x.ns = u.ns ∧ x.first = u.zone ∧ arrOf u < x.arr) && !(getNs d u.ns).random
  let d := each resets (fun d x => recBack m x d) d
  let d := each (m.units.filter fun u => !gone u) (fun d u => unitBack r rems u d) d
  let d := each (m.recs.filter fun x => !(x.zone && decide (x.count = 0x12))) (fun d x => recBack m x d) d
  let d := each (nsList d) (fun d p => mapCkpt p.1 d) d
  unitPump ((ckptAsk d).2)

/-! ### Restoration from its start (R74) -/

/-- The epoch number after a start (R306): from the start record after SYS_RST_n, else from the epoch records. -/
def epochBack (img : MediaImg) (afterPo hup : Bool) (d : Dev) : Dev :=
  let e := if afterPo then (match img.epoch with | some e => e + 1 + d.ret.epochEdges | none => d.ret.epochEdges)
    else d.ret.epoch + d.ret.epochEdges
  let d := modRet (modOrd d fun o => { o with epoch := e % 2 ^ 32 }) fun r => { r with epoch := e % 2 ^ 32, epochEdges := 0 }
  if afterPo || hup then setF d F.ordEpochStat_RESYNC 1 else d

/-- The records that the checkpoint, the map checkpoint and the threshold table carry (R74 step 3, R191, R244). A ring that no
record names is a new one, its gap at its last position: DESIGN CHOICE, the manual gives no first GAP (log entry 41). -/
def recordsBack (img : MediaImg) (d : Dev) : Dev :=
  let fresh := ((sgAll d).filter fun g => !g.2.1.random && (nfind img.rings g.2.2.sg).isNone).map fun g => (g.2.2.sg, ringS g.2.2)
  let rings := img.rings.map fun p => (p.1, { p.2 with reloc := p.2.reloc.map fun x => { x with cur := none } })
  let rings := fresh.foldl (fun m p => nput m p.1 { gap := p.2 }) rings
  let d := modXlt d fun x =>
    { x with rings := rings, remap := img.remap, erases := img.erases, sbs := img.sbs, map := img.map,
             mapSeq := img.mapSeq, lost := img.lost, openSb := img.openSb }
  let d := each img.slcSbs (fun d s => modSb d s fun x => { x with slc := true }) d
  let d := modCq d fun q => { q with zones := img.zones, nextWseq := max q.nextWseq img.nextWseq }
  let d := modPgm d fun p => { p with retired := img.retired }
  let d := setF (modSec d fun s => { s with creds := img.creds }) F.secNslock_KEYED ((img.creds.map fun p => 2 ^ p.1).sum)
  let d := modXlt d fun x => { x with hostSecs := img.life.1, progSecs := img.life.2 }
  let d := each img.isol (fun d p => setReg d .ordIsol p.1 (getReg d .ordIsol p.1 ||| p.2.toNat)) d
  let d := modRrc d fun r => { r with table := img.table, savedTable := img.table }
  if d.mode.fromPo then { d with ageMin := img.ageMin } else d

/-- Each LBA of a RANDOM namespace takes the sector found with the highest WSEQ (R244). -/
def foundBack (img : MediaImg) (d : Dev) : Dev :=
  each img.found (fun d f => if nget 0 d.xlt.mapSeq (mapKey f.ns f.lba) ≤ f.wseq then mapSet f.ns f.lba f.psn f.wseq d else d) d

/-- RECOVER is issued to each INDETERMINATE LUN (R136, R220). -/
def recoverAll (d : Dev) : Dev :=
  each ((allLuns d).filter fun l => lunIndet d l && lunUsable d l) (fun d l => opIssue { lun := l, cls := 1, cop := 18, use := .recover } d) d

/-- The journal head, and the newest entry that it names (R74 steps 1 and 2): from the retained register file where it holds a valid
head; else from the directory pages, which the retained file takes over together with the hold-up record of the newest HOLDUP. A record
with a poisoned word is rebuilt as after PO_RST_n (Table MEM-2). -/
def headBack (img : MediaImg) (d : Dev) : Dev :=
  let n := (goodEntries img).foldl (fun m e => max m e.jseq) 0
  let (o, _) := hupOutcome img
  let m := img.manifest.getD {}
  let ended := decide (o = 2 ∨ o = 3)
  let head := d.ret.jrnlValid && !retBad d 0
  let d := if d.ret.jrnlValid && !retBad d 2 then d
    else modRet d fun r =>
      { r with huStarted := decide (o ≠ 0), huDone := ended || decide (o = 4), huBytes := if ended then m.sectors * 4096 else 0,
               huEnergy := if ended then m.eKtl + m.eSpl else 0 }
  if head then d
  else modRet d fun r =>
    { r with jrnlValid := true, jrnlLun := img.head.1, jrnlBlock := img.head.2.1, jrnlPage := img.head.2.2, jrnlSeq := n }

/-- The image of the medium as far as the journal head goes. -/
def imgHead (n : Nat) (img : MediaImg) : MediaImg :=
  { img with pages := img.pages.map fun p => p.filter fun e => decide (e.1.jseq ≤ n) }

/-- Media-state restoration begins (R74): the journal head, the records, the replay, and what a HOLDUP saved. -/
def restoreBegin (img : MediaImg) (d : Dev) : Dev :=
  let d := headBack img d
  let n := d.ret.jrnlSeq
  let img := imgHead n img
  let es := goodEntries img
  let ck := (es.filter fun e => decide (e.typ = 7)).foldl (fun m e => max m e.jseq) 0
  let d := modPgm d fun p => { p with nextJseq := n + 1, written := n, force := 0, ckptJseq := ck }
  let d := setF d F.pgmJrnl_JSEQ (n % 2 ^ 32)
  let d := foundBack img (recordsBack img d)
  let (r, rems, d) := replay img d
  let (o, cnt) := hupOutcome img
  let d := cleanWords (fun w => decide (w.1 = 5)) (epochBack img (d.mode.fromPo || retBad d 1) d.mode.fromHup d)
  let m := img.manifest.getD {}
  let zone := (hupLuns d).flatMap fun l => (rangeFrom 8 (hupByte d 1 1)).map fun b => (l, b)
  let left := if 1 ≤ o ∧ o ≤ 3 then zone else img.hupDirty
  let d := modHup d fun h => { h with count := cnt, restore := none, rstep := 1, waiting := false, step4 := false, writesLeft := 0, eraseLeft := 0,
                                        dirty := left }
  let d := setF d F.hupRestore_REGIONS 0
  let d := spareScan (recoverAll (modMode d fun s => { s with restoring := true }))
  if o = 2 ∨ o = 3 then
    let d := hupLast m (modHup d fun h => { h with restore := some m })
    let d := setF d F.hupRestore_REGIONS m.regions.length
    custodyBack r rems m (fifosBack m d)
  else if o = 1 then
    each m.regions (fun d g => eqNote 0x13 0xFFF g.handle 6 d) (bump d F.hupStat_TORN)
  else d

/-! ### The steps of R346 -/

/-- Erase a hold-up block (R346 step 4). -/
def hupEraseIssue (l b : Nat) (d : Dev) : Dev :=
  opIssue { lun := l, cls := 1, cop := 7, row := rowAddr d l (remapBlk d l b * profPlanes d l) 0, flags := profPlanes d l, use := .holdupErase l b } d

/-- Issue the erases of the hold-up blocks that are not erased. -/
def hupEraseAll (d : Dev) : Dev :=
  let bs := d.hup.dirty.filter fun p => lunUsable d p.1
  modHup (each bs (fun d p => hupEraseIssue p.1 p.2 d) d) fun h => { h with rstep := 4, step4 := true, eraseLeft := bs.length, dirty := [] }

/-- The erase of a hold-up block has ended; one that fails goes to a spare (R224, R238). -/
def hupEraseEnd (l b : Nat) (o : Op) (r : OpResult) (d : Dev) : Dev :=
  let less := fun d => modHup d fun h => { h with eraseLeft := h.eraseLeft - 1 }
  match sysEraseEnd l (remapBlk d l b) o r d with
  | (.done, d) => less d
  | (.again, d) => opIssue o d
  | (.wait, d) => if lunIsol d l then less d else d
  | (.spare, d) =>
    match sysSpare l (remapBlk d l b) d with
    | (some _, d) => hupEraseIssue l b d
    | (none, d) => less d

/-- Step 2: each region's saved bytes are written back to its host address. -/
def regionsBack (d : Dev) : Dev :=
  match d.hup.restore with
  | none => d
  | some m =>
    each (m.regions.filter fun g => decide (0 < g.saved)) (fun d g =>
      let (p, d) := newPurp (.restore g.handle) d
      let d := modHup d fun h => { h with writesLeft := h.writesLeft + 1 }
      mpWriteRange p .data g.addr (g.bytes.take g.saved) 0 0 d) (modHup d fun h => { h with rstep := 2, waiting := false })

/-- Step 3: CUSTODY_LOST for each region not restored in full, and one for pantry data that SHORT lost. -/
def custodyLost (all : Bool) (d : Dev) : Dev :=
  match d.hup.restore with
  | none => d
  | some m =>
    let d := each (m.regions.filter fun g => all || decide (g.saved < g.len)) (fun d g => eqNote 0x13 0xFFF g.handle 6 d) d
    let kept := (m.units.filter fun u => decide (u.st ≠ .done)).flatMap fun u => u.sectors.filterMap (·.arr)
    if m.outcome = 3 ∧ (m.cmds.any fun c => decide ((kept.filter (· = c.1)).length < c.2.2.2.1)) then eqNote 0x13 0xFFF 0xFFFFFFFF 6 d else d

/-- Step 4 begins: the RESTORED entry. -/
def restoredEntry (d : Dev) : Dev :=
  let l := match d.hup.restore with | some m => m.level | none => 0
  let n := d.pgm.nextJseq
  modHup (jAhead 8 0xFFF d.hup.count 0 (2 ^ 26 + l * 2 ^ 16) d) fun h => { h with rstep := 3, doneJ := n, step4 := true }

/-- Restored units, parity and copies are on the medium, and so are the map checkpoint and the CHECKPOINT. -/
def unitsBack (d : Dev) : Bool :=
  d.pgm.units.isEmpty && d.pgm.copies.isEmpty && !d.pgm.ckptWanted && d.pgm.ckptPending.isNone && d.pgm.pages.isEmpty && d.pgm.buf.isEmpty

/-- One step of R346, where its condition holds. -/
def restoreStep (d : Dev) : Dev :=
  match d.hup.rstep with
  | 1 =>
    if d.hup.restore.isSome && !unitsBack d then unitPump (ckptPump (jForce (d.pgm.nextJseq - 1) d))
    else
      let d := modDma d fun m => { m with fifos := m.fifos.map fun f => (f.1, { f.2 with words := [], mark := f.2.wr }) }
      match d.hup.restore with
      | none => hupEraseAll d
      | some m =>
        if m.regions.isEmpty then modHup d fun h => { h with rstep := 2 }
        else if isSet d F.hupCfg_REGION_HOLD then (if d.hup.waiting then d else modHup d fun h => { h with waiting := true })
        else regionsBack d
  | 2 => if d.hup.writesLeft = 0 then restoredEntry (custodyLost false d) else d
  | 3 =>
    if jWritten d d.hup.doneJ then hupEraseAll d else d
  | 4 => if d.hup.eraseLeft = 0 then setF (modHup d fun h => { h with rstep := 5 }) F.hupStat_ARMED 1 else d
  | 5 =>
    if coverFor d (boundWith d 0) then
      let d := modHup d fun h => { h with rstep := 0, restore := none }
      keptApply (modeStep 4 (modMode d fun s => { s with restored := true, restoring := false }))
    else d
  | _ => d

/-- MEDIA_RESTORE_COMPLETE: restoration goes on as far as its conditions hold, and ends with the last step (R346). -/
def restoreDev (d : Dev) : Dev :=
  if running d && d.mode.restoring && decide (d.mode.mode = .warm) then Nat.repeat restoreStep 6 d else d

/-- MEDIA_RESTORE_COMPLETE (R346). -/
def execMediaRestoreComplete (st : State) : Host.Outcome State Fault Refusal := onDev restoreDev st

/-- RESTORE_GO: step 2 of R346 may write the regions back (R348). -/
def restoreGoDev (d : Dev) : Dev := if socUp d && d.hup.waiting then regionsBack d else d

/-- RESTORE_GO (R348). -/
def execRestoreGo (st : State) : Host.Outcome State Fault Refusal := onDev restoreGoDev st

/-- RESTORE_SKIP: the regions stay unrestored, each with CUSTODY_LOST (R348). -/
def restoreSkipDev (d : Dev) : Dev :=
  if socUp d && d.hup.waiting then restoredEntry (custodyLost true (modHup d fun h => { h with waiting := false })) else d

/-- RESTORE_SKIP (R348). -/
def execRestoreSkip (st : State) : Host.Outcome State Fault Refusal := onDev restoreSkipDev st

/-! ### Wakes (R87) -/

/-- Edges that the AO domain counted are applied to the epoch number (R86, R306). -/
def edgesApply (d : Dev) : Dev :=
  let e := (d.ord.epoch + d.ret.epochEdges) % 2 ^ 32
  modRet (modOrd d fun o => { o with epoch := e }) fun r => { r with epoch := e, epochEdges := 0 }

/-- The wake from DORMANT (Table MOD-3): groups powered but those gated before, the memories of R396 initialised, stored training
checked: a channel whose check fails is brought up again. DESIGN CHOICE (log 93): a group whose handshake had begun counts as gated before, one that was being
ungated as powered. A link that has failed stays failed (R16). -/
def dormantWake (fails : List Nat) (d : Dev) : Dev :=
  let d := each (List.range d.build.groups) (fun d g =>
    let keep := (getGroup d g).keep
    let d := { d with links := nmod {} d.links g fun l => { l with streams := [] } }
    modGroup (setF d F.hatchLinkStat_GATED (b2n keep) g) g fun x => { x with stage := if keep then .gated else .on, keep := false }) d
  let d := each (List.range d.build.channels) (fun d c =>
    let ok := chanMapped d c && decide ((getGroup d (groupOf c)).stage = .on) && !(getChan d c).failed && (getCal d c).calibrated
    modChan d c fun h => { h with up := ok && !fails.contains c }) d
  let d := cleanWords (fun p => !decide (p.1 = 2 ∨ p.1 = 5)) d
  let d := modLoops d fun x => { x with slots := x.slots.map fun s => (s.1, { s.2 with trace := [], traceAt := 0 }) }
  let d := modPgm d fun p => { p with buf := [] }
  let d := modRrc d fun r => { r with table := r.savedTable }
  if d.mode.restored then edgesApply d else d

/-- WAKE_COMPLETE: the wake in progress reaches WARM; channels not brought up before are, and the first entry after a start
begins media-state restoration (R74, R87, R105). -/
def wakeDev (bring : List BringUp) (fails : List Nat) (img : MediaImg) (d : Dev) : Dev :=
  match d.mode.trans with
  | none => d
  | some t =>
    if !running d then d
    else if t.kind = .wakeStandby ∨ t.kind = .wakeDormant then
      let d := if t.kind = .wakeDormant then dormantWake fails d else d
      let d := setF (goMode .warm t.cause d) F.glbEvtSrc_WAKE_DONE 1
      let d := bringAll bring d.mode.restored (List.range d.build.channels) d
      let d := if d.mode.restored ∨ d.mode.restoring then d else if sanPending d then sanResume d else restoreBegin img d
      keptApply (modeStep 4 d)
    else d

/-- WAKE_COMPLETE (R87). -/
def execWakeComplete (bring : List BringUp) (fails : List Nat) (img : MediaImg) (st : State) : Host.Outcome State Fault Refusal :=
  onDev (wakeDev bring fails img) st

end Sys2Proof.Machine
end

