-- ==== Sys2Proof/Machine/Results.lean ====
section
/-! DEFINITION. Machine/Results.lean: what the SoC side does with what the media side reports over the hatch: outcomes of
operations, decoded sectors, freed FIFO space, events and counts, and the links themselves (R13, R15, R16 of
spec/01_architecture.md; R92, R135, R136, R177, R198, R297 to R299, R309, R324, R327, R436). -/

namespace Sys2Proof.Machine

open Sys2Proof

/-! ### Sectors and rebuilds (R177, R264, R299) -/

/-- Sectors that an operation reads. -/
def opSectors (o : Op) : List Nat := List.range o.expect.length

/-- A rebuild has all of its members' sectors, or one of them cannot be had. -/
def rebuildEnd (j : Nat) (b : Rebuild) (d : Dev) : Dev :=
  let d := modOrd d fun o => { o with rebuilds := nerase o.rebuilds j }
  let d := match b.cmd with
    | some (arr, i) =>
      if b.bad then secOutcome arr i (if b.isol then 0x12 else 0x10) 0 none d else secOutcome arr i 0 0 (some b.acc) d
    | none => d
  match b.unit with
  | some (u, i) =>
    if b.bad then moveLost u i d
    else
      let x := getUnit d u
      match moveLba d x i with
      | some a =>
        let (w, d) := free d
        let (e, d) := free d
        let (n, d) := free d
        let m : Meta := { lba := a, ns := x.ns, kind := 0, flags := 4, wseq := w % 2 ^ 64, epoch := e % 2 ^ 32, node := n % 2 ^ 24 }
        moveStep u (moveSet u i { info := m, data := b.acc } d)
      | none => moveStep u d
  | none => d

/-- One member's sector of a rebuild: its 4,096 user bytes, none where it does not converge with good checks. -/
def rebuildPart (j : Nat) (bs : Option (List Byte)) (d : Dev) : Dev :=
  match nfind d.ord.rebuilds j with
  | none => d
  | some b =>
    let b := { b with left := b.left - 1, bad := b.bad || bs.isNone, acc := match bs with | some x => xorBytes b.acc x | none => b.acc }
    if b.left = 0 then rebuildEnd j b d else modOrd d fun o => { o with rebuilds := nput o.rebuilds j b }

/-- A sector of a command whose read gave no data. -/
def secFailed (arr i outcome : Nat) (d : Dev) : Dev :=
  match (getCmd d arr).sources[i]? with
  | some (.flash l row k slc) =>
    if outcome = 5 then secOutcome arr i (if d.mode.mode = .holdup then 0xB else 0xA) 0 none d else secBad arr i l row k slc d
  | _ => d

/-- The flags of a completion that a sector's outcome sets: EW, and ERASED. -/
def secFlags (early : List Nat) (i outcome : Nat) : Nat := (if early.contains i then 4 else 0) + (if outcome = 1 then 8 else 0)

/-- RDATA of sector i of an operation: to the command's buffer, the unit that moves it, or the rebuild (R264, R309). -/
def rdataUse (o : Op) (r : RData) (early : Option (List Nat)) (d : Dev) : Dev :=
  match o.use with
  | .cmd arr first =>
    match early with
    | some es =>
      secOutcome arr (first + r.index) 0 (secFlags es r.index r.outcome) (some (r.data.take 4096)) d
    | none =>
      let c := getCmd d arr
      let here := c.st = .running ∧ first + r.index < c.sources.length ∧ c.sources[first + r.index]? ≠ some Source.done
      if here ∧ c.opc = 1 then rdPut arr (4096 * (first + r.index)) (r.data.take 4096) d else d
  | .move u => moveSector u (o.arg + r.index) r.outcome r.data o d
  | .rebuild j _ => rebuildPart j (if r.outcome = 0 then some (r.data.take 4096) else none) d
  | _ => d

/-- A codeword whose RDATA has come whole (R309): its sector is used, and noted where its OP_RESULT is still to come. -/
def rdataWhole (r : RData) (d : Dev) : Dev :=
  match nfind d.ord.ops r.tag with
  | some o => rdataUse o r none (modOrd d fun x => { x with rdGot := nput x.rdGot r.tag (r.index :: nget [] x.rdGot r.tag) })
  | none =>
    match nfind d.ord.late r.tag with
    | some w =>
      let d := modOrd d fun x => { x with late := if w.left ≤ 1 then nerase x.late r.tag else nput x.late r.tag { w with left := w.left - 1 } }
      rdataUse w.op r (some w.early) d
    | none => d

/-- An RDATA message (R13): its bytes join those of its codeword, which is used once it is whole. -/
def rdataSoc (r : RData) (d : Dev) : Dev :=
  let key := 256 * r.tag + r.index
  let bs := nget [] d.ord.rdParts key ++ r.data
  if r.last then rdataWhole { r with data := bs } (modOrd d fun x => { x with rdParts := nerase x.rdParts key })
  else modOrd d fun x => { x with rdParts := nput x.rdParts key bs }

/-! ### Outcomes of operations (R135, R177, Table PGM-7, Table PGM-3) -/

/-- A read of a command's sectors has ended. -/
def readResult (arr first : Nat) (o : Op) (r : OpResult) (got : List Nat) (d : Dev) : Dev :=
  let d := when (decide (o.cls = 0 ∧ r.cls ≠ 0)) (modCmd arr fun c => { c with demoted := true }) d
  if r.code = 0 then
    each r.outcomes.zipIdx (fun d p =>
      if p.1 = 16 ∨ p.1 = 1 then
        if got.contains p.2 then secOutcome arr (first + p.2) 0 (secFlags r.early p.2 p.1) none d else d
      else secFailed arr (first + p.2) p.1 d) d
  else if lunIsol d o.lun then each (opSectors o) (fun d i => secFailed arr (first + i) 2 d) d
  else if d.mode.mode = .holdup then (if o.cls = 0 then each (opSectors o) (fun d i => secFailed arr (first + i) 5 d) d else d)
  else if r.code = 3 ∨ r.code = 4 ∨ r.code = 7 then opIssue o d
  else each (opSectors o) (fun d i => secFailed arr (first + i) 2 d) d

/-- What an operation's outcome means to what it was for. -/
def opOutcome (o : Op) (r : OpResult) (got : List Nat) (d : Dev) : Dev :=
  match o.use with
  | .cmd arr first => readResult arr first o r got d
  | .prog u => movedAgain u (moverNext u (unitCopEnd u o r d))
  | .readback u => movedAgain u (moverNext u (readbackEnd u o r d))
  | .erase _ l b => eraseOutcome l b r d
  | .move u => moveReadEnd u o r d
  | .rebuild j _ =>
    if r.code = 0 then (if r.outcomes = [16] ∨ r.outcomes = [1] then d else rebuildPart j none d)
    else if !lunIsol d o.lun ∧ (r.code = 3 ∨ r.code = 4 ∨ r.code = 7) then opIssue o d
    else rebuildPart j none d
  | .ladder _ _ => d
  | .sysPage i copy => sysPageEnd i copy r.code d
  | .sysErase l b => sysErased l b o r d
  | .inPlace e => inPlaceEnd e r.code d
  | .recover => recoverEnd o.lun r d
  | .chan => d
  | .sanitize l b => sanEraseEnd l b r.code d
  | .holdup u => hupProgEnd u r.code d
  | .holdupErase l b => hupEraseEnd l b o r d
  | .sweep l row _ => sweepEnd l row o r d

/-- What waited on flash work goes on, the saving of a HOLDUP included. -/
def afterFlash (d : Dev) : Dev := hupPump 4096 (observePump (unitPump (moversPump (sysPump (isolSweep (cmdSweep d))))))

/-- An OP_RESULT message: the operation's record closes, and its outcome acts (R135). -/
def resultSoc (r : OpResult) (d : Dev) : Dev :=
  match nfind d.ord.ops r.tag with
  | none => d
  | some o =>
    let got := nget [] d.ord.rdGot r.tag
    let due := (r.outcomes.zipIdx.filter fun p => decide (p.1 = 16 ∨ p.1 = 1) && !got.contains p.2).length
    let takes := match o.use with | .cmd _ _ | .move _ | .rebuild _ _ => true | _ => false
    let d := modOrd d fun x => { x with rdGot := nerase x.rdGot r.tag }
    let d := if takes && decide (r.code = 0 ∧ 0 < due) then
        modOrd d fun x => { x with late := nput x.late r.tag { op := o, left := due, early := r.early } } else d
    afterFlash (opOutcome o r got (opClose r.tag d))

/-! ### Operations whose routines ended without an END (R92, R136) -/

/-- The block of an erase is ERASE_INCOMPLETE; it is erased again before it is used (R92, R210). -/
def eraseLost (l b : Nat) (d : Dev) : Dev :=
  let d := modPgm d fun p => { p with incomplete := if p.incomplete.contains (l, b) then p.incomplete else p.incomplete ++ [(l, b)] }
  eraseAgain l b d

/-- A unit whose program may have begun is never programmed again: its data is placed anew as a failure's is, and nothing is
counted or posted (R92, R461, Table PGM-7). -/
def progLost (u : Nat) (d : Dev) : Dev :=
  let n := getF d F.pgmPcnt_FAILS
  setF (unitFail u 0 true d) F.pgmPcnt_FAILS n

/-- Operation `tag` was lost with its record. `domain`: by forced gating, which ends reads DOMAIN_LOST (R92); otherwise a read is
issued again. -/
def opLost (domain : Bool) (tag : Nat) (d : Dev) : Dev :=
  match nfind d.ord.ops tag with
  | none => d
  | some o =>
    let d := modOrd (opClose tag (progFree o d)) fun x => { x with rdGot := nerase x.rdGot tag }
    match o.use with
    | .cmd arr first => if domain then each (opSectors o) (fun d i => secFailed arr (first + i) 5 d) d else opIssue o d
    | .prog u => if (nfind d.pgm.units u).isSome then progLost u d else d
    | .erase _ l b => eraseLost l b d
    | .sanitize l b => sanEraseEnd l b 1 d
    | .sysPage i copy => sysPageEnd i copy 1 d
    | .sysErase _ _ => opIssue o d
    | .holdup u => hupProgEnd u 1 d
    | .holdupErase _ _ => opIssue o d
    | .ladder _ _ | .chan => d
    | .recover => d
    | _ => opIssue o d

/-- Routines of a LUN were lost: its operations, and RECOVER as the first COP that follows (R136). -/
def lunLost (l : Nat) (tags : List Nat) (d : Dev) : Dev :=
  let d := each tags (fun d t => opLost false t d) d
  let d := if lunUsable d l && decide (d.mode.mode ≠ .sanitize) then opIssue { lun := l, cls := 1, cop := 18, use := .recover } d else d
  afterFlash d

/-! ### Isolation and failed groups (R16, R297) -/

/-- The scheduler of an isolated LUN drops what it has queued: each operation ends without having begun. -/
def isolArrive (l : Nat) (d : Dev) : Dev :=
  let s := getSched d l
  let ops := schedOps s
  let d := modSched d l fun s => { s with q0 := [], q1 := [], q2 := [], q3 := [], q4 := [], spill := [] }
  seqPick (chanOf l) 64 (each ops (fun d o => opEnd o 3 0 0 0 0 d) d)

/-- What the rail holds for LUNs of group g ends as on isolated LUNs. -/
def groupOpsFail (g : Nat) (d : Dev) : Dev :=
  let tags := (d.ord.ops.filter fun p => decide (groupOf (chanOf p.2.lun) = g)).map (·.1)
  each tags (fun d t =>
    match nfind d.ord.ops t with
    | some o => opOutcome o { tag := t, code := 3 } [] (modOrd (progFree o d) fun x =>
        { x with ops := nerase x.ops t, held := x.held.filter fun h => decide (h.2.tag ≠ t) })
    | none => d) d

/-! ### The mailbox's slots (R423) -/

/-- State of slot s: 0 FREE, 1 POSTED, 2 DONE. -/
def mbState (d : Dev) (s : Nat) : Nat := nget 0 d.hk.slots s

/-- The 64 bytes of slot s. -/
def mbBytes (d : Dev) (s : Nat) : List Byte := (List.range 16).flatMap fun n => natLe 4 (getReg d .hkMbW (16 * s + n))

/-- The service that slot s asks for. -/
def mbSvc (d : Dev) (s : Nat) : Nat := leAt (mbBytes d s) 0 2

/-- Write a response over the request and set the slot DONE (R423, Table HK-2). -/
def mbAnswer (s status detail retry : Nat) (res : List Byte) (d : Dev) : Dev :=
  if mbState d s ≠ 1 then d
  else
    let bs := (mbBytes d s).take 4 ++ natLe 1 status ++ natLe 1 detail ++ natLe 2 retry ++ (res ++ zeros 56).take 56
    let d := each (List.range 16) (fun d n => setReg d .hkMbW (16 * s + n) (leAt bs (4 * n) 4)) d
    let k := getF d F.hkMbdone_DONE
    let d := setF d F.hkMbdone_DONE (if nbit k s then k else k + 2 ^ s)
    modHk d fun h =>
      if h.serving = some s then { h with slots := nset 0 h.slots s 2, order := h.order.filter (· ≠ s), serving := none, resp := none }
      else { h with slots := nset 0 h.slots s 2, order := h.order.filter (· ≠ s) }

/-- The services of Table HK-3. -/
def svcKnown (v : Nat) : Bool :=
  [1, 2, 0x10, 0x11, 0x12, 0x13, 0x14, 0x20, 0x21, 0x22, 0x23, 0x24, 0x25, 0x30, 0x31, 0x40].contains v

/-- Requests at the head whose service does not exist are answered BAD_SVC. -/
def mbSkip : Nat → Dev → Dev
  | 0, d => d
  | n + 1, d =>
    match d.hk.serving, d.hk.order with
    | none, s :: _ => if svcKnown (mbSvc d s) then d else mbSkip n (mbAnswer s 2 0 0 [] d)
    | _, _ => d

/-! ### Threshold entries for the mailbox (R181, R425) -/

/-- The 8 bytes of a threshold entry (R181). -/
def thrBytes (e : ThrEntry) : List Byte := (e.base.map fun x => BitVec.ofNat 8 (wrapI 8 x)) ++ natLe 1 (e.lastRow % 32 + e.conf % 8 * 32)

/-- The threshold entry that a slot waits for is asked of media common over the link of the first live group; with none it waits. -/
def thrSend (d : Dev) : Dev :=
  match d.hk.thrAsk, liveGroups d with
  | some (s, l, g, t), k :: _ => hsend k 0 (.ctrlReq (.thr s l g t)) d
  | _, _ => d

/-- The slot of an answer that carries a threshold entry, from 2^21 on: no register pair has such a number. -/
def thrMark (s : Nat) : Nat := 2 ^ 21 + s

/-- The entry that media common answers with, 8 bytes. -/
def thrEntry (d : Dev) (l g t : Nat) : DWord := BitVec.ofNat 64 (leAt (thrBytes (getThr d l g (if t = 0 then 3 else t - 1))) 0 8)

/-- The entry has come: slot s is answered. -/
def thrDone (s : Nat) (data : DWord) (d : Dev) : Dev :=
  match d.hk.thrAsk with
  | some (t, _, _, _) =>
    if t = s then mbSkip 16 (mbAnswer s 0 0 0 (natLe 8 data.toNat) (modHk d fun h => { h with thrAsk := none })) else d
  | none => d

/-! ### Answers of the register port (R32, R436) -/

/-- One CTRL_RESP of the access that waits: the last one is the access's response (R32, R436). -/
def portResp (data : DWord) (d : Dev) : Dev :=
  match d.rp.wait with
  | none => d
  | some w =>
    if w.left ≤ 1 then { d with rp := { last := some (if w.write then 0 else data, false), wait := none } }
    else { d with rp := { d.rp with wait := some { w with left := w.left - 1 } } }

/-- A CTRL_RESP: of a threshold entry, or of the register access that waits. -/
def ctrlAnswer (k : Nat) (data : DWord) (d : Dev) : Dev := if 2 ^ 21 ≤ k then thrDone (k - 2 ^ 21) data d else portResp data d

/-- The correction row that PRM_RRC_CORRSEL selects (R184). -/
def corrKey (d : Dev) : Nat := 16 * getF d F.rrcCorrsel_PROF + 8 * getF d F.rrcCorrsel_TBL + getF d F.rrcCorrsel_BIN

/-- PRM_RRC_CORR0 or PRM_RRC_CORR1: four bytes of that row. -/
def corrWrite (hi : Bool) (v : Nat) (d : Dev) : Dev :=
  let k := corrKey d
  let old := (nget 0 d.rrc.corr k).toNat
  let w := if hi then old % 2 ^ 32 + v % 2 ^ 32 * 2 ^ 32 else old / 2 ^ 32 * 2 ^ 32 + v % 2 ^ 32
  modRrc d fun x => { x with corr := nset 0 x.corr k (BitVec.ofNat 64 w) }

/-- A write to a register of a Mirror window (R436). -/
def mirrorWrite (r : Reg) (i v : Nat) (d : Dev) : Dev :=
  match r with
  | .rrcCorr0 => corrWrite false v d
  | .rrcCorr1 => corrWrite true v d
  | _ => plainWrite r i v d

/-- The media side takes a Mirror write; media common takes it with the first group's message. -/
def mirrorTake (off : Nat) (v : Word) (first : Bool) (d : Dev) : Dev :=
  match regAt off with
  | some (r, i) => if first then mirrorWrite r i v.toNat d else d
  | none => d

/-- A CTRL_REQ that its group does not answer: zero with RP_ERR for a per-channel access; a mirror write goes on without it. -/
def portLost (b : MsgBody) (d : Dev) : Dev :=
  match b with
  | .ctrlReq (.chanRead _ _) | .ctrlReq (.chanWrite _ _ _) => if d.rp.wait.isSome then { d with rp := { last := some (0, true), wait := none } } else d
  | .ctrlReq (.mirror off v first) => portResp 0 (mirrorTake off v first d)
  | .ctrlReq (.cal c kind) => modCalCh d c fun x => { x with waiting := kind }
  | .ctrlReq (.thr _ _ _ _) => thrSend d
  | _ => d

/-- Messages of a stream that its receiver has not accepted. -/
def undelivered (d : Dev) (g st : Nat) : List MsgBody :=
  let s := getStream d g st
  (s.unacked.filter fun m => !seqEarlier s.expect m.seq).map (·.body) ++ s.waiting

/-- A register-port access that waits for group g will not be answered over its link: a CTRL_REQ not accepted is lost, and so is
a CTRL_RESP on its way; a mirror write that the group has taken has had its effect (R32, R436). -/
def portDrop (g : Nat) (d : Dev) : Dev :=
  let up := undelivered d g 1
  let d := each (undelivered d g 0) (fun d b => portLost b d) d
  each up (fun d b => match b with
    | .ctrlResp 0 _ => portResp 0 d
    | .ctrlResp k v => if 2 ^ 21 ≤ k then ctrlAnswer k v d else if d.rp.wait.isSome then { d with rp := { last := some (0, true), wait := none } } else d
    | _ => d) d

/-- The page-buffer slots of reads of group g are free: no codeword or RDATA of them is to come. -/
def readSlotsOff (g : Nat) (d : Dev) : Dev :=
  slotsSweep (modCodec d fun x => { x with slots := x.slots.filter fun p => p.2.prog || decide (groupOf (chanOf p.2.lun) ≠ g) })

/-- A channel group has failed (R16): its LUNs are isolated, and the rail handles their data. -/
def groupFailed (g : Nat) (d : Dev) : Dev :=
  if isSet d F.hatchLinkStat_FAILED g ∧ (nget {} d.links g).failed then d
  else
    let d := setF { d with links := nmod {} d.links g fun l => { l with failed := true } } F.hatchLinkStat_FAILED 1 g
    let d := eqNote 0x0C 0xFFF g 5 (readSlotsOff g (portDrop g d))
    let d := isolateAll ((allLuns d).filter fun l => decide (groupOf (chanOf l) = g)) d
    afterFlash (isolSweep (groupOpsFail g d))

/-! ### Events (Table ARC-2) -/

/-- What the SoC side does with an EVENT. -/
def eventSoc (e : EventBody) (d : Dev) : Dev :=
  match e with
  | .seqFault _ _ _ _ => d
  | .refresh l b sev => refreshBlk l b sev d
  | .memError m i a k => memErrSoc m i a k d
  | .calDone c o t r => calDoneSoc c o t r d
  | .lunTimeout l => afterFlash (isolSweep (isolateLun l (eqNote 9 l 0 5 d)))
  | .lost l tags => lunLost l tags d
  | .uncorr _ _ _ => d
  | .rateFailed c => afterFlash (isolSweep (isolateAll (chanLuns d c) (eqNote 0x0B 0xFFF c 5 d)))

/-! ### The messages -/

/-- The messages of a kind, for `deliver`. -/
def isResult : MsgBody → Bool | .opResult _ => true | _ => false
def isWdata : MsgBody → Bool | .wdata _ _ _ _ _ => true | _ => false
def isRdata : MsgBody → Bool | .rdata _ => true | _ => false
def isCredit : MsgBody → Bool | .credit _ _ => true | _ => false
def isFifoState : MsgBody → Bool | .fifoState _ _ _ _ _ => true | _ => false
def isRelease : MsgBody → Bool | .release _ _ => true | _ => false
def isEvent : MsgBody → Bool | .event _ => true | _ => false
def isStats : MsgBody → Bool | .stats _ _ _ _ _ => true | .trace _ => true | _ => false
def isFault : MsgBody → Bool | .fault _ => true | _ => false

/-- OP_RESULT (R135). -/
def execOpResult (g seq : Nat) (crc : BitVec 16) (st : State) : Host.Outcome State Fault Refusal :=
  onDev (deliver g 1 seq crc isResult fun b d => match b with | .opResult r => resultSoc r d | _ => d) st

/-- A data message is taken, and its buffer goes back to the sender as one credit of the stream (R13). -/
def creditBack (g stream : Nat) (d : Dev) : Dev := hsend g (if stream = 2 then 1 else 0) (.credit stream 1) d

/-- WDATA (R324). -/
def execWdata (g seq : Nat) (crc : BitVec 16) (st : State) : Host.Outcome State Fault Refusal :=
  onDev (deliver g 2 seq crc isWdata fun b d => match b with
    | .wdata k i tag _ bs => creditBack g 2 (ctxSettle k (wordArrive k i tag bs d))
    | _ => d) st

/-- RDATA (R309). -/
def execRdata (g seq : Nat) (crc : BitVec 16) (st : State) : Host.Outcome State Fault Refusal :=
  onDev (deliver g 3 seq crc isRdata fun b d => match b with
    | .rdata r => creditBack g 3 (afterFlash (rdataSoc r d))
    | _ => d) st

/-- CREDIT (R13): buffer credits come back to the sender of a data stream. -/
def execCredit (g : Nat) (up : Bool) (seq : Nat) (crc : BitVec 16) (st : State) : Host.Outcome State Fault Refusal :=
  onDev (deliver g (b2n up) seq crc isCredit fun b d => match b with
    | .credit s n => slotsSweep (modStream d g s fun x => { x with credits := x.credits + n })
    | _ => d) st

/-- What the SoC side learns of FIFO k: its packets, a watermark crossing (R328), and OVERRUN. -/
def fifoStateSoc (k pkts : Nat) (cross : Option Bool) (lost : Bool) (d : Dev) : Dev :=
  when lost (fun d => setF d F.fifoStat_OVERRUN 1 k) (modFifo k (fun f => { f with pkts := pkts, xoff := cross.getD f.xoff }) d)

/-- FIFO_STATE (R13, PRM_FIFO_STAT): the SoC side learns of packets and OVERRUN. -/
def execFifoState (g seq : Nat) (crc : BitVec 16) (st : State) : Host.Outcome State Fault Refusal :=
  onDev (deliver g 1 seq crc isFifoState fun b d => match b with
    | .fifoState k n _ cross lost => fifoStateSoc k n cross lost d
    | _ => d) st

/-- Sources of waiting Observe commands that name words of a unit about to be released become its place on the medium (R284). -/
def wordsPlaced (x : PUnit) (d : Dev) : Dev :=
  if x.viaParity then d else
  let place := fun (s : Source) => match s with
    | .word a off =>
      match x.sectors.zipIdx.find? (fun p => decide (p.1.arr = some a ∧ p.1.info.lba = (getCmd d a).lba + off)) with
      | some p => let q := pageOf d x.lun x.mpb x.row p.2 x.slc; .flash x.lun q.1 q.2 x.slc
      | none => s
    | _ => s
  each (d.ord.cmds.filter fun c => isObserve c.2 && decide (c.2.st = .running) && !c.2.ladled) (fun d c =>
    modCmd c.1 (fun c => { c with sources := c.sources.map place }) d) d

/-- RELEASE of a unit (R327): its FIFO space is freed in order, and a unit that is also DURABLE leaves. -/
def releaseSoc (u : Nat) (d : Dev) : Dev :=
  match nfind d.pgm.units u with
  | none => d
  | some x =>
    match x.use with
    | .fifo k =>
      let d := fifoRelease k u (modUnit u (fun x => { x with released := true }) (wordsPlaced x d))
      xoffCheck k (if x.durable then dropUnit u d else d)
    | _ => d

/-- RELEASE (R327). -/
def execRelease (g seq : Nat) (crc : BitVec 16) (st : State) : Host.Outcome State Fault Refusal :=
  onDev (deliver g 1 seq crc isRelease fun b d => match b with | .release u _ => afterFlash (releaseSoc u d) | _ => d) st

/-- EVENT (R13). -/
def execEvent (g seq : Nat) (crc : BitVec 16) (st : State) : Host.Outcome State Fault Refusal :=
  onDev (deliver g 1 seq crc isEvent fun b d => match b with | .event e => eventSoc e d | _ => d) st

/-- STATS: the mirror follows, and trace records join the trace buffer (R433, R436). -/
def execStats (g seq : Nat) (crc : BitVec 16) (st : State) : Host.Outcome State Fault Refusal :=
  onDev (deliver g 1 seq crc isStats fun b d => match b with
    | .stats off hi lo n op => statsSoc off hi lo n op d
    | .trace w => traceSoc w d
    | _ => d) st

/-- FAULT (R16): a link reset is noticed, or the channel group has failed. -/
def execFault (g : Nat) (up : Bool) (seq : Nat) (crc : BitVec 16) (st : State) : Host.Outcome State Fault Refusal :=
  onDev (deliver g (b2n up) seq crc isFault fun b d => match b with
    | .fault true => groupFailed g d
    | _ => d) st

/-- LINK (R15). -/
def execLink (g stream kind seq : Nat) (st : State) : Host.Outcome State Fault Refusal := onDev (linkAnswer g stream kind seq) st

/-- A message of stream `st` has been sent nine times without an acknowledge: the link is reset (R16); the third reset within
one second fails the group. -/
def linkResetDev (g st : Nat) (d : Dev) : Dev :=
  if !linkUp d g || !((getStream d g st).unacked.any fun m => decide (9 ≤ m.sends)) then d
  else
    let times := ((nget {} d.links g).resetTimes.filter fun t => decide (d.now < t + ms 1000)) ++ [d.now]
    let d := bump { d with links := nmod {} d.links g fun l => { l with resetTimes := times } } F.hatchLinkStat_RESETS g
    let d := each [0, 1, 2, 3] (fun d s => resyncStream g s d) d
    let d := hsend g (st % 2) (.fault false) d
    if 3 ≤ times.length then groupFailed g d else d

/-- LINK_RESET (R16). -/
def execLinkReset (g stream : Nat) (st : State) : Host.Outcome State Fault Refusal := onDev (linkResetDev g stream) st

end Sys2Proof.Machine
end

