-- ==== Sys2Proof/Machine/Gate.lean ====
section
/-! DEFINITION. Machine/Gate.lean: the power gating of channel groups (R90 to R92, Table MOD-5 of spec/04_modes.md), with what a
power-down and an ungate do to a group's state (R136, R197, R388, R389, R396, R436, R437). -/

namespace Sys2Proof.Machine

open Sys2Proof

/-- Channels of group g. -/
def groupChans (d : Dev) (g : Nat) : List Nat := (List.range d.build.channels).filter fun c => decide (groupOf c = g)

/-- LUN l lies in group g. -/
def inGroup (g l : Nat) : Bool := decide (groupOf (chanOf l) = g)

/-- The group has operations queued, running, suspended or in the decoders (Table MOD-5 step 3). -/
def groupBusy (d : Dev) (g : Nat) : Bool :=
  (d.scheds.any fun s => inGroup g s.1 && (!(schedOps s.2).isEmpty || s.2.chosen.isSome)) ||
  ((groupChans d g).any fun c => !(getChan d c).recs.isEmpty) ||
  (d.codec.mops.any fun m => inGroup g m.2.op.lun) || (d.codec.slots.any fun s => !s.2.prog && inGroup g s.2.lun)

/-- The handshake starts (Table MOD-5 steps 1 and 2). -/
def gateStart (g : Nat) (d : Dev) : Dev :=
  if (getGroup d g).stage = .on then
    hsend g 0 (.quiesce false) (modGroup d g fun x => { x with stage := .handshake, reqAt := d.now, quiesced := false })
  else d

/-- Set REQ of group g. -/
def gateReqSet (g : Nat) (d : Dev) : Dev := setF d F.pwrGate_REQ (getF d F.pwrGate_REQ ||| 2 ^ g)

/-- GATE_REQUEST: REQ[g] is set; in LOADING and AWAIT-PATCH it is only recorded, in HOLDUP and SANITIZE ignored (R90). -/
def gateReqDev (g : Nat) (d : Dev) : Dev :=
  let m := d.mode.mode
  if !socUp d ∨ d.build.groups ≤ g ∨ m = .holdup ∨ m = .sanitize then d
  else
    let d := gateReqSet g d
    if m = .loading ∨ m = .awaitPatch then d else gateStart g d

/-- GATE_REQUEST (R90). -/
def execGateRequest (g : Nat) (st : State) : Host.Outcome State Fault Refusal := onDev (gateReqDev g) st

/-- What the media side handed over before its group lost power reaches the SoC side (R15). -/
def upApply (b : MsgBody) (d : Dev) : Dev :=
  match b with
  | .opResult r => resultSoc r d
  | .rdata r => rdataSoc r d
  | .fifoState k n _ cross lost => fifoStateSoc k n cross lost d
  | .release u _ => releaseSoc u d
  | .event e => eventSoc e d
  | .stats off hi lo n op => statsSoc off hi lo n op d
  | .trace w => traceSoc w d
  | .ctrlResp k data => ctrlAnswer k data d
  | _ => d

/-- What the SoC side handed over before the group's power goes reaches the media side: FIFO words their slices, an isolation its
scheduler. A register access that the group cannot answer any more is lost to it (R15, R32). -/
def downApply (b : MsgBody) (d : Dev) : Dev :=
  match b with
  | .wdata k i tag _ bs => ctxSettle k (wordArrive k i tag bs d)
  | .ctrlReq (.isolate l) => isolArrive l d
  | b => portLost b d

/-- The streams of link g are emptied, each message delivered once and in order, and end with the group's power (R15). -/
def linkFlush (g : Nat) (d : Dev) : Dev :=
  let up := undelivered d g 3 ++ undelivered d g 1
  let down := undelivered d g 2 ++ undelivered d g 0
  let d := { d with links := nmod {} d.links g fun l => { l with streams := [] } }
  let d := each down (fun d b => downApply b d) d
  afterFlash (each up (fun d b => upApply b d) d)

/-- The power of group g goes off: GATED, the PHYs parked, the pads with their keepers; counts and flags of its per-channel
registers restart, and a pending calibration is discarded (Table MOD-5 steps 4 and 5, R389, R437). -/
def groupOff (g : Nat) (d : Dev) : Dev :=
  let d := readSlotsOff g (linkFlush g d)
  let d := modGroup (setF d F.hatchLinkStat_GATED 1 g) g fun x => { x with stage := .gated, quiesced := false }
  let d := each (groupChans d g) (fun d c => chanOff c d) d
  if nbit (getF d F.pwrGate_REQ) g then d else ungate g d

/-- The handshake has reached its last steps: the group is quiet and power goes off. -/
def gateDone (g : Nat) (d : Dev) : Dev :=
  if (getGroup d g).stage = .handshake ∧ (getGroup d g).quiesced ∧ !groupBusy d g then groupOff g d else d

/-- GATE_HANDSHAKE_COMPLETE (R90). -/
def execGateHandshakeComplete (g : Nat) (st : State) : Host.Outcome State Fault Refusal := onDev (gateDone g) st

/-- QUIESCE down reaches the group: the acknowledge follows at once where the group has no work. QUIESCE up is the acknowledge
(Table MOD-5). -/
def quiesceMsg (g : Nat) (ack : Bool) (d : Dev) : Dev :=
  if ack then gateDone g d
  else
    let d := modGroup d g fun x => { x with quiesced := true }
    if groupBusy d g then d else hsend g 1 (.quiesce true) d

/-- QUIESCE messages. -/
def isQuiesce (ack : Bool) : MsgBody → Bool | .quiesce a => a == ack | _ => false

/-- QUIESCE (R90). -/
def execQuiesce (g : Nat) (up : Bool) (seq : Nat) (crc : BitVec 16) (st : State) : Host.Outcome State Fault Refusal :=
  onDev (deliver g (b2n up) seq crc (isQuiesce up) fun _ d => quiesceMsg g up d) st

/-- GATE_CLEAR: host firmware clears REQ[g], or a held command does so where AUTO_UNGATE[g] is 1 (R91). In HOLDUP and SANITIZE every
gate request is ignored (R90). -/
def gateClearDev (g : Nat) (byHost : Bool) (d : Dev) : Dev :=
  if !socUp d ∨ d.build.groups ≤ g ∨ d.mode.mode = .holdup ∨ d.mode.mode = .sanitize then d
  else if byHost then
    ungate g (setF d F.pwrGate_REQ (getF d F.pwrGate_REQ &&& (255 - 2 ^ g)))
  else if nbit (getF d F.pwrGate_AUTO_UNGATE) g && d.ord.held.any fun h => inGroup g h.2.lun then ungate g d
  else d

/-- GATE_CLEAR (R91). -/
def execGateClear (g : Nat) (byHost : Bool) (st : State) : Host.Outcome State Fault Refusal := onDev (gateClearDev g byHost) st

/-- An operation that a forced gating finds sent to the group: reads of commands end DOMAIN_LOST; what had begun is aborted as by
a reset; the rest is held again (R92, R197). -/
def forceOp (begun : List Nat) (tag : Nat) (d : Dev) : Dev :=
  match nfind d.ord.ops tag with
  | none => d
  | some o =>
    let again := fun d => modOrd d fun x => { x with held := x.held ++ [(groupOf (chanOf o.lun), o)], rdGot := nerase x.rdGot tag }
    match o.use with
    | .cmd _ _ => opLost true tag d
    | .prog _ | .erase _ _ _ | .sysPage _ _ | .sysErase _ _ => if begun.contains tag then opLost true tag d else again d
    | .recover | .chan | .ladder _ _ => modOrd d fun x => { x with ops := nerase x.ops tag }
    | _ => again d

/-- Force the gating of group g (R92): steps 4 and 5 follow at once; a group that is being ungated runs nothing and goes back. -/
def forceDev (g : Nat) (d : Dev) : Dev :=
  let m := d.mode.mode
  let st := (getGroup d g).stage
  if !socUp d ∨ d.build.groups ≤ g ∨ m = .loading ∨ m = .awaitPatch ∨ m = .holdup ∨ m = .sanitize then d
  else if st = .ungating then modGroup (gateReqSet g d) g fun x => { x with stage := .gated }
  else if st ≠ .on ∧ st ≠ .handshake then d
  else
    let d := linkFlush g (gateReqSet g d)
    let d := modGroup d g fun x => { x with stage := .handshake }
    let begun := (groupChans d g).flatMap fun c => (getChan d c).recs.map fun r => r.2.op.tag
    let sent := (d.ord.ops.filter fun p => inGroup g p.2.lun && !(d.ord.held.any fun h => decide (h.2.tag = p.1))).map (·.1)
    let d := each (groupChans d g) (fun d c => seqResetAll c d) d
    let mine := (d.codec.mops.filter fun x => inGroup g x.2.op.lun).map (·.1)
    let d := each mine (fun d t => match nfind d.codec.mops t with | some m => progFree m.op d | none => d) d
    let d := modCodec d fun x => { x with mops := x.mops.filter (fun p => !inGroup g p.2.op.lun), cws := x.cws.filter fun p => !inGroup g p.2.lun }
    let d := each ((d.scheds.filter fun s => inGroup g s.1).map (·.1)) (fun d l => modSched d l fun _ => {}) d
    let d := { d with links := nmod {} d.links g fun l => { l with streams := [] } }
    groupOff g (each sent (fun d t => forceOp begun t d) d)

/-- GATE_FORCE (R92). -/
def execGateForce (g : Nat) (st : State) : Host.Outcome State Fault Refusal := onDev (forceDev g) st

/-- GATE_TIMEOUT: GRP_TIMEOUT has passed since REQ[g] without step 4 (R92). -/
def execGateTimeout (g : Nat) (st : State) : Host.Outcome State Fault Refusal :=
  onDev (fun d => if (getGroup d g).stage = .handshake then forceDev g d else d) st

/-- UNGATE_COMPLETE: the group is powered, its operation records are initialised, its trims are back and CHECK has run: a channel
of `fails` does steps 2 to 8 of its bring-up again (R91, R388, R396). RECOVER comes first on INDETERMINATE LUNs, and what was
held runs. -/
def ungateEnd (g : Nat) (fails : List Nat) (bring : List BringUp) (d : Dev) : Dev :=
  if (getGroup d g).stage ≠ .ungating ∨ !socUp d then d
  else
    let d := modGroup (setF d F.hatchLinkStat_GATED 0 g) g fun x => { x with stage := .on }
    let d := each (groupChans d g) (fun d c =>
      let ok := chanMapped d c && !(getChan d c).failed && (getCal d c).calibrated && !fails.contains c
      modChan d c fun h => { h with recs := [], up := ok }) d
    let d := cleanWords (fun p => decide (p.1 = 3) && decide (groupOf p.2.1 = g)) d
    let d := when d.mode.mode.flash (bringAll bring true (groupChans d g)) d
    let sick := (allLuns d).filter fun l => inGroup g l && lunIndet d l && lunUsable d l
    let d := if d.mode.restored ∧ d.mode.mode ≠ .holdup then
        each sick (fun d l => opIssue { lun := l, cls := 1, cop := 18, use := .recover } d) d else d
    let d := thrSend (calWake (sendHeld d))
    if nbit (getF d F.pwrGate_REQ) g then gateStart g d else d

/-- UNGATE_COMPLETE (R91). -/
def execUngateComplete (g : Nat) (fails : List Nat) (bring : List BringUp) (st : State) : Host.Outcome State Fault Refusal :=
  onDev (ungateEnd g fails bring) st

end Sys2Proof.Machine
end

