-- ==== Sys2Proof/Machine/Hk.lean ====
section
/-! DEFINITION. Machine/Hk.lean: the housekeeper, its load, watchdog and mailbox services, and the update of the configuration
image (R420 to R427 of spec/20_housekeeper.md; R65, R75 to R77 of spec/03_startup.md). -/

namespace Sys2Proof.Machine

open Sys2Proof

/-! ### Load, shedding, watchdog (R421, R422, R427, R77) -/

/-- HK_LOAD_UPDATE: the load of the last 10 ms, in percent (R421). -/
def hkLoadDev (load : Nat) (d : Dev) : Dev :=
  if !running d ∨ d.mode.mode = .dormant then d
  else
    let v := min 100 load
    peak (modHk d fun h => { h with load := v }) F.hkLoad_PEAK v

/-- HK_LOAD_UPDATE (R421). -/
def execHkLoadUpdate (load : Nat) (st : State) : Host.Outcome State Fault Refusal := onDev (hkLoadDev load) st

/-- SHED_LO in force: a value not below SHED_HI counts as SHED_HI - 10 (PRM_HK_CFG). -/
def shedLo (d : Dev) : Nat :=
  let hi := getF d F.hkCfg_SHED_HI
  if hi ≤ getF d F.hkCfg_SHED_LO then hi - 10 else getF d F.hkCfg_SHED_LO

/-- HK_SHED_STEP: every 10 ms one further step is shed at SHED_HI and above, or one restored at SHED_LO and below (R421). -/
def hkShedDev (d : Dev) : Dev :=
  if !running d ∨ d.mode.mode = .dormant then d
  else modHk d fun h =>
    if getF d F.hkCfg_SHED_HI ≤ h.load then { h with shed := min 5 (h.shed + 1) }
    else if h.load ≤ shedLo d then { h with shed := h.shed - 1 } else h

/-- HK_SHED_STEP (R421). -/
def execHkShedStep (st : State) : Host.Outcome State Fault Refusal := onDev hkShedDev st

/-- HK_RESET_COUNT_CLEAR: 1 s without a watchdog expiry (R77). -/
def execHkResetCountClear (st : State) : Host.Outcome State Fault Refusal :=
  onDev (fun d => if running d then modRet d fun r => { r with hkResets := 0 } else d) st

/-! ### The mailbox (R423 to R426) -/

/-- The service is served in the mode (Table HK-3, R425). -/
def svcMode (d : Dev) (v : Nat) : Bool :=
  let m := d.mode.mode
  if m = .loading ∧ d.cfg.failed then [1, 2, 0x10, 0x11, 0x12, 0x13].contains v
  else if v ≤ 2 then decide (m ≠ .dormant)
  else if v ≤ 0x14 then decide (m ≠ .dormant ∧ m ≠ .holdup ∧ m ≠ .sanitize)
  else if v ≤ 0x30 then m.run || decide (m = .warm ∨ m = .safe ∨ m = .factory)
  else m.run

/-- RETRY_AFTER: the housekeeper's estimate, 1 to 1,000 ms (R426). -/
def mbBusy (s : Nat) (d : Dev) : Dev := let (v, d) := free d; mbAnswer s 1 0 (1 + v % 1000) [] d

/-- The turn of slot s: POSTED, nothing in service, first in doorbell order; CFG_UPDATE_ABORT goes ahead of all (R424). -/
def mbTurn (d : Dev) (svc s : Nat) : Bool :=
  decide (mbState d s = 1 ∧ mbSvc d s = svc) &&
    (if svc = 0x13 then true
     else d.hk.serving.isNone && decide (d.hk.order.head? = some s) && !(d.hk.order.any fun t => decide (mbSvc d t = 0x13)))

/-- Serve slot s with service `svc`: MODE, BUSY at shed step 3, BAD_ARG for a reserved byte, then the service itself. -/
def mbServe (svc s : Nat) (go : List Byte → Dev → Dev) (d : Dev) : Dev :=
  if !running d ∨ d.mode.mode = .dormant ∨ 16 ≤ s ∨ !mbTurn d svc s then d
  else
    let q := mbBytes d s
    mbSkip 16 (if !svcMode d svc then mbAnswer s 4 0 0 [] d
      else if 3 ≤ d.hk.shed ∧ svc ≠ 0x13 then mbBusy s d
      else if leAt q 4 4 ≠ 0 then mbAnswer s 3 0 0 [] d
      else go q d)

/-- MAILBOX_DOORBELL: a FREE or DONE slot is posted; in STANDBY it wakes Premel (R85, R423, R427). -/
def mbDoorbellDev (v : Nat) (d : Dev) : Dev :=
  let s := v % 16
  if !socUp d then d
  else if mbState d s = 1 then bump d F.hkMbdone_DB_IGN
  else
    let k := getF d F.hkMbdone_DONE
    let d := setF d F.hkMbdone_DONE (if nbit k s then k - 2 ^ s else k)
    let d := modHk d fun h => { h with slots := nset 0 h.slots s 1, order := h.order ++ [s] }
    wakeEvent 0xB (mbSkip 16 d)

/-- MAILBOX_DOORBELL (R423). -/
def execMailboxDoorbell (v : Word) (st : State) : Host.Outcome State Fault Refusal := onDev (mbDoorbellDev v.toNat) st

/-- MAILBOX_SLOT_FREE: a 1 written to a DONE bit returns the slot to FREE (R423). -/
def mbFreeDev (mask : Nat) (d : Dev) : Dev :=
  if !socUp d then d
  else each (List.range 16) (fun d s =>
    let k := getF d F.hkMbdone_DONE
    if nbit mask s && nbit k s then
      modHk (setF d F.hkMbdone_DONE (k - 2 ^ s)) fun h => if nget 0 h.slots s = 2 then { h with slots := nset 0 h.slots s 0 } else h
    else d) d

/-- MAILBOX_SLOT_FREE (R423). -/
def execMailboxSlotFree (mask : Word) (st : State) : Host.Outcome State Fault Refusal := onDev (mbFreeDev mask.toNat) st

/-- A service that moves its result into host memory: at most N bytes to A; BAD_ARG where the result is longer. The answer follows
the last acknowledge (R424, R425). -/
def mbReply (s : Nat) (q bytes res : List Byte) (d : Dev) : Dev :=
  let a := leAt q 8 8
  let n := leAt q 0x10 4
  let out := bytes.take n
  let st := if n < bytes.length then 3 else 0
  if 2 ^ 48 ≤ a then mbAnswer s 3 0 0 [] d
  else if out = [] then mbAnswer s st 0 0 res d
  else
    let (p, d) := newPurp (.mailbox s) (modHk d fun h => { h with serving := some s, resp := some (st, res) })
    mpWriteRange p .other a out 0 3 d

/-- The last write of slot s's service is acknowledged. -/
def mbWritten (s : Nat) (d : Dev) : Dev :=
  match d.hk.serving, d.hk.resp with
  | some t, some (st, res) => if t = s then mbSkip 16 (mbAnswer s st 0 0 res d) else d
  | _, _ => d

/-- A memory-port request of slot s's service has failed for good: HOST_MEM. -/
def mbFailed (s : Nat) (d : Dev) : Dev := if d.hk.serving = some s then mbSkip 16 (mbAnswer s 5 0 0 [] d) else d

/-- ECHO (R425). -/
def execEcho (slot : Nat) (st : State) : Host.Outcome State Fault Refusal :=
  onDev (mbServe 1 slot fun q d => mbAnswer slot 0 0 0 (q.drop 8) d) st

/-- HK_INFO (R425). -/
def goInfo (s : Nat) (_ : List Byte) (d : Dev) : Dev :=
  mbAnswer s 0 0 0 (natLe 4 Config.hkRomVersion.toNat ++ natLe 4 d.cfg.hkVersion ++ natLe 1 d.hk.load ++ natLe 1 d.hk.shed) d
def execHkInfo (slot : Nat) (st : State) : Host.Outcome State Fault Refusal := onDev (mbServe 2 slot (goInfo slot)) st

/-! ### The update service (R75, R76) -/

/-- The slot that an update writes: the one not loaded at this start (R75). DESIGN CHOICE (log 94): where neither was loaded, the slot
tried last. -/
def updateSlot (d : Dev) : Nat := if d.cfg.done then 1 - d.cfg.slot else d.cfg.slot

/-- The GEN that slot s's commit record carries from now on; none where the record is erased. -/
def setGen (s : Nat) (g : Option Nat) (d : Dev) : Dev := modCfg d fun c => if s = 0 then { c with genA := g } else { c with genB := g }

/-- Erases of a slot that holds an image of len bytes: 64 KiB blocks on xSPI, 4 KiB sectors on single SPI, whose only erase is 0x20
(R49, R52); and the commit sector. -/
def slotErases (d : Dev) (len : Nat) : Nat := ceilDiv len (if d.pins.straps.getLsbD 1 then 4096 else 65536) + 1

/-- CFG_UPDATE_BEGIN: the inactive slot is erased, its commit sector included (R75). -/
def goBegin (s : Nat) (q : List Byte) (d : Dev) : Dev :=
  let len := leAt q 8 4
  if d.hk.update.isSome then mbBusy s d
  else if len = 0 ∨ d.cfg.slotBytes - 4096 < len then mbAnswer s 3 0 0 [] d
  else
    let d := setGen (updateSlot d) none d
    spiAsk (.erase s (slotErases d len)) (modHk d fun h => { h with update := some { len := len }, serving := some s, resp := none })

/-- CFG_UPDATE_BEGIN (R75). -/
def execCfgUpdateBegin (slot : Nat) (st : State) : Host.Outcome State Fault Refusal := onDev (mbServe 0x10 slot (goBegin slot)) st

/-- CFG_UPDATE_DATA: the bytes are read from the host buffer, then programmed (R75). -/
def goData (s : Nat) (q : List Byte) (d : Dev) : Dev :=
  let a := leAt q 8 8
  let n := leAt q 0x10 4
  let off := leAt q 0x14 4
  match d.hk.update with
  | none => mbAnswer s 6 0 0 [] d
  | some u =>
    if off % 256 ≠ 0 ∨ u.len < off + n ∨ 2 ^ 48 ≤ a then mbAnswer s 3 0 0 [] d
    else if n = 0 then mbAnswer s 0 0 0 (natLe 4 0) d
    else
      let (p, d) := newPurp (.mailbox s) (modHk d fun h => { h with serving := some s, resp := none })
      mpReadRange p .other a n 0 3 d

/-- CFG_UPDATE_DATA (R75). -/
def execCfgUpdateData (slot : Nat) (st : State) : Host.Outcome State Fault Refusal := onDev (mbServe 0x11 slot (goData slot)) st

/-- The host buffer of a CFG_UPDATE_DATA has been read: its pages are programmed. -/
def mbRead (s : Nat) (bytes : List Byte) (d : Dev) : Dev :=
  match d.hk.update with
  | some u =>
    if d.hk.serving = some s ∧ mbSvc d s = 0x11 then
      let off := leAt (mbBytes d s) 0x14 4
      let img := (bytes.zipIdx off).foldl (fun m p => nput m p.2 p.1) u.img
      spiAsk (.data s (ceilDiv bytes.length 256) bytes.length) (modHk d fun h => { h with update := some { u with img := img } })
    else d
  | none => d

/-- CFG_UPDATE_COMMIT: the image is read back and checked, and a commit record written with the next GEN (R75); `differ` lists the bytes
that read back otherwise than they were programmed. DESIGN CHOICE (log 95): the GEN is 0 where neither slot holds a valid record. -/
def goCommit (s : Nat) (differ : List (Nat × Byte)) (_ : List Byte) (d : Dev) : Dev :=
  match d.hk.update with
  | none => mbAnswer s 6 0 0 [] d
  | some u =>
    let back := differ.foldl (fun m p => nput m p.1 p.2) u.img
    let img := (List.range u.len).map fun i => nget 0xFF back i
    match imageCheck d d.cfg.slotBytes none [img] with
    | .inl cause => mbAnswer s 7 cause 0 [] d
    | .inr _ =>
      match higherGen d with
      | some g =>
        if 0xFFFFFFFE ≤ g then mbAnswer s 0xA 0 0 [] d
        else spiAsk (.commit s (g + 1)) (modHk d fun h => { h with serving := some s, resp := none })
      | none => spiAsk (.commit s 0) (modHk d fun h => { h with serving := some s, resp := none })

/-- CFG_UPDATE_COMMIT (R75). -/
def execCfgUpdateCommit (back : ReadBack) (st : State) : Host.Outcome State Fault Refusal :=
  onDev (mbServe 0x12 back.slot (goCommit back.slot back.differ)) st

/-- The update is abandoned: the SPI sequencer finishes the erase or page program it has started, then stops (R76). -/
def updateDrop (d : Dev) : Dev :=
  let san := fun (j : SpiJob) => match j with | .sanitizeCopy _ _ => true | _ => false
  modHk d fun h => { h with update := none, spi := h.spi.map fun j => if san j then j else .finish, spiWait := h.spiWait.filter san }

/-- CFG_UPDATE_ABORT: the update ends; the service of it that is under way is answered ABORTED (R424, Table HK-4). -/
def goAbort (s : Nat) (_ : List Byte) (d : Dev) : Dev :=
  match d.hk.update with
  | none => mbAnswer s 6 0 0 [] d
  | some _ =>
    let d := match d.hk.serving with
      | some t => if t ≠ s ∧ 0x10 ≤ mbSvc d t ∧ mbSvc d t ≤ 0x12 then mbAnswer t 6 0 0 [] d else d
      | none => d
    mbAnswer s 0 0 0 [] (updateDrop d)

/-- CFG_UPDATE_ABORT (R424). -/
def execCfgUpdateAbort (slot : Nat) (st : State) : Host.Outcome State Fault Refusal := onDev (mbServe 0x13 slot (goAbort slot)) st

/-- The SPI sequencer takes its next job. -/
def spiNext (d : Dev) : Dev :=
  modHk d fun h => match h.spiWait with
    | j :: js => { h with spi := some j, spiWait := js }
    | [] => { h with spi := none }

/-- An erase or program of the update has failed: FLASH_ERR, and the update ends. -/
def spiFailed (mb : Nat) (d : Dev) : Dev := mbSkip 16 (mbAnswer mb 8 0 0 [] (modHk (spiNext d) fun h => { h with update := none }))

/-- An erase or page program of SANITIZE's copy has ended: the copy is committed once its pages are programmed, and once the commit has
been read back the slot loaded at this start is erased (R415 step 5). -/
def sanCopyStep (k n : Nat) (d : Dev) : Dev :=
  let job := fun k n d => modHk d fun h => { h with spi := some (.sanitizeCopy k n) }
  if 1 < n then job k (n - 1) d
  else if k = 0 then job 1 (max 1 (ceilDiv d.sec.sanCopy.length 256)) (setGen (updateSlot d) none d)
  else if k = 1 then job 2 1 d
  else if k = 2 then job 3 (slotErases d d.cfg.image.length) (setGen (updateSlot d) (some d.sec.sanGen) d)
  else modSec (spiNext (setGen d.cfg.slot none d)) fun s => { s with sanCopied := true }

/-- SPI_SEQUENCER_DONE: WIP is clear at the end of an erase or page program (R75, R76, R415 step 5). One of SANITIZE's copy that
failed is made again. -/
def spiDoneDev (ok : Bool) (d : Dev) : Dev :=
  if !running d then d
  else match d.hk.spi with
    | none => d
    | some (.erase mb n) =>
      if !ok then spiFailed mb d
      else if n ≤ 1 then mbSkip 16 (mbAnswer mb 0 0 0 [] (spiNext d))
      else modHk d fun h => { h with spi := some (.erase mb (n - 1)) }
    | some (.data mb n t) =>
      if !ok then spiFailed mb d
      else if n ≤ 1 then mbSkip 16 (mbAnswer mb 0 0 0 (natLe 4 t) (spiNext d))
      else modHk d fun h => { h with spi := some (.data mb (n - 1) t) }
    | some (.commit mb gen) =>
      if !ok then spiFailed mb d
      else mbSkip 16 (mbAnswer mb 0 0 0 (natLe 4 gen) (setGen (updateSlot d) (some gen) (modHk (spiNext d) fun h => { h with update := none })))
    | some .finish => spiNext d
    | some (.sanitizeCopy k n) => if ok then sanCopyStep k n d else d

/-- SPI_SEQUENCER_DONE (R76). -/
def execSpiSequencerDone (ok : Bool) (st : State) : Host.Outcome State Fault Refusal := onDev (spiDoneDev ok) st

/-- CFG_READ_SECTION: an integrator section of the loaded image (R58, R65). -/
def goSection (s : Nat) (q : List Byte) (d : Dev) : Dev :=
  let t := leAt q 0x14 2
  if !userType t then mbAnswer s 3 0 0 [] d
  else match ((d.cfg.user.filter fun u => decide (u.1 = t))[leAt q 0x16 2]?) with
    | some u => mbReply s q u.2 (natLe 4 u.2.length) d
    | none => mbAnswer s 9 0 0 [] d

/-- CFG_READ_SECTION (R65). -/
def execCfgReadSection (slot : Nat) (st : State) : Host.Outcome State Fault Refusal := onDev (mbServe 0x14 slot (goSection slot)) st

/-! ### Statistics and wear services (R425) -/

/-- The erase counters of LUN l as bytes: zeros of the same length for an absent LUN. -/
def eraseBytes (d : Dev) (l : Nat) : List Byte :=
  let n := if lunMapped d l then mpBlocks d l else ((allLuns d).map (mpBlocks d)).headD 0
  (List.range n).flatMap fun b => natLe 4 (if lunPresent d l then eraseCnt d l b else 0)

/-- STAT_ERASE. -/
def goStatErase (s : Nat) (q : List Byte) (d : Dev) : Dev :=
  let l := leAt q 0x14 2
  let n := leAt q 0x16 2
  if d.build.luns < l + n then mbAnswer s 3 0 0 [] d
  else
    let bs := (rangeFrom l n).flatMap fun i => eraseBytes d i
    mbReply s q bs (natLe 4 (min bs.length (leAt q 0x10 4))) d

/-- STAT_ERASE (R425). -/
def execStatErase (slot : Nat) (st : State) : Host.Outcome State Fault Refusal := onDev (mbServe 0x20 slot (goStatErase slot)) st

/-- STAT_WEAR. The manual states no rounding of the mean. -/
def goStatWear (s : Nat) (_ : List Byte) (d : Dev) : Dev :=
  let cs := ((allLuns d).filter (lunPresent d)).flatMap fun l => (List.range (mpBlocks d l)).map fun b => eraseCnt d l b
  let sum := cs.sum
  let n := max 1 cs.length
  let mean := sum / n + (if sum % n ≠ 0 && Config.roundUp sum n then 1 else 0)
  let lo := cs.foldl min (cs.headD 0)
  mbAnswer s 0 0 0 (natLe 4 lo ++ natLe 4 (cs.foldl max 0) ++ natLe 4 mean ++ natLe 4 d.pgm.retired.length ++ natLe 2 d.xlt.minSpares) d

/-- STAT_WEAR (R425). -/
def execStatWear (slot : Nat) (st : State) : Host.Outcome State Fault Refusal := onDev (mbServe 0x21 slot (goStatWear slot)) st

/-- STAT_THRESHOLD: page type 0 is SLC, 1 to 3 are T0 to T2. The entry stands in media common, which is asked for it (R10). -/
def goStatThr (s : Nat) (q : List Byte) (d : Dev) : Dev :=
  let l := leAt q 8 2
  let g := leAt q 0xA 1
  let t := leAt q 0xB 1
  if 16 ≤ g ∨ 4 ≤ t then mbAnswer s 3 0 0 [] d
  else if !lunMapped d l then mbAnswer s 9 0 0 [] d
  else thrSend (modHk d fun h => { h with serving := some s, resp := none, thrAsk := some (s, l, g, t) })

/-- STAT_THRESHOLD (R425). -/
def execStatThreshold (slot : Nat) (st : State) : Host.Outcome State Fault Refusal := onDev (mbServe 0x22 slot (goStatThr slot)) st

/-- STAT_DIE_TEMPS: 32 readings and their ages; the 56 result bytes of a slot hold the readings and the first 24 ages. -/
def goStatTemps (s : Nat) (q : List Byte) (d : Dev) : Dev :=
  let c := leAt q 8 1
  if d.build.channels ≤ c then mbAnswer s 3 0 0 [] d
  else
    let ts := (List.range 32).map fun i => nget none d.thm.temps (32 * c + i)
    let rd := ts.map fun t => match t with | some (x, _) => BitVec.ofNat 8 (wrapI 8 x) | none => 0x80#8
    let ages := ts.map fun t => match t with | some (_, w) => BitVec.ofNat 8 (min 255 ((d.now - w) / ms 100)) | none => 0xFF#8
    mbAnswer s 0 0 0 (rd ++ ages) d

/-- STAT_DIE_TEMPS (R425). -/
def execStatDieTemps (slot : Nat) (st : State) : Host.Outcome State Fault Refusal := onDev (mbServe 0x23 slot (goStatTemps slot)) st

/-- STAT_ZONE: the zone's superblock, ring position, EW count, close stamp and program temperature. -/
def goStatZone (s : Nat) (q : List Byte) (d : Dev) : Dev :=
  let n := leAt q 8 1
  let z := leAt q 0xC 4
  let ns := getNs d n
  if 16 ≤ n ∨ !ns.present ∨ ns.random ∨ zoneCount ns ≤ z then mbAnswer s 9 0 0 [] d
  else
    let sbn := zoneSb d ns z
    let b := getSb d sbn
    mbAnswer s 0 0 0 (natLe 4 sbn ++ natLe 2 (zonePos d ns z) ++ natLe 2 (min 0xFFFF b.ew) ++ natLe 4 (b.closeStamp.getD 0) ++
      natLe 1 (wrapI 8 (b.progTemp.getD (-128)))) d

/-- STAT_ZONE (R425). -/
def execStatZone (slot : Nat) (st : State) : Host.Outcome State Fault Refusal := onDev (mbServe 0x24 slot (goStatZone slot)) st

/-- STAT_LIFE. -/
def goStatLife (s : Nat) (_ : List Byte) (d : Dev) : Dev :=
  mbAnswer s 0 0 0 (natLe 8 d.xlt.hostSecs ++ natLe 8 d.xlt.progSecs ++ natLe 4 d.hup.count ++ natLe 4 d.ageMin) d

/-- STAT_LIFE (R425). -/
def execStatLife (slot : Nat) (st : State) : Host.Outcome State Fault Refusal := onDev (mbServe 0x25 slot (goStatLife slot)) st

/-- BB_LIST: the remap entries of a LUN, 8 bytes each. -/
def goBbList (s : Nat) (q : List Byte) (d : Dev) : Dev :=
  let l := leAt q 0x14 2
  if !lunMapped d l then mbAnswer s 9 0 0 [] d
  else
    let bs := (nget [] d.xlt.remap l).flatMap fun p => natLe 4 p.1 ++ natLe 4 p.2
    mbReply s q bs (natLe 4 (min bs.length (leAt q 0x10 4) / 8)) d

/-- BB_LIST (R425). -/
def execBbList (slot : Nat) (st : State) : Host.Outcome State Fault Refusal := onDev (mbServe 0x30 slot (goBbList slot)) st

/-- BB_RETIRE: the block is retired through an error-queue entry of TYPE 0x01 (R223, R425). -/
def goBbRetire (s : Nat) (q : List Byte) (d : Dev) : Dev :=
  let l := leAt q 8 2
  let b := leAt q 0xC 4
  if !lunUsable d l then mbAnswer s 9 0 0 [] d
  else if mpBlocks d l ≤ b ∨ d.pgm.retired.contains (l, b) then mbAnswer s 3 0 0 [] d
  else
    let rows := rowsOf d l b
    let (e, d) := eqPost 1 l b none d
    let (sp, d) := retireBlk l b rows (some e) d
    match sp with
    | some x => mbAnswer s 0 0 0 (natLe 4 x) (moversPump (if rows = 0 then eqFin e 2 d else d))
    | none => mbAnswer s 9 0 0 [] (eqFin e 5 d)

/-- BB_RETIRE (R425). -/
def execBbRetire (slot : Nat) (st : State) : Host.Outcome State Fault Refusal := onDev (mbServe 0x31 slot (goBbRetire slot)) st

/-- REFRESH_REQ: a candidate for a zone or RANDOM superblock (R236). -/
def goRefresh (s : Nat) (q : List Byte) (d : Dev) : Dev :=
  let n := leAt q 8 1
  let z := leAt q 0xC 4
  let sev := leAt q 0x10 1
  let ns := getNs d n
  if 16 ≤ n ∨ !ns.present then mbAnswer s 9 0 0 [] d
  else if sev = 0 ∨ 3 < sev then mbAnswer s 3 0 0 [] d
  else if ns.random then
    (if (poolSbs ns).contains z then mbAnswer s 0 0 0 [] (refreshSb z sev d) else mbAnswer s 9 0 0 [] d)
  else if zoneCount ns ≤ z then mbAnswer s 9 0 0 [] d
  else mbAnswer s 0 0 0 [] (refreshSb (zoneSb d ns z) sev d)

/-- REFRESH_REQ (R425). -/
def execRefreshReq (slot : Nat) (st : State) : Host.Outcome State Fault Refusal := onDev (mbServe 0x40 slot (goRefresh slot)) st

/-! ### Watchdog (R76, R77, R427) -/

/-- HK_WATCHDOG_EXPIRY: the housekeeper alone is reset; the third reset in a row enters SAFE. -/
def hkWatchdogDev (poison : Bool) (d : Dev) : Dev :=
  if !running d ∨ d.mode.mode = .dormant then d
  else
    let d := setF (bump d F.hkWdstat_RESETS) F.hkWdstat_LAST_POISON (b2n poison)
    let d := modRet d fun r => { r with hkResets := min 3 (r.hkResets + 1) }
    let d := each d.hk.order (fun d s => mbAnswer s 6 0 0 [] d) d
    let d := modHk (updateDrop d) fun h => { h with shed := 0, serving := none, resp := none, thrAsk := none }
    let d := cleanWords (fun p => decide (p.1 = 4)) d
    if d.ret.hkResets = 3 then enterSafe 7 d else d

/-- HK_WATCHDOG_EXPIRY (R427). -/
def execHkWatchdogExpiry (poison : Bool) (st : State) : Host.Outcome State Fault Refusal := onDev (hkWatchdogDev poison) st

end Sys2Proof.Machine
end

