-- ==== Sys2Proof/Machine/MpCmds.lean ====
section
/-! DEFINITION. Machine/MpCmds.lean: what the memory ports' events do (R24 to R29, R93, R94, R467): credits, answers, reissues,
failed purposes and the withdrawal of a port. -/

namespace Sys2Proof.Machine

open Sys2Proof

/-- The host address that an assembled read began at, modulo a beat. -/
def asmSkip (d : Dev) (k : PurpKind) : Nat :=
  match k with
  | .mailbox s => leAt (mbBytes d s) 8 8 % 64
  | _ => 0

/-- Bytes that an assembled read asked for. -/
def asmLen (d : Dev) (k : PurpKind) : Nat :=
  match k with
  | .mailbox s => leAt (mbBytes d s) 0x10 4
  | .capsule => d.cfg.pLen
  | _ => 0

/-- A piece of an assembled read is in; `use` has all of it once no request is left. -/
def asmPiece (id : Nat) (p : Purp) (r : Req) (use : List Byte → Dev → Dev) (d : Dev) : Dev :=
  let skip := if r.tagA = 0 then asmSkip d p.kind else 0
  let bs := layAt p.bytes r.tagA (r.data.drop skip)
  let d := modPurp d id fun p => { p with bytes := bs }
  if p.reqs = 0 then use (bs.take (asmLen d p.kind)) (endPurp id d) else d

/-- The last beat of a read request that has not failed is in: what its purpose does with the bytes. -/
def readUse (id : Nat) (p : Purp) (r : Req) (d : Dev) : Dev :=
  match p.kind with
  | .sqFetch q _ _ ep =>
    let d := entriesArrive q r.tagB ep r.data d
    if p.reqs = 0 then endPurp id d else d
  | .cmd arr =>
    match r.use with
    | .descr =>
      if r.tagB = 64 then
        let a := (getCmd d arr).chain.getD 0
        readDescr arr (slice r.data (a % 64) 32) d
      else descrArrive r.tagB (slice r.data ((getCtx d r.tagB).next.getD 0 % 64) 32) d
    | _ => ctxData r.tagB r.tagA r.data d
  | .ctx k =>
    match r.use with
    | .descr => descrArrive k (slice r.data ((getCtx d k).next.getD 0 % 64) 32) d
    | _ => ctxData k r.tagA r.data d
  | .mapFill line gen => observePump (fillArrive line gen (endPurp id d))
  | .custody h =>
    let d := hupData r.tagB r.tagA r.data d
    when (((getPurp d id).map fun p => decide (p.reqs = 0)).getD false && hupAsked d h) (endPurp id) d
  | .again k =>
    let d := wordBack k r.tagA ((r.data.drop (r.tagB / 128)).take (r.tagB % 128)) d
    observePump (encodeStarts (if p.reqs = 0 then endPurp id d else d))
  | .mailbox s => asmPiece id p r (mbRead s) d
  | .capsule => asmPiece id p r (fun bs d => modCfg d fun c => { c with pBytes := some bs, pRead := true }) d
  | _ => d

/-- A write request that has not failed is acknowledged: what follows for its purpose. -/
def writeUse (id : Nat) (p : Purp) (d : Dev) : Dev :=
  let whole := decide (p.reqs = 0)
  match p.kind with
  | .cqWrite q arr => cmdWritten q arr (endPurp id d)
  | .cmd arr => readCheck arr d
  | .mapWb line => wbArrive line (endPurp id d)
  | .restore _ => when whole (fun d => modHup (endPurp id d) fun h => { h with writesLeft := h.writesLeft - 1 }) d
  | .work => sanWiped (endPurp id d)
  | .mailbox s => when whole (fun d => mbWritten s (endPurp id d)) d
  | _ => d

/-- Purposes that nothing uses any more, with no request left, are closed. -/
def purpSweep (d : Dev) : Dev :=
  each (d.mp.purps.filter fun p => decide (p.2.reqs = 0) && !p.2.failed) (fun d p =>
    match p.2.kind with
    | .cmd arr => if (getCmd d arr).st ≠ .running ∧ (getCmd d arr).st ≠ .fetched then endPurp p.1 d else d
    | .ctx k => if (getCtx d k).purp ≠ some p.1 then endPurp p.1 d else d
    | _ => d) d

/-- A request has been answered in full: it leaves its port, and its purpose goes on where that has not failed. -/
def reqDone (p t : Nat) (r : Req) (d : Dev) : Dev :=
  let d := reqEnded r.purp (retire p t d)
  let d := match getPurp d r.purp with
    | some u => if u.failed then d else if r.write then writeUse r.purp u d else readUse r.purp u r d
    | none => d
  mpPump (observePump (purpSweep d))

/-- What a purpose is for. -/
def purpKind (d : Dev) (i : Nat) : Option PurpKind := (getPurp d i).map (·.kind)

/-- The error of a request that belongs to a command is noted with the sector it carried (R264, R467). -/
def reqNote (r : Req) (lost : Bool) (d : Dev) : Dev :=
  match purpKind d r.purp with
  | some (.cmd arr) =>
    let c := getCmd d arr
    if isObserve c then errNote arr (if lost then 0xA else 8) (if r.write then c.lba + r.tagB else c.lba) d else d
  | _ => d

/-- FAULT, or the last failure allowed: the request fails, and its purpose with it (R29, R467). -/
def reqFault (p t : Nat) (r : Req) (d : Dev) : Dev := mpPump (reqFailed p t r false (reqNote r false d))

/-- AGAIN, a timeout, or a bad beat: reissue, or failure where RETRY_MAX reissues have been made. In the 1 µs wait for a reissue
that is already counted, a further AGAIN changes nothing and a bad beat ends the wait (DEDUCED, log 90). -/
def reqRetry (p t : Nat) (r : Req) (atOnce : Bool) (d : Dev) : Dev :=
  if r.again then (if atOnce then reissue p t r d else d)
  else
  let d := when (decide (r.cls = 0)) (lapse 9) d
  if getF d F.glbMpCfg_RETRY_MAX ≤ r.reissues then reqFault p t r d else reqAgain p t r atOnce d

/-- The request of a port that an answer's tag and generation name, or none where the answer is stale: its tag is not outstanding, or
its generation is not the one last issued with that tag (R28). -/
def reqOf (d : Dev) (p t gen : Nat) : Option Req :=
  match nfind (getPort d p).out t with
  | some r => if r.gen = gen then some r else none
  | none => none

/-- MP_READ_RESPONSE: one response beat with its parity bits (Table PRT-3). DESIGN CHOICE (log 90): where a beat has the status AGAIN or
FAULT and is also bad or out of sequence, its status decides. -/
def readRespDev (port t gen beat st : Nat) (spar : BitVec 64) (data : Beat) (d : Dev) : Dev :=
  if !running d ∨ 4 ≤ port then d
  else match reqOf d port t gen with
    | none => bump d F.glbMpStat_STALE port
    | some r =>
      if st = 1 then reqRetry port t r false d
      else if 2 ≤ st then reqFault port t r d
      else if spar ≠ parityOf (beatBytes data) ∨ beat ≠ r.nextBeat ∨ r.inj then reqRetry port t r true d
      else
        let r := { r with data := r.data ++ beatBytes data, nextBeat := r.nextBeat + 1 }
        if r.nextBeat < r.beats then modPort d port fun m => { m with out := nput m.out t r }
        else reqDone port t r d

/-- MP_READ_RESPONSE (R28). -/
def execMpReadResponse (port tag gen beat st : Nat) (spar : BitVec 64) (data : Beat) (s : State) : Host.Outcome State Fault Refusal :=
  onDev (readRespDev port tag gen beat st spar data) s

/-- MP_WRITE_ACK (Table PRT-3); `port` is the number among MPW0 to MPW3. -/
def writeAckDev (port t gen st : Nat) (d : Dev) : Dev :=
  let p := port + 4
  if !running d ∨ 4 ≤ port then d
  else match reqOf d p t gen with
    | none => bump d F.glbMpStat_STALE p
    | some r =>
      if !r.write then bump d F.glbMpStat_STALE p
      else if st = 1 then reqRetry p t r false d
      else if 2 ≤ st then reqFault p t r d
      else reqDone p t r d

/-- MP_WRITE_ACK (R28). -/
def execMpWriteAck (port tag gen st : Nat) (s : State) : Host.Outcome State Fault Refusal := onDev (writeAckDev port tag gen st) s

/-- MP_CREDIT_RETURN: one credit on a request lane; a port withdrawn and not released holds none (R24, R93). -/
def creditDev (port : Nat) (d : Dev) : Dev :=
  if !running d ∨ 8 ≤ port then d
  else mpPump (sendFlits port 64 (modPort d port fun m => if m.withdrawn then m else { m with credits := m.credits + 1 }))

/-- MP_CREDIT_RETURN (R24). -/
def execMpCreditReturn (port : Nat) (s : State) : Host.Outcome State Fault Refusal := onDev (creditDev port) s

/-- MP_RESPONSE_TIMEOUT: TIMEOUT has passed since the issue of the request (R28). -/
def respTimeoutDev (port t : Nat) (d : Dev) : Dev :=
  if !running d ∨ 8 ≤ port then d
  else match nfind (getPort d port).out t with
    | some r => if r.again then d else reqRetry port t r false (bump d F.glbMpStat_TIMEOUTS port)
    | none => d

/-- MP_RESPONSE_TIMEOUT (R28). -/
def execMpResponseTimeout (port tag : Nat) (s : State) : Host.Outcome State Fault Refusal := onDev (respTimeoutDev port tag) s

/-- MP_REISSUE: the wait of 1 µs is over (R28). -/
def reissueDev (port t : Nat) (d : Dev) : Dev :=
  if !running d ∨ 8 ≤ port then d
  else match nfind (getPort d port).out t with
    | some r => if r.again then reissue port t r d else d
    | none => d

/-- MP_REISSUE (R28). -/
def execMpReissue (port tag : Nat) (s : State) : Host.Outcome State Fault Refusal := onDev (reissueDev port tag) s

/-- The consequence of a purpose's failure (R29, R282, R467). -/
def failEnd (p : Purp) (d : Dev) : Dev :=
  match p.kind with
  | .sqFetch q _ _ ep => fetchFailed q ep d
  | .cqWrite q arr => cqFailed q arr d
  | .cmd arr =>
    let c := getCmd d arr
    if c.st ≠ .running then d
    else if isObserve c then
      let d := modCmd arr (fun c => { c with left := 0, chain := none, sources := c.sources.map fun _ => Source.done }) d
      let d := modDma d fun m => { m with rdq := m.rdq.filter fun y => decide (y.1 ≠ arr) }
      readCheck arr (modCmd arr (fun c => { c with purpose := none }) d)
    else writeFail arr (if p.lost then 0xA else 8) d
  | .ctx k => ctxFailed k d
  | .mapFill line _ => observePump (modLine line (fun l => { l with filling := none, inval := false }) d)
  | .mapWb line => wbArrive line d
  | .work => sanWiped d
  | .capsule => modCfg d fun c => { c with pBytes := none, pRead := true }
  | .custody h => hupRegionLost h d
  | .restore h => eqNote 0x13 0xFFF h 6 (modHup d fun x => { x with writesLeft := x.writesLeft - 1 })
  | .mailbox s => mbFailed s d
  | .again k => observePump (encodeStarts (wordsGone k d))

/-- MP_PURPOSE_FAIL_END: every request of a failed purpose has ended (R467). -/
def failEndDev (id : Nat) (d : Dev) : Dev :=
  match getPurp d id with
  | some p => if running d && p.failed && decide (p.reqs = 0) then cmdSweep (failEnd p (endPurp id d)) else d
  | none => d

/-- MP_PURPOSE_FAIL_END (R467). -/
def execMpPurposeFailEnd (id : Nat) (s : State) : Host.Outcome State Fault Refusal := onDev (failEndDev id) s

/-! ### Withdrawal (R93, R94) -/

/-- Requests of a port none of whose flits has been sent, and those that wait for their reissue. -/
def unsent (m : MPort) : List (Nat × Req) :=
  m.out.filter fun x => x.2.again || m.sendq.any fun e => decide (e.tag = x.1 ∧ e.flits.length = e.total)

/-- MP_PDREQ_RISE: no new request is issued on the port; what is not sent goes to another (Table MOD-6 steps 1 and 2). -/
def pdreqDev (port : Nat) (d : Dev) : Dev :=
  if !running d ∨ 8 ≤ port ∨ (getPort d port).pdreq then d
  else
    let mv := unsent (getPort d port)
    let d := modPort d port fun m => { m with pdreq := true }
    mpPump (each mv (fun d x =>
      modMp (retire port x.1 d) fun m => { m with wait := m.wait ++ [{ x.2 with again := false }] }) d)

/-- MP_PDREQ_RISE (R93). -/
def execMpPdreqRise (port : Nat) (s : State) : Host.Outcome State Fault Refusal := onDev (pdreqDev port) s

/-- PDACK rises: the host chip may remove the port (Table MOD-6 step 4). -/
def pdackOn (port : Nat) (d : Dev) : Dev :=
  setF (modPort d port fun m => { m with pdack := true, withdrawn := true, sendq := [] }) F.glbMpStat_WITHDRAWN 1 port

/-- MP_WITHDRAW_COMPLETE: nothing is outstanding any more. -/
def withdrawnDev (port : Nat) (d : Dev) : Dev :=
  let m := getPort d port
  if running d && decide (port < 8) && m.pdreq && !m.pdack && m.out.isEmpty && m.sendq.isEmpty then pdackOn port d else d

/-- MP_WITHDRAW_COMPLETE (R93). -/
def execMpWithdrawComplete (port : Nat) (s : State) : Host.Outcome State Fault Refusal := onDev (withdrawnDev port) s

/-- MP_PDREQ_FALL: the port is released, with no credit, and the generation of every tag restarts at 0. DESIGN CHOICE (log 90): where PDREQ
falls before PDACK has risen, the handshake ends there and the port keeps its credits and generations. -/
def pdfallDev (port : Nat) (d : Dev) : Dev :=
  if !running d ∨ 8 ≤ port ∨ !(getPort d port).pdreq then d
  else if !(getPort d port).pdack then mpPump (modPort d port fun m => { m with pdreq := false })
  else mpPump (setF (modPort d port fun m => { m with pdreq := false, pdack := false, withdrawn := false, credits := 0, gens := [] })
    F.glbMpStat_WITHDRAWN 0 port)

/-- MP_PDREQ_FALL (R93). -/
def execMpPdreqFall (port : Nat) (s : State) : Host.Outcome State Fault Refusal := onDev (pdfallDev port) s

/-- A request of a port that is lost is asked for again on another port of its kind: a fetch of entries or the write of a completion
in every case, a custody read where such a port remains (R94). -/
def asksAgain (d : Dev) (r : Req) : Bool :=
  match purpKind d r.purp with
  | some (.sqFetch _ _ _ _) | some (.cqWrite _ _) => true
  | some (.custody _) => (pickPort d r.write).isSome
  | _ => false

/-- One outstanding request of a port whose withdrawal has timed out: asked for again on another port, or unanswered (R94). -/
def lostReq (port : Nat) (d : Dev) (x : Nat × Req) : Dev :=
  if asksAgain d x.2 then modMp (retire port x.1 d) fun m => { m with wait := m.wait ++ [{ x.2 with again := false }] }
  else reqFailed port x.1 x.2 true (reqNote x.2 true d)

/-- MP_WITHDRAW_TIMEOUT: MP_TIMEOUT has passed before step 4 (R94). -/
def withdrawTimeoutDev (port : Nat) (d : Dev) : Dev :=
  let m := getPort d port
  if running d && decide (port < 8) && m.pdreq && !m.pdack then mpPump (pdackOn port (each m.out (lostReq port) d)) else d

/-- MP_WITHDRAW_TIMEOUT (R94). -/
def execMpWithdrawTimeout (port : Nat) (s : State) : Host.Outcome State Fault Refusal := onDev (withdrawTimeoutDev port) s

end Sys2Proof.Machine
end

