-- ==== Sys2Proof/Machine/Reset.lean ====
section
/-! DEFINITION. Machine/Reset.lean: the resets and what each leaves (R12, R39, R41, R43, R44, R49, R437, R465), the restart that
ends SANITIZE (R415), and the conditioned inputs (R40, R95 to R98, R306, R336). -/

namespace Sys2Proof.Machine

open Sys2Proof

/-! ### Resets -/

/-- The AO registers of R437. -/
def aoRegs : List Reg :=
  [.glbId, .glbIssue, .glbMode, .glbStrap, .glbNodeId, .pwrModeReq, .pwrIdle, .clkStat, .pwrIncfg, .pwrInstat, .rrcAge]

/-- An offset lies in an AO register. -/
def aoOffset (off : Nat) : Bool :=
  aoRegs.any fun r => let p := r.place
    decide (p.base ≤ off ∧ off < p.base + max 4 (p.stride * p.count))

/-- The self-test of the memories' decoders at a start (R403): the first memory that failed, or none. -/
def bistDone (fail : Option Nat) (d : Dev) : Dev :=
  match fail with
  | none => setF d F.memStat_BIST_OK 1
  | some m => setF (setF d F.memStat_BIST_FAIL 1) F.memStat_BIST_MEMID (m % 16)

/-- PO_RST_ASSERT: OFF. Every domain is reset and the retained register file is lost; the one-time-programmable state stays
(R12, R43, R405). -/
def poAssertDev (d : Dev) : Dev :=
  if !d.pins.poHigh then d
  else
    { build := d.build, now := d.now, fresh := d.fresh, otp := d.otp, mode := { mode := .off, prev := .off },
      pins := { poHigh := false, sysHigh := d.pins.sysHigh, straps := d.pins.straps, nodeId := d.pins.nodeId,
                xspiResetPulses := d.pins.xspiResetPulses, vaux := d.pins.vaux } }

/-- PO_RST_ASSERT (R43). -/
def execPoRstAssert (st : State) : Host.Outcome State Fault Refusal := onDev poAssertDev st

/-- PO_RST_RELEASE: straps and NODE_ID are sampled, and LOADING begins (R39, R49, R51); VAUX limits XSPI_SCK (R445). -/
def poReleaseDev (straps : BitVec 6) (nodeId : BitVec 24) (up : PowerUp) (d : Dev) : Dev :=
  if d.pins.poHigh then d
  else
    bistDone up.bistFail
      { d with pins := { d.pins with poHigh := true, straps := straps, nodeId := nodeId, vaux := up.vaux },
               inputs := [(0, { filterFrom := d.now }), (1, { filterFrom := d.now })],
               mode := { mode := .loading, prev := .off, cause := 0, fromPo := true, idleFrom := d.now } }

/-- PO_RST_RELEASE (R51). -/
def execPoRstRelease (straps : BitVec 6) (nodeId : BitVec 24) (up : PowerUp)
    (st : State) : Host.Outcome State Fault Refusal :=
  onDev (poReleaseDev straps nodeId up) st

/-- An offset of PRM_HUP_LASTT to LASTS, which the retained hold-up record restores (Table ARC-4). -/
def lastOffset (off : Nat) : Bool := [Reg.hupLastt, .hupLastb, .hupLaste, .hupLasts].any fun r => decide (r.place.base = off)

/-- LUNs whose routine a reset interrupts: each that holds an operation record, beside those already INDETERMINATE (R43, R136). -/
def resetIndet (d : Dev) : NMap Bool :=
  d.chans.foldl (fun m c => c.2.recs.foldl (fun m r => nset false m (32 * c.1 + r.1 / 2) true) m) d.xlt.indet

/-- What SYS_RST_n resets when it takes effect: everything outside the AO domain. The retained register file, the conditioned
inputs and the AO registers stay; MODE, PREV and CAUSE stand as they were (R43, R437, R465). The PFAIL latch is cleared (R41), an
interrupted LUN is left INDETERMINATE, and an access that waits on the hatch is answered with RP_ERR (R30, R465).
The lockout of LOWER lasts until PO_RST_n, and with it the count that leads to it (R414). -/
def sysEffect (d : Dev) : Dev :=
  { rp := { last := if d.rp.wait.isSome then some (0, true) else d.rp.last }, xlt := { indet := resetIndet d },
    sec := { lkLock := d.sec.lkLock, badLk := d.sec.badLk }, build := d.build, now := d.now, fresh := d.fresh, otp := d.otp,
    ageMin := d.ageMin, mem := { poison := d.mem.poison.filter fun p => decide (p.1 = 5) },
    inputs := d.inputs.filter fun x => decide (2 ≤ x.1), ret := d.ret,
    rf := d.rf.filter fun e => aoOffset e.1 || lastOffset e.1,
    pins := { d.pins with pfail := false, sysPending := false },
    mode := { mode := d.mode.mode, prev := d.mode.prev, cause := causeNow d, result := d.mode.result, idleFrom := d.now,
              fromPo := false, fromHup := decide (d.mode.mode = .holdup) } }

/-- The release of SYS_RST_n: LOADING (Table MOD-2). The filter of PFAIL_n starts again from the level (R41). -/
def sysStart (cause : Nat) (bistFail : Option Nat) (d : Dev) : Dev :=
  bistDone bistFail (goMode .loading cause (each [0, 1] (fun d i => modInput d i fun x => { x with filterFrom := d.now }) d))

/-- SYS_RST_ASSERT: held pending while a HOLDUP sequence runs (R44). -/
def sysAssertDev (d : Dev) : Dev :=
  if !d.pins.sysHigh then d
  else
    let d := modPins d fun p => { p with sysHigh := false }
    if !d.pins.poHigh then d
    else if d.hup.running then modPins d fun p => { p with sysPending := true } else if d.pins.sysPending then d else sysEffect d

/-- SYS_RST_ASSERT (R43, R44). -/
def execSysRstAssert (st : State) : Host.Outcome State Fault Refusal := onDev sysAssertDev st

/-- SYS_RST_RELEASE (R43, R465). A reset that is still pending stays so. -/
def sysReleaseDev (bistFail : Option Nat) (d : Dev) : Dev :=
  if d.pins.sysHigh then d
  else
    let d := modPins d fun p => { p with sysHigh := true }
    if !d.pins.poHigh ∨ d.pins.sysPending then d else sysStart 0 bistFail d

/-- SYS_RST_RELEASE (R43). -/
def execSysRstRelease (bistFail : Option Nat) (st : State) : Host.Outcome State Fault Refusal := onDev (sysReleaseDev bistFail) st

/-- SYS_RST_DEFERRED_EFFECT: HOLDUP_DONE has been raised, and the pending reset takes effect (R44); where the pin has risen
again, the release follows at once. -/
def sysDeferredDev (d : Dev) : Dev :=
  if !d.pins.poHigh ∨ !d.pins.sysPending ∨ d.hup.running then d
  else if d.pins.sysHigh then sysStart 0 none (sysEffect d)
  else sysEffect d

/-- SYS_RST_DEFERRED_EFFECT (R44). -/
def execSysRstDeferredEffect (st : State) : Host.Outcome State Fault Refusal := onDev sysDeferredDev st

/-- What SANITIZE leaves of the records that outlast a reset: the medium starts as new, so no LUN is INDETERMINATE, and the retained journal
head, hold-up record and epoch name nothing (R415). -/
def sanNew (d : Dev) : Dev :=
  modRet (modXlt d fun x => { x with indet := [] }) fun r =>
    { r with jrnlValid := false, jrnlLun := 0, jrnlBlock := 0, jrnlPage := 0, jrnlSeq := 0, huStarted := false, huDone := false, huBytes := 0,
             huEnergy := 0, epoch := 0, epochEdges := 0 }

/-- SANITIZE_COMPLETE: the log entry with PENDING = 0, and the restart (R415 steps 6 and 7). -/
def sanCompleteDev (d : Dev) : Dev :=
  if !running d || !sanAllDone d then d
  else
    let t := d.sec.sanTarget
    let d := sysEffect (modOtp d fun o => { o with log := o.log ++ [(false, t)] })
    sysStart 0xA none (sanNew d)

/-- SANITIZE_COMPLETE (R415). -/
def execSanitizeComplete (st : State) : Host.Outcome State Fault Refusal := onDev sanCompleteDev st

/-- What holds a pad: Premel drives it to a level, a keeper of VCCQ holds a level, the sequencer drives it, or nothing does. -/
inductive Pad where
  | low | high | keeperLow | keeperHigh | sequencer | highZ
  deriving DecidableEq, Repr

/-- The pads of a channel (Table PRT-12). -/
structure Pads where
  ceN : Pad
  wpN : Pad
  weN : Pad
  reT : Pad
  reC : Pad
  aleCle : Pad
  dqDqs : Pad
  deriving DecidableEq, Repr

/-- The pads of every channel of group g, VCCQ being present (R46, Table PRT-12). While SYS_RST_n is in effect they are as in LOADING
(DEDUCED, log 92). -/
def padState (d : Dev) (g : Nat) : Pads :=
  let st := (getGroup d g).stage
  let m := d.mode.mode
  if !d.pins.poHigh ∨ m = .off then ⟨.keeperHigh, .keeperLow, .keeperHigh, .high, .low, .low, .highZ⟩
  else if inSysReset d ∨ m = .dormant ∨ m = .loading ∨ m = .awaitPatch ∨ (m = .standby ∧ st ≠ .gated) then
    ⟨.high, .low, .high, .high, .low, .low, .highZ⟩
  else if st = .gated ∨ st = .off then ⟨.keeperHigh, .keeperLow, .keeperHigh, .high, .low, .low, .highZ⟩
  else ⟨.sequencer, if m = .safe then .low else .high, .sequencer, .sequencer, .sequencer, .sequencer, .sequencer⟩

/-- WP_n of channel group g is high (Table PRT-12). -/
def wpHigh (d : Dev) (g : Nat) : Bool := decide ((padState d g).wpN = .high)

/-- The level of CE_n line e of channel c: a line that the sequencer drives is low while it selects a volume of that line (R102). -/
def ceHigh (d : Dev) (c e : Nat) : Bool := !(decide ((padState d (groupOf c)).ceN = .sequencer) && decide ((getChan d c).ceLow = some e))

/-! ### Conditioned inputs (Table MOD-7) -/

/-- REARM of input i, in AO ticks. -/
def rearm (d : Dev) (i : Nat) : Nat := us (getF d F.pwrIncfg_REARM i)

/-- An assertion or edge of input i is dropped (R96 to R98). -/
def inputDrop (i : Nat) (d : Dev) : Dev := bump d F.pwrInstat_DROPPED i

/-- A level input's filtered assertion: it acts where the input has been deasserted for REARM, and is not masked (R97, R98). -/
def levelAssert (i : Nat) (act : Dev → Dev) (d : Dev) : Dev :=
  let x := getInput d i
  if !d.pins.poHigh ∨ x.asserted ∨ !filterMay d i then d
  else
    let ok := !x.masked && (x.lastAct.isNone || decide (x.since + rearm d i ≤ d.now))
    let d := modInput d i fun y => { y with asserted := true, ignored := !ok, lastAct := some d.now, since := d.now, filterFrom := d.now }
    if ok then act d else inputDrop i d

/-- A level input's filtered deassertion. -/
def levelDeassert (i : Nat) (act : Dev → Dev) (d : Dev) : Dev :=
  let x := getInput d i
  if !d.pins.poHigh ∨ !x.asserted ∨ !filterMay d i then d
  else
    let on := inputOn d i
    let d := modInput d i fun y => { y with asserted := false, ignored := false, since := d.now, filterFrom := d.now }
    if on then act d else d

/-- Each idle count starts again from zero (R88). -/
def idleRestart (d : Dev) : Dev := modMode d fun s => { s with idleFrom := d.now }

/-- BURST_WARN_ASSERT (R85, R88, R97). -/
def execBurstWarnAssert (st : State) : Host.Outcome State Fault Refusal :=
  onDev (levelAssert 2 fun d => if running d then wakeEvent 3 d else d) st

/-- BURST_WARN_DEASSERT (R88). -/
def execBurstWarnDeassert (st : State) : Host.Outcome State Fault Refusal := onDev (levelDeassert 2 idleRestart) st

/-- STAGE_FAULT_ASSERT: charging stops (R336). -/
def execStageFaultAssert (st : State) : Host.Outcome State Fault Refusal := onDev (levelAssert 4 chargeUpdate) st

/-- STAGE_FAULT_DEASSERT (R336). -/
def execStageFaultDeassert (st : State) : Host.Outcome State Fault Refusal := onDev (levelDeassert 4 chargeUpdate) st

/-- The SoC side applies EPOCH_SYNC edges (R86, R306). -/
def edgesLive (d : Dev) : Bool :=
  running d && (d.mode.restored || d.mode.restoring) && decide (d.mode.mode ≠ .dormant)

/-- EPOCH_SYNC_EDGE: a filtered rising edge; one within REARM of the last counted edge, or of a masked input, is dropped (R96,
R98). A counted edge advances the epoch number, or is counted in the AO domain until the SoC side applies it (R304, R306). -/
def epochEdgeDev (d : Dev) : Dev :=
  let x := getInput d 3
  if !d.pins.poHigh ∨ !filterMay d 3 then d
  else
    let early : Bool := match x.lastAct with
      | some t => decide (d.now < t + rearm d 3)
      | none => false
    let d := modInput d 3 fun y => { y with asserted := true, since := d.now, filterFrom := d.now }
    if x.masked || early then inputDrop 3 d
    else
      let d := modInput d 3 fun y => { y with lastAct := some d.now }
      if edgesLive d then epochEdge d else modRet d fun r => { r with epochEdges := r.epochEdges + 1 }

/-- EPOCH_SYNC_EDGE (R304). -/
def execEpochSyncEdge (st : State) : Host.Outcome State Fault Refusal := onDev epochEdgeDev st

/-- INPUT_STUCK_TIMEOUT: input i has been asserted for STUCK_T (R98). -/
def inputStuckDev (i : Nat) (d : Dev) : Dev :=
  let x := getInput d i
  if !d.pins.poHigh ∨ i < 2 ∨ 4 < i ∨ !x.asserted ∨ x.masked ∨ getF d F.pwrIncfg_STUCK_T i = 0 then d
  else
    let d := setF (modInput d i fun y => { y with masked := true }) F.pwrInstat_STUCK 1 i
    if i = 2 then idleRestart d else if i = 4 then chargeUpdate d else d

/-- INPUT_STUCK_TIMEOUT (R98). -/
def execInputStuckTimeout (i : Nat) (st : State) : Host.Outcome State Fault Refusal := onDev (inputStuckDev i) st

/-- INPUT_REARM_ELAPSED: input i has been deasserted for REARM: MASKED clears (R98). EPOCH_SYNC has then been low. -/
def inputRearmDev (i : Nat) (d : Dev) : Dev :=
  let x := getInput d i
  if !d.pins.poHigh ∨ i < 2 ∨ 4 < i ∨ (x.asserted ∧ i ≠ 3) then d
  else modInput d i fun y => { y with masked := false, asserted := false }

/-- INPUT_REARM_ELAPSED (R98). -/
def execInputRearmElapsed (i : Nat) (st : State) : Host.Outcome State Fault Refusal := onDev (inputRearmDev i) st

/-- The fields of PRM_PWR_INCFGi that apply to input i (R95, Table MOD-7). -/
def incfgMask (i : Nat) : Nat := if 2 ≤ i ∧ i ≤ 4 then 0xFFFFFFFF else 0xFF

/-- INPUT_FILTER_WRITE: a write to PRM_PWR_INCFGi; the filter count starts again at the next AO tick (R95). -/
def inputCfgDev (i v : Nat) (d : Dev) : Dev :=
  if !socUp d ∨ 13 ≤ i then d
  else setReg (modInput d i fun y => { y with filterFrom := d.now + 1 }) .pwrIncfg i (v &&& incfgMask i)

/-- INPUT_FILTER_WRITE (R95). -/
def execInputFilterWrite (i : Nat) (v : Word) (st : State) : Host.Outcome State Fault Refusal := onDev (inputCfgDev i v.toNat) st

end Sys2Proof.Machine
end

