-- ==== Sys2Proof/Machine/Intake.lean ====
section
/-! DEFINITION. Machine/Intake.lean: the patch intake of AWAIT-PATCH (R67 to R73): the capsule's reading, its checks (Table BOT-12),
its installation, and how AWAIT-PATCH ends. -/

namespace Sys2Proof.Machine

open Sys2Proof

/-- The outcome of a capsule: RESULT, and one more capsule in COUNT (PRM_CFG_PATCH_STAT). -/
def capsuleEnd (code : Nat) (d : Dev) : Dev :=
  modCfg d fun c => { c with pBusy := false, pRead := false, pBytes := none, pResult := code, pCount := min 255 (c.pCount + 1) }

/-- The capsule's host address (PRM_CFG_PATCH_ADDR_LO and _HI). -/
def capsuleAddr (d : Dev) : Nat := getF d F.cfgPatchAddrLo_ADDR * 64 + getF d F.cfgPatchAddrHi_ADDR * 2 ^ 32

/-- GO with a length: the capsule is read over MPR0 (R68). One written while BUSY is ignored; outside AWAIT-PATCH RESULT is 0x01. -/
def patchGoDev (len : Nat) (d : Dev) : Dev :=
  if !socUp d || d.cfg.pBusy then d
  else if d.mode.mode ≠ .awaitPatch then capsuleEnd 1 d
  else
    let n := len % 2 ^ 19
    let d := modCfg d fun c => { c with pBusy := true, pRead := decide (n = 0), pBytes := if n = 0 then some [] else none, pLen := n }
    if n = 0 then d
    else
      let (p, d) := newPurp .capsule d
      mpReadRange p .data (capsuleAddr d) n 0 3 d

/-- PATCH_GO (R68). -/
def execPatchGo (len : Nat) (st : State) : Host.Outcome State Fault Refusal := onDev (patchGoDev len) st

/-- A sequencer payload is well formed (R71): its counts, its map entries and its length, which the multiple of 8 rounds up. -/
def payloadOk (v : List Byte) : Bool :=
  let m := leAt v 0 2
  let w := leAt v 2 2
  decide (8 ≤ v.length) && decide (m ≤ 32) && decide (1 ≤ w ∧ w ≤ 1024) && zeroAt v 4 4 &&
    decide (v.length = ceilDiv (8 + 4 * (m + w)) 8 * 8) &&
    (List.range m).all fun i => decide (leAt v (8 + 4 * i) 2 < 4096) && decide (leAt v (10 + 4 * i) 2 < w)

/-- The signature blocks of a capsule with an n-byte payload, and the digest that they sign (R69). -/
def capsuleSig1 (b : List Byte) (n : Nat) : List Byte := slice b (0x40 + n) 200
def capsuleSig2 (b : List Byte) (n : Nat) : List Byte := slice b (0x40 + n + 200) 200
def capsuleDigest (b : List Byte) (n : Nat) : List Byte := Config.sha384 (slice b 0 (0x40 + n))

/-- The decrypted payload, where the tag is valid (Table BOT-12 check 11). -/
def capsulePlain (d : Dev) (b : List Byte) (n : Nat) : Option (List Byte) :=
  let key := (List.range 8).flatMap fun i => natLe 4 (nget 0 d.otp.capKey i).toNat
  Config.gcmOpen key (slice b 0x18 12) (slice b 0 0x18) (slice b 0x40 n) (slice b 0x24 16)

/-- Checks 2 to 12 of Table BOT-12, in order: the RESULT of the first that fails, or the target and the payload. DESIGN CHOICE (log 96): a
capsule with SIG2 = 1 fails check 10 where no integrator key hash is programmed. -/
def capsuleCheck (d : Dev) (b : List Byte) : Nat ⊕ (Nat × List Byte) :=
  let n := leAt b 0x0C 4
  let target := leAt b 6 2
  let sig2 := nbit (leAt b 0x12 2) 0
  let total := 0x40 + n + 200 + (if sig2 then 200 else 0)
  let sig := capsuleSig1 b n
  if slice b 0 4 ≠ [0x50, 0x52, 0x4D, 0x50] ∨ leAt b 4 2 ≠ 1 ∨ !zeroAt b 0x34 12 ∨ 2 ≤ leAt b 0x12 2 ∨ !zeroAt b 0x16 2 then .inl 0x04
  else if leAt b 8 4 ≠ d.cfg.pLen ∨ total ≠ d.cfg.pLen ∨ n % 8 ≠ 0 ∨ 262144 < d.cfg.pLen then .inl 0x05
  else if target ≠ 1 ∧ target ≠ 2 then .inl 0x0E
  else if leAt b 0x10 2 ≠ 0x4202 then .inl 0x06
  else if leAt b 0x14 2 < d.otp.floor then .inl 0x07
  else if Config.sha384 (slice sig 0 97) ≠ Config.vendorRootKeyHash then .inl 0x08
  else if !sigOk sig Config.vendorRootKeyHash (capsuleDigest b n) then .inl 0x09
  else if (keyHash d).isSome && !sig2 then .inl 0x0A
  else if sig2 && !(match keyHash d with | some h => sigOk (capsuleSig2 b n) h (capsuleDigest b n) | none => false) then .inl 0x0B
  else
    match capsulePlain d b n with
    | none => .inl 0x0C
    | some v => if target = 1 && !payloadOk v then .inl 0x0D else .inr (target, v)

/-- Words of a PATCH message: six pairs and their check bits fill its 64 bytes (R14). -/
def patchPieces (n : Nat) : List (Nat × Nat) := (List.range (ceilDiv n 12)).map fun i => (12 * i, min 12 (n - 12 * i))

/-- The check bits of each pair of microwords (R71, R118): microword n is bits [31:0] of word n ÷ 2 where n is even. -/
def patchChecks : List Word → List (BitVec 15)
  | a :: b :: ws => decTedCheck (b ++ a) :: patchChecks ws
  | [a] => [decTedCheck ((0#32 : Word) ++ a)]
  | [] => []

/-- The PATCH messages of a payload (R71, R118): the counts, the map entries and the microwords. Address 0x1000 carries the counts and
0x2000 + i the map entries. -/
def patchMsgs (v : List Byte) : List MsgBody :=
  let m := leAt v 0 2
  let w := leAt v 2 2
  let word := fun p => BitVec.ofNat 32 (leAt v p 4)
  [.patch 0x1000 [word 0] []] ++ (patchPieces m).map (fun p => .patch (0x2000 + p.1) ((rangeFrom p.1 p.2).map fun i => word (8 + 4 * i)) []) ++
    (patchPieces w).map fun p =>
      let ws := (rangeFrom p.1 p.2).map fun i => word (8 + 4 * m + 4 * i)
      .patch p.1 ws (patchChecks ws)

/-- A sequencer capsule is installed: its words go to every channel group of the build; it is BUSY until they have arrived. -/
def installSeq (v : List Byte) (d : Dev) : Dev :=
  let d := modCfg d fun c => { c with pInst := true, pRead := false, pBytes := none }
  each (List.range d.build.groups) (fun d g => each (patchMsgs v) (fun d b => hsend g 0 b d) d) d

/-- A housekeeper capsule is installed. -/
def installHk (version : Nat) (v : List Byte) (d : Dev) : Dev :=
  modRet (modCfg d fun c => { c with pHkOk := true, hkPatch := v, hkVersion := version }) fun r => { r with patchHk := true }

/-- Every target that the image requires has an accepted capsule (R72). -/
def patchMet (d : Dev) : Bool :=
  !d.cfg.patchReq || ((!nbit d.cfg.patchTargets 0 || d.cfg.pSeqOk) && (!nbit d.cfg.patchTargets 1 || d.cfg.pHkOk))

/-- What follows the arrival in STANDBY after a start: the recorded gate requests (R90), a kept doorbell (R85), AUTO_WARM or a pending
SANITIZE (R415). -/
def standbyArrive (d : Dev) : Dev :=
  let d := each (List.range d.build.groups) (fun d g => if nbit (getF d F.pwrGate_REQ) g then gateStart g d else d) d
  if d.mode.doorbellKept then doorbellWake (modMode d fun s => { s with doorbellKept := false })
  else if d.cfg.autoWarm || sanPending d then modeTo .warm 9 d
  else d

/-- AWAIT-PATCH ends where no capsule is missing; otherwise MISSING = 1 (R72). -/
def awaitEnd (d : Dev) : Dev :=
  if patchMet d then standbyArrive (goMode .standby 9 (modCfg d fun c => { c with pMissing := false }))
  else modCfg d fun c => { c with pMissing := true }

/-- A capsule has ended: a DONE or end of PATCH_WAIT that came meanwhile acts now, and AWAIT-PATCH ends where the wait is over and no
capsule is missing any more (R72). -/
def capsuleAfter (d : Dev) : Dev :=
  if d.mode.mode = .awaitPatch ∧ (d.cfg.pEnd ∨ (d.cfg.pMissing ∧ patchMet d)) then awaitEnd (modCfg d fun c => { c with pEnd := false }) else d

/-- CAPSULE_CHECK_COMPLETE: the capsule has been read and checked (R70). -/
def capsuleDoneDev (d : Dev) : Dev :=
  if !running d || !d.cfg.pBusy || !d.cfg.pRead then d
  else if d.mode.mode ≠ .awaitPatch then capsuleEnd 1 d
  else
    match d.cfg.pBytes with
    | none => capsuleAfter (capsuleEnd 3 d)
    | some b =>
      match capsuleCheck d b with
      | .inl k => capsuleAfter (capsuleEnd k d)
      | .inr (t, v) =>
        if t = 1 then installSeq v d else capsuleAfter (installHk (leAt b 0x14 4) v (capsuleEnd 0 d))

/-- CAPSULE_CHECK_COMPLETE (R70). -/
def execCapsuleCheckComplete (st : State) : Host.Outcome State Fault Refusal := onDev capsuleDoneDev st

/-! ### The hatch's control messages at the media side -/

/-- PATCH at a channel group, accepted only in AWAIT-PATCH (Table ARC-2, R118): the microwords with their check bits, and the map
entries, go to each of its sequencers (R71, R120). A word written again is known good (R397). -/
def patchApply (g addr : Nat) (ws : List Word) (cs : List (BitVec 15)) (d : Dev) : Dev :=
  if d.mode.mode ≠ .awaitPatch then d
  else
    let d := each (groupChans d g) (fun d c => modChan d c fun h =>
      if addr < 0x1000 then
        { h with patchRam := (ws.zipIdx).foldl (fun m x => nset 0#32 m (addr + x.2) x.1) h.patchRam,
                 patchChk := (cs.zipIdx).foldl (fun m x => nset 0#15 m (addr / 2 + x.2) x.1) h.patchChk }
      else if addr < 0x2000 then { h with patchRam := [], patchChk := [], patchMap := [], wordCount := (ws.headD 0).toNat / 65536 }
      else { h with patchMap := h.patchMap ++ ws.map fun w => (w.toNat % 65536, w.toNat / 65536) }) d
    cleanWords (fun p => decide (p.1 = 2) && decide (groupOf p.2.1 = g) &&
      (decide (0x1000 ≤ addr ∧ addr < 0x2000) || decide (addr / 2 ≤ p.2.2 ∧ p.2.2 < addr / 2 + cs.length))) d

def isPatch : MsgBody → Bool | .patch _ _ _ => true | _ => false

/-- PATCH messages are on their way to a group that is up. -/
def patchPending (d : Dev) : Bool := (liveGroups d).any fun g => (undelivered d g 0).any isPatch

/-- The capsule is installed once every group that is up has all of its words (R71). -/
def patchSettle (d : Dev) : Dev :=
  if d.cfg.pInst && !patchPending d then
    capsuleAfter (modRet (modCfg (capsuleEnd 0 d) fun c => { c with pInst := false, pSeqOk := true }) fun r => { r with patchSeq := true })
  else d

/-- PATCH (R71). -/
def execPatch (g seq : Nat) (crc : BitVec 16) (st : State) : Host.Outcome State Fault Refusal :=
  onDev (fun d => patchSettle (deliver g 0 seq crc isPatch (fun b d => match b with | .patch a ws cs => patchApply g a ws cs d | _ => d) d)) st

/-- PATCH_DONE: the end of the intake (R72). DESIGN CHOICE (log 75): while a capsule is BUSY it is kept until that capsule ends. -/
def patchDoneDev (d : Dev) : Dev :=
  if !socUp d || decide (d.mode.mode ≠ .awaitPatch) then d
  else if d.cfg.pBusy then patchSettle (modCfg d fun c => { c with pEnd := true })
  else awaitEnd d

/-- PATCH_DONE (R72). -/
def execPatchDone (st : State) : Host.Outcome State Fault Refusal := onDev patchDoneDev st

/-- PATCH_WAIT_EXPIRY: PATCH_WAIT has elapsed since AWAIT-PATCH was entered (R72). -/
def execPatchWaitExpiry (st : State) : Host.Outcome State Fault Refusal := onDev patchDoneDev st

/-- A scheduler at HOLDUP entry (R156): what is queued or chosen and not kept ends without having begun, and what is suspended runs on
to END once no read holds the LUN. -/
def schedHoldup (l : Nat) (d : Dev) : Dev :=
  let s := getSched d l
  let gone := (schedOps s ++ s.chosen.toList).filter fun o => !hupKeeps o
  let keep := fun q : List Op => q.filter hupKeeps
  let d := modSched d l fun s =>
    { s with q0 := keep s.q0, q1 := keep s.q1, q2 := keep s.q2, q3 := keep s.q3, q4 := keep s.q4, spill := s.spill.filter (fun p => hupKeeps p.1),
             chosen := s.chosen.filter hupKeeps, asker := none }
  schedChoose l (each gone (fun d o => opEnd o 3 0 0 0 0 d) d)

/-- HOLDUP_MESSAGE down: the group takes no new array work, its reads are DROPPED and its schedulers keep the journal's pages alone
(R156, Table HUP-2 step 4); it reports the COPs that it has in flight. -/
def holdupDown (g : Nat) (d : Dev) : Dev :=
  let d := modGroup d g fun x => { x with hup := true }
  let d := cwsDrop (inGroup g) d
  let ls := (d.scheds.map (·.1)).filter (inGroup g)
  let d := each ls (fun d l => schedHoldup l d) d
  let d := each (groupChans d g) (fun d c => seqPick c 64 d) d
  let n := ((groupChans d g).map fun c => (getChan d c).recs.length).sum
  hsend g 1 (if n = 0 then .holdup 2 0 else .holdup 1 n) d

def isHoldup (up : Bool) : MsgBody → Bool | .holdup k _ => decide (up = decide (k ≠ 0)) | _ => false

/-- HOLDUP_MESSAGE (Table ARC-2, R340). The SoC side's sequence follows the results of the operations themselves. -/
def execHoldupMessage (g : Nat) (up : Bool) (seq : Nat) (crc : BitVec 16) (st : State) : Host.Outcome State Fault Refusal :=
  onDev (deliver g (b2n up) seq crc (isHoldup up) fun _ d => if up then d else holdupDown g d) st

end Sys2Proof.Machine
end

