-- ==== Sys2Proof/Machine/Port.lean ====
section
/-! DEFINITION. Machine/Port.lean: the register port (R30 to R32, R78, R86, R434 to R437, R465 of spec/02_ports.md,
spec/04_modes.md and spec/22_address_map.md): what a write to each register does, what a read of it gives, and the accesses that
the hatch carries. -/

namespace Sys2Proof.Machine

open Sys2Proof

/-! ### Instances the build lacks (R435) -/

/-- The build configuration has no such instance: its registers read zero. -/
def regAbsent (d : Dev) (r : Reg) (i : Nat) : Bool :=
  match r with
  | .glbMpStat => decide (d.build.ports ≤ i % 4)
  | .thmCht | .calChstat | .calChres | .ordIsol => decide (d.build.channels ≤ i)
  | .hatchLinkStat | .dbgHmsg => decide (d.build.groups ≤ i)
  | .chnCfg | .chnStat | .chnVolstat | .chnErr | .seqStat | .seqPatch | .seqFault | .seqFaultinfo | .seqIndet | .seqRecsel
  | .seqRec | .seqUtil => decide (d.build.channels ≤ i)
  | _ => false

/-! ### Writes -/

/-- Ports of one kind that a write to PRM_GLB_MP_CFG leaves enabled: written only in STANDBY, and never none. -/
def portEnables (d : Dev) (f : FRef) (v : Nat) : Dev :=
  let m := v &&& (2 ^ d.build.ports - 1)
  if d.mode.mode = .standby ∧ m ≠ 0 then setF d f m else d

/-- PRM_GLB_MP_CFG. -/
def mpCfgDev (v : Nat) (d : Dev) : Dev :=
  let d := setF (setF d F.glbMpCfg_TIMEOUT (nbits v 23 16)) F.glbMpCfg_RETRY_MAX (nbits v 11 8)
  mpPump (portEnables (portEnables d F.glbMpCfg_MPR_EN (nbits v 3 0)) F.glbMpCfg_MPW_EN (nbits v 7 4))

/-- PRM_CFG_PATCH_CTRL: GO, then DONE (R68, R72). -/
def patchCtrlDev (v : Nat) (d : Dev) : Dev :=
  let d := if nbit v 31 then patchGoDev (nbits v 18 0) d else d
  if nbit v 30 then patchDoneDev d else d

/-- PRM_PWR_MODE_REQ (R80). -/
def modeReqDev (v : Nat) (d : Dev) : Dev :=
  let c := nbits v 3 0
  let legal := [1, 4, 5, 6, 7, 8, 9, 11, 13].contains c
  modeReq (if legal then modeOf c else none) (legal || decide (c = 0)) (nbits v 7 4) d

/-- PRM_PWR_GATE: AUTO_UNGATE, the REQ bits that rise and fall, and FORCE (R90 to R92). -/
def gateWriteDev (v : Nat) (d : Dev) : Dev :=
  let was := getF d F.pwrGate_REQ
  let gs := List.range d.build.groups
  let d := setF d F.pwrGate_AUTO_UNGATE (nbits v 15 8 &&& (2 ^ d.build.groups - 1))
  let d := each gs (fun d g =>
    if nbit v g && !nbit was g then gateReqDev g d else if !nbit v g && nbit was g then gateClearDev g true d else d) d
  each gs (fun d g => if nbit v (16 + g) then forceDev g d else d) d

/-- PRM_SEC_GO (R412): GO runs the operation whose code has been taken; a write without it is out of sequence. -/
def secGoDev (v : Nat) (d : Dev) : Dev := if nbit v 0 then secGo d.sec.op d else secWrite relock d

/-- PRM_CQ_SQCFGq (R251, R281): the set-up is written only while EN is 0. -/
def sqCfgDev (q v : Nat) (d : Dev) : Dev :=
  let en := sqEn d q
  let d := if en then d else
    setF (setF (setF d F.cqSqcfg_C0_EN (nbits v 29 29) q) F.cqSqcfg_CQID (nbits v 21 16) q) F.cqSqcfg_SIZE (nbits v 15 0) q
  let d := if !en && nbit v 31 then sqOnDev q d else if en && !nbit v 31 then sqResetDev q true d else d
  if nbit v 30 then sqResetDev q false d else d

/-- PRM_CQ_CQCFGq (R251, R256, R281): AGG_N and AGG_T at any time, the rest while EN is 0. -/
def cqCfgDev (q v : Nat) (d : Dev) : Dev :=
  let en := cqEn d q
  let d := setF (setF d F.cqCqcfg_AGG_N (nbits v 26 24) q) F.cqCqcfg_AGG_T (nbits v 23 16) q
  let d := if en then d else setF (setF d F.cqCqcfg_LINE (nbits v 29 27) q) F.cqCqcfg_SIZE (nbits v 15 0) q
  let d := if !en && nbit v 31 then cqOnDev q d else if en && !nbit v 31 then cqResetDev q true d else d
  if nbit v 30 then cqResetDev q false d else d

/-- PRM_ORD_QUIESCE (R303). -/
def quiesceWriteDev (v : Nat) (d : Dev) : Dev := if nbit v 0 then quiesceDev d else quiesceClearDev d

/-- PRM_DMA_CTXCFGk: KIND, PACE and QUANTUM are written only while EN is 0; a write that would clear EN where it may not be
cleared is ignored (R322). -/
def ctxCfgDev (k v : Nat) (d : Dev) : Dev :=
  let en := ctxEn d k
  if en && !nbit v 31 && !ctxMayOff d k then d else
  let d := setF (setF d F.dmaCtxcfg_TW_EV (nbits v 28 28) k) F.dmaCtxcfg_PRIO (nbits v 27 26) k
  let d := if en then d else
    setF (setF (setF d F.dmaCtxcfg_KIND (nbits v 30 30) k) F.dmaCtxcfg_PACE (nbits v 29 29) k) F.dmaCtxcfg_QUANTUM (nbits v 15 0) k
  if !en && nbit v 31 then ctxOnDev k d else if en && !nbit v 31 then ctxOffDev k d else d

/-- PRM_DMA_CTXCTLk (R321). -/
def ctxCtlDev (k v : Nat) (d : Dev) : Dev :=
  let was := isSet d F.dmaCtxctl_PAUSE k
  if nbit v 31 && !was then pauseDev k d else if !nbit v 31 && was then resumeDev k d else d

/-- PRM_XLT_MCCTL (R246, R247). -/
def mcCtlDev (v : Nat) (d : Dev) : Dev :=
  let was := isSet d F.xltMcctl_EN
  let d := if was && !nbit v 31 then mcOffDev d else if !was && nbit v 31 then mcOnDev d else d
  let op := nbits v 1 0
  if op = 1 then mcInvLineDev d else if op = 2 then mcInvAllDev d else if op = 3 then mcWbAllDev d else d

/-- PRM_HUP_CFG (R336, R337, R348). -/
def hupCfgDev (v : Nat) (d : Dev) : Dev :=
  let d := chargeUpdate (setF (setF d F.hupCfg_CHG_DIS (nbits v 30 30)) F.hupCfg_REGION_HOLD (nbits v 29 29))
  if nbit v 31 then healthStart d else d

/-- PRM_HUP_RESTORE (R348). -/
def hupRestoreDev (v : Nat) (d : Dev) : Dev :=
  if nbit v 31 then restoreGoDev d else if nbit v 30 then restoreSkipDev d else d

/-- PRM_LOOP_CTLs (R362). -/
def loopCtlDev (s v : Nat) (d : Dev) : Dev :=
  let q := nbits v 31 29
  if q = 1 then loopOpenDev s d else if q = 2 then loopCloseDev s d else if q = 3 then loopTuneDev s d else d

/-- PRM_CAL_REQ (R388): a calibration by KIND, and REF_SEL with ADC_CAL by REF. -/
def calWriteDev (v : Nat) (d : Dev) : Dev :=
  let k := nbits v 9 8
  let d := if k = 0 then d else calReqDev k (nbits v 5 0) (nbit v 6) d
  if nbit v 7 then modCal d fun x => { x with refRunning := true } else d

/-- A mailbox word: ignored while its slot is POSTED (R423). -/
def mbWordDev (i v : Nat) (d : Dev) : Dev := if mbState d (i / 16) = 1 then d else setReg d .hkMbW i v

/-- The effect of a write of v to instance i of a register. -/
def regWrite (r : Reg) (i v : Nat) (d : Dev) : Dev :=
  if regAbsent d r i then d
  else
    let w := BitVec.ofNat 32 v
    match r with
    | .glbMpCfg => mpCfgDev v d
    | .cfgPatchCtrl => patchCtrlDev v d
    | .pwrModeReq => modeReqDev v d
    | .pwrGate => gateWriteDev v d
    | .pwrIncfg => inputCfgDev i v d
    | .secKey => secKeyDev w d
    | .secLkey => secLkeyDev w d
    | .secCmd => secCmdDev w d
    | .secAddr => secOperandDev 0 w d
    | .secData0 => secOperandDev 1 w d
    | .secData1 => secOperandDev 2 w d
    | .secGo => secGoDev v d
    | .cqSqbaseLo | .cqSqbaseHi => if sqEn d i then d else plainWrite r i v d
    | .cqCqbaseLo | .cqCqbaseHi => if cqEn d i then d else plainWrite r i v d
    | .cqSqcfg => sqCfgDev i v d
    | .cqCqcfg => cqCfgDev i v d
    | .cqPendlo => pendClearDev false v d
    | .cqPendhi => pendClearDev true v d
    | .cqSqdb => sqDbDev i (v % 65536) d
    | .cqCqdb => cqDbDev i (v % 65536) d
    | .ordEqack => eqAckDev v d
    | .ordQuiesce => quiesceWriteDev v d
    | .ordEpochSet => epochSetDev v d
    | .dmaCtxcfg => ctxCfgDev i v d
    | .dmaCtxctl => ctxCtlDev i v d
    | .dmaChainLo | .dmaChainHi => if ctxEn d i then d else plainWrite r i v d
    | .dmaKick => kickDev v d
    | .fifoWm => xoffCheck i (plainWrite r i v d)
    | .xltMcctl => mcCtlDev v d
    | .rrcCorr0 | .rrcCorr1 => mirrorWrite r i v d
    | .rrcOfftime => offtimeDev v d
    | .hupCfg => hupCfgDev v d
    | .hupRestore => hupRestoreDev v d
    | .loopCtl => loopCtlDev i v d
    | .loopTrcfg => loopTrcfgDev i v d
    | .loopCdata => loopCoeffDev (nbits v 15 0) d
    | .thmZsp => zonesUpdate (plainWrite r i v d)
    | .calReq => calWriteDev v d
    | .memLogclr => if nbit v 0 then memClearDev d else d
    | .hkMbdb => mbDoorbellDev v d
    | .hkMbdone => mbFreeDev (nbits v 15 0) d
    | .hkMbW => mbWordDev i v d
    | .fijCtl => fijCtlDev v d
    | .dbgTrcfg => trcfgDev v d
    | _ => plainWrite r i v d

/-! ### Reads -/

/-- Sources of each event line (R50). -/
def evtLine (d : Dev) (j : Nat) : Bool :=
  let pend := fun (i : Nat) => nbit (getReg d (if i < 32 then .cqPendlo else .cqPendhi) 0) (i % 32)
  let any16 := fun (p : Nat → Bool) => (List.range 16).any p
  let any64 := fun (p : Nat → Bool) => (List.range 64).any p
  if j < 8 then any64 fun q => pend q && decide (getF d F.cqCqcfg_LINE q = j)
  else if j = 8 then isSet d F.ordEqstat_NEW
  else if j = 9 then decide (getF d F.hkMbdone_DONE ≠ 0)
  else if j = 10 then
    isSet d F.hupStat_HOLDUP_STARTED || isSet d F.hupStat_HOLDUP_DONE || isSet d F.hupStat_COVER_LOST || isSet d F.hupStat_KTL_WEAK ||
      isSet d F.hupStat_HC_FAIL || inputOn d 4
  else if j = 11 then
    any16 (fun s => decide (getReg d .loopStat s &&& 0x1E700FFF ≠ 0)) ||
      (List.range 12).any (fun z => isSet d F.thmZstat_CRIT z || isSet d F.thmZstat_FAN_FAIL z) || isSet d F.calRef_REF_FAIL ||
      isSet d F.pgmStat_BAND_STALL
  else if j = 12 then
    any64 fun k => isSet d F.dmaCtxstat_REQ_OVERFLOW k || isSet d F.dmaCtxstat_TAIL_EV k || isSet d F.dmaCtxstat_CHAIN_ERR k ||
      isSet d F.fifoStat_OVERRUN k
  else if j = 13 then isSet d F.memEvt_UE || isSet d F.memEvt_LOG_FULL
  else if j = 14 then
    isSet d F.glbEvtSrc_MODE_CHG || isSet d F.glbEvtSrc_WAKE_DONE || (List.range 13).any fun i => isSet d F.pwrInstat_STUCK i
  else isSet d F.glbEvtSrc_SAFE_ENTRY || (List.range 8).any (fun g => isSet d F.hatchLinkStat_FAILED g) ||
    (List.range 8).any fun p => isSet d F.glbMpStat_FAILED p

/-- The level of pin EVT[j]: its line where PRM_GLB_EVT_MASK does not hold it low (R35). -/
def evtPin (d : Dev) (j : Nat) : Bool := evtLine d j && !nbit (getF d F.glbEvtMask_MASK) j

/-- The level of pin XOFF[i]: 1 outside the run modes and from the PFAIL_n latch on (R36). -/
def xoffPin (d : Dev) (i : Nat) : Bool := !d.mode.mode.run || d.pins.pfail || xoffLine d i

/-- The number whose bit i, for i below n, is p i. -/
def maskOf (n : Nat) (p : Nat → Bool) : Nat := ((List.range n).map fun i => if p i then 2 ^ i else 0).sum

/-- A transition is in progress, or SYS_RST_n is in effect (R465). -/
def inTransit (d : Dev) : Bool := d.mode.trans.isSome || d.mode.onward.isSome || inSysReset d

/-- The filtered level of input i: two are low when they assert, and a tachometer's level is no part of what the manual fixes. -/
def inputLevel (d : Dev) (i : Nat) : Nat :=
  if 5 ≤ i then Config.freeValue d.fresh % 2
  else if i = 0 ∨ i = 4 then b2n (!(getInput d i).asserted) else b2n (getInput d i).asserted

/-- A word of the error-queue entry that PRM_ORD_EQSEL selects (Table ORD-4). -/
def eqWord (d : Dev) (k : Nat) : Nat :=
  match d.ord.eq[getF d F.ordEqsel_INDEX]? with
  | none => 0
  | some e =>
    if k = 0 then e.eseq % 2 ^ 32
    else if k = 1 then (if e.resolved then 2 else 1) * 2 ^ 30 + e.nest % 4 * 2 ^ 28 + e.typ % 4096 * 2 ^ 16 + e.lun % 65536
    else if k = 2 then e.unit % 2 ^ 32
    else e.outcome % 256 * 2 ^ 24 + b2n e.parent.isSome * 2 ^ 23 + e.parent.getD 0 % 65536

/-- The ring that PRM_XLT_RINGSEL selects, none for a stripe group in no use. -/
def ringSel (d : Dev) : Option Ring :=
  let sg := getF d F.xltRingsel_SG
  (sgFind d sg).map fun _ => getRing d sg

/-- KIND and PHASE of a relocation. -/
def relocBits (r : Ring) : Nat × Nat :=
  match r.reloc with
  | none => (0, 0)
  | some x => (match x.kind with | .gapMove => 1 | .refresh => 2 | .fold => 3, x.phase % 4)

/-- Hours since the last good health check. -/
def healthAge (d : Dev) : Nat :=
  match d.hup.goodMin with
  | none => 0
  | some t => min 0xFFFF ((d.ageMin - t) / 60)

/-- DONE_PCT of PRM_SEC_SAN. -/
def sanPct (d : Dev) : Nat := if d.sec.sanTotal = 0 then 0 else min 100 (d.sec.sanDone * 100 / d.sec.sanTotal)

/-- Fields whose value is read from the block's state rather than from the register file. DESIGN CHOICE (log 94): the time to lock of the
core PLL is left out, so PLL_LOCK reads 1 from the start of LOADING. -/
def liveFields (d : Dev) (r : Reg) (i : Nat) : List (FRef × Nat) :=
  match r with
  | .glbMode => [(F.glbMode_RESULT, d.mode.result), (F.glbMode_TRANSIT, b2n (inTransit d)), (F.glbMode_CAUSE, causeNow d),
      (F.glbMode_PREV, d.mode.prev.code), (F.glbMode_MODE, d.mode.mode.code)]
  | .glbStrap => [(F.glbStrap_STRAP, d.pins.straps.toNat)]
  | .glbNodeId => [(F.glbNodeId_NODE, d.pins.nodeId.toNat)]
  | .glbEvtStat => [(F.glbEvtStat_PEND, maskOf 16 (evtLine d))]
  | .glbMpStat => [(F.glbMpStat_WITHDRAWN, b2n (nget {} d.mp.ports i).withdrawn)]
  | .cfgLoadStat => [(F.cfgLoadStat_DONE, b2n d.cfg.done), (F.cfgLoadStat_FAILED, b2n d.cfg.failed),
      (F.cfgLoadStat_FALLBACK, b2n d.cfg.fallback), (F.cfgLoadStat_SLOT, d.cfg.slot), (F.cfgLoadStat_CAUSE, d.cfg.cause)]
  | .cfgLoadGen => [(F.cfgLoadGen_GEN, d.cfg.gen)]
  | .cfgLoadSerial => [(F.cfgLoadSerial_GEN, d.cfg.serial)]
  | .cfgPatchStat => [(F.cfgPatchStat_BUSY, b2n d.cfg.pBusy), (F.cfgPatchStat_SEQ_OK, b2n d.cfg.pSeqOk),
      (F.cfgPatchStat_HK_OK, b2n d.cfg.pHkOk), (F.cfgPatchStat_MISSING, b2n d.cfg.pMissing),
      (F.cfgPatchStat_COUNT, min 0xFF d.cfg.pCount), (F.cfgPatchStat_RESULT, d.cfg.pResult)]
  | .clkStat => [(F.clkStat_GRP_CLK, if d.mode.mode.awake then maskOf 8 (linkUp d) else 0),
      (F.clkStat_AO_SRC, b2n (d.pins.straps.getLsbD 0)), (F.clkStat_PLL_LOCK, b2n d.mode.mode.awake)]
  | .pwrInstat => [(F.pwrInstat_LEVEL, inputLevel d i), (F.pwrInstat_MASKED, b2n (getInput d i).masked)]
  | .secLevel => [(⟨.secLevel, 31, 0⟩, secLevelWord d)]
  | .secStat => [(⟨.secStat, 31, 28⟩, secStatBits d / 2 ^ 28)]
  | .secNslock => [(⟨.secNslock, 31, 0⟩, nslockWord d)]
  | .secSan => [(F.secSan_RUNNING, b2n (decide (d.mode.mode = .sanitize))), (F.secSan_DONE_PCT, sanPct d)]
  | .secOtp => [(⟨.secOtp, 31, 0⟩, secOtpWord d)]
  | .cqSqstat =>
    let s := getSq d i
    [(F.cqSqstat_ACTIVE, b2n (sqEn d i && !s.stopped && !s.rst)), (F.cqSqstat_STOPPED, b2n s.stopped),
      (F.cqSqstat_INFLIGHT, s.inflight), (F.cqSqstat_HEAD, s.head)]
  | .cqCqstat =>
    let c := getCqq d i
    [(F.cqCqstat_ACTIVE, b2n (cqEn d i)), (F.cqCqstat_FULL, b2n (!c.waiting.isEmpty)), (F.cqCqstat_PHASE, b2n c.phase),
      (F.cqCqstat_TAIL, c.tail)]
  | .ordEqstat => [(F.ordEqstat_OPEN, (d.ord.eq.filter fun e => !e.resolved).length), (F.ordEqstat_COUNT, d.ord.eq.length)]
  | .ordEqword => [(⟨.ordEqword, 31, 0⟩, eqWord d i)]
  | .ordHold => [(F.ordHold_HAS_CUSTODY, b2n (!pantryDurable d)), (F.ordHold_PEAK, d.ord.holdPeak), (F.ordHold_HELD, heldCount d)]
  | .ordQuiesce => [(F.ordQuiesce_READY, b2n d.ord.ready)]
  | .ordEpoch => [(F.ordEpoch_EPOCH, if d.mode.restored || d.mode.restoring then d.ord.epoch else 0)]
  | .ordEpochDur => [(F.ordEpochDur_EPOCH, if d.mode.restored || d.mode.restoring then durableEpoch d else 0)]
  | .dmaCtxstat =>
    let c := getCtx d i
    [(F.dmaCtxstat_STATE, c.state), (F.dmaCtxstat_KICK_PEND, b2n c.kickPend), (F.dmaCtxstat_HOLD, c.hold.length),
      (F.dmaCtxstat_PEND, c.pend)]
  | .dmaCurLo => [(⟨.dmaCurLo, 31, 0⟩, (getCtx d i).cur)]
  | .dmaCurHi => [(⟨.dmaCurHi, 31, 0⟩, (getCtx d i).cur / 2 ^ 32)]
  | .dmaRem => [(F.dmaRem_REM, (getCtx d i).rem)]
  | .dmaOvfLo => [(⟨.dmaOvfLo, 31, 0⟩, maskOf 32 fun k => isSet d F.dmaCtxstat_REQ_OVERFLOW k)]
  | .dmaOvfHi => [(⟨.dmaOvfHi, 31, 0⟩, maskOf 32 fun k => isSet d F.dmaCtxstat_REQ_OVERFLOW (32 + k))]
  | .fifoStat =>
    let f := getFifo d i
    [(F.fifoStat_XOFF, b2n f.xoff), (F.fifoStat_BOUND, b2n (!f.bound.isEmpty)), (F.fifoStat_FILL, fifoFill f)]
  | .fifoPkt =>
    let f := getFifo d i
    [(F.fifoPkt_PKTS, min 0xFFFF f.pkts), (F.fifoPkt_C0_SLICES, min 255 f.shares.length)]
  | .fifoOvrLo => [(⟨.fifoOvrLo, 31, 0⟩, maskOf 32 fun k => isSet d F.fifoStat_OVERRUN k)]
  | .fifoOvrHi => [(⟨.fifoOvrHi, 31, 0⟩, maskOf 32 fun k => isSet d F.fifoStat_OVERRUN (32 + k))]
  | .xltMcstat => [(F.xltMcstat_BUSY, b2n d.xlt.mcBusy), (F.xltMcstat_DIRTY, (d.xlt.lines.filter fun l => l.2.dirty).length)]
  | .xltRing0 => match ringSel d with
    | some x => [(F.xltRing0_W, x.w), (F.xltRing0_GAP, x.gap)]
    | none => []
  | .xltRing1 => match ringSel d with
    | some x => [(F.xltRing1_KIND, (relocBits x).1), (F.xltRing1_PHASE, (relocBits x).2), (F.xltRing1_WAIT_OPEN, b2n x.waitOpen),
        (F.xltRing1_RESETS, min 0xFFFF x.resets)]
    | none => []
  | .wearRq => [(F.wearRq_NOW, d.xlt.refresh.length)]
  | .wearFold => [(F.wearFold_FOLD_PENDING, min 0xFFFF d.xlt.folds.length)]
  | .wearSpare => [(F.wearSpare_LOW_SPARE, b2n d.xlt.lowSpare), (F.wearSpare_MIN_SPARES, min 0xFFFF d.xlt.minSpares)]
  | .rrcAge => [(F.rrcAge_MINUTES, d.ageMin % 2 ^ 32)]
  | .rrcCorr0 => [(⟨.rrcCorr0, 31, 0⟩, (nget 0 d.rrc.corr (corrKey d)).toNat % 2 ^ 32)]
  | .rrcCorr1 => [(⟨.rrcCorr1, 31, 0⟩, (nget 0 d.rrc.corr (corrKey d)).toNat / 2 ^ 32)]
  | .hupStat => [(F.hupStat_STAGE_FAULT, b2n (inputOn d 4))]
  | .hupEsr => [(F.hupEsr_AGE_H, healthAge d)]
  | .hupRestore => [(F.hupRestore_WAITING, b2n d.hup.waiting),
      (F.hupRestore_REGIONS, match d.hup.restore with | some m => m.regions.length | none => 0)]
  | .loopCdata => [(F.loopCdata_DATA, imgW (getSlot d (getF d F.loopCsel_SLOT)) (getF d F.loopCsel_W))]
  | .loopTrdata => [(F.loopTrdata_SAMPLE,
      wrapI 16 ((nget [] (getSlot d (getF d F.loopTrsel_SLOT)).trace (getF d F.loopTrsel_CH)).getD (getF d F.loopTrsel_INDEX) 0))]
  | .loopSum => [(F.loopSum_SLOT, maskOf 16 fun s => decide (getReg d .loopStat s &&& 0x1E700FFF ≠ 0))]
  | .thmCht => [(⟨.thmCht, 31, 0⟩, chtValue d i)]
  | .memLogw0 => [(⟨.memLogw0, 31, 0⟩, memLogWord d 0)]
  | .memLogw1 => [(⟨.memLogw1, 31, 0⟩, memLogWord d 1)]
  | .hkLoad => [(F.hkLoad_SHED, d.hk.shed), (F.hkLoad_NOW, min 0xFF d.hk.load)]
  | .hkThrottle => [(F.hkThrottle_ACTIVE, b2n (throttled d))]
  | .hkWdstat => [(F.hkWdstat_CONSEC, min 3 d.ret.hkResets)]
  | .hkMbstat => [(⟨.hkMbstat, 31, 0⟩, ((List.range 16).map fun s => mbState d s % 4 * 4 ^ s).sum)]
  | .fijCtl => [(F.fijCtl_ACTIVE, b2n (fijActive d)), (F.fijCtl_STOPPED, b2n d.fij.stopped)]
  | .dbgTrcfg => [(F.dbgTrcfg_FULL, b2n d.fij.full)]
  | .dbgTrsel => [(F.dbgTrsel_COUNT, d.fij.trace.length)]
  | .dbgTrdataLo => [(⟨.dbgTrdataLo, 31, 0⟩, traceHalf d false)]
  | .dbgTrdataHi => [(⟨.dbgTrdataHi, 31, 0⟩, traceHalf d true)]
  | .hatchLinkStat => [(F.hatchLinkStat_UP, b2n (linkUp d i))]
  | .panLayout => if d.cfg.done then [(F.panLayout_FIFO, poolBytes d / 65536), (F.panLayout_C0, shareBytes d / 65536),
      (F.panLayout_PB, pbBytes d / 65536)] else []
  | .chnStat =>
    let h := getChan d i
    [(F.chnStat_UP, b2n h.up), (F.chnStat_DEGRADED, b2n h.degraded), (F.chnStat_FAILED, b2n h.failed), (F.chnStat_EXT, b2n h.ext),
      (F.chnStat_SIG, h.sig), (F.chnStat_CUR_RATE, h.rate)]
  | .chnVolstat => [(F.chnVolstat_ID_FAIL, (getChan d i).idFail.toNat), (F.chnVolstat_PRESENT, (getChan d i).present.toNat)]
  | .seqStat =>
    let h := getChan d i
    [(F.seqStat_RUN, b2n h.running.isSome), (F.seqStat_PATCHED, b2n (!h.patchMap.isEmpty)), (F.seqStat_PATCH_LOST, b2n h.patchLost),
      (F.seqStat_ACTIVE, h.recs.length), (F.seqStat_CUR_LUN, h.curLun), (F.seqStat_PC, h.pc)]
  | .seqFaultinfo => [(F.seqFaultinfo_LUN, (faultInfo d i).1), (F.seqFaultinfo_PC, (faultInfo d i).2)]
  | .seqPatch => [(F.seqPatch_WORDS, (getChan d i).wordCount), (F.seqPatch_MAPS, (getChan d i).patchMap.length)]
  | .seqIndet => [(F.seqIndet_INDET, maskOf 32 fun l => lunIndet d (32 * i + l))]
  | .seqRec => [(⟨.seqRec, 31, 0⟩, recWord d i)]
  | _ => []

/-- The value that a read of instance i of a register returns: write-only and reserved bits read zero (R4). -/
def regValue (d : Dev) (r : Reg) (i : Nat) : Nat :=
  if regAbsent d r i then 0
  else
    let live := liveFields d r i
    let raw := live.foldl (fun v p => nput_bits v p.1.hi p.1.lo p.2) (getReg d r i)
    (r.fields.map fun f => if f.acc = .wo then 0 else nbits raw f.hi f.lo * 2 ^ f.lo).sum

/-- RC fields return to their reset values (Table SCO-3). -/
def readClear (r : Reg) (i : Nat) (d : Dev) : Dev :=
  each r.fields (fun d f => if f.acc = .rc then setF d (rowRef r f) (nbits (resetVal d.build r i) f.hi f.lo) i else d) d

/-- What a read changes besides. -/
def readEffect (r : Reg) (i : Nat) (d : Dev) : Dev :=
  match r with
  | .loopCdata => let w := getF d F.loopCsel_W; setF d F.loopCsel_W (if 47 ≤ w then 0 else w + 1)
  | .loopTrdata => setF d F.loopTrsel_INDEX (getF d F.loopTrsel_INDEX + 1)
  | .dbgTrdataHi => setF d F.dbgTrsel_INDEX (getF d F.dbgTrsel_INDEX + 1)
  | .cdcUtil =>
    let k := 32 * regOff .cdcUtil 0
    modCodec { d with mirrorSent := nerase (nerase d.mirrorSent k) (k + 16) } fun k => { k with hardBusy := 0, softBusy := 0, utilFrom := d.now }
  | .ordHold => modOrd d fun o => { o with holdPeak := 0 }
  | .pwrInstat => if 5 ≤ i then { d with fresh := d.fresh + 1 } else d
  | _ => d

/-- A read of instance i of a register: its value, and the state after. -/
def regRead (r : Reg) (i : Nat) (d : Dev) : Nat × Dev :=
  if regAbsent d r i then (0, d) else (regValue d r i, readEffect r i (readClear r i d))

/-! ### Pairs (R31) -/

/-- The offsets that an access of pair k selects, lower first. -/
def pairOffs (k : Nat) (hsel : BitVec 2) : List (Nat × Bool) :=
  (if hsel.getLsbD 0 then [(8 * k, false)] else []) ++ (if hsel.getLsbD 1 then [(8 * k + 4, true)] else [])

/-- The half of a data word. -/
def halfOf (data : DWord) (hi : Bool) : Nat := if hi then data.toNat / 2 ^ 32 else data.toNat % 2 ^ 32

/-- The word with a half's value in place. -/
def withHalf (hi : Bool) (v : Nat) : DWord := BitVec.ofNat 64 (if hi then v % 2 ^ 32 * 2 ^ 32 else v % 2 ^ 32)

/-- The registers at offsets of a pair are written; an offset that holds none ignores the write. -/
def offsWrite (ps : List (Nat × Bool)) (data : DWord) (d : Dev) : Dev :=
  each ps (fun d p => match regAt p.1 with
    | some (r, i) => regWrite r i (halfOf data p.2) d
    | none => d) d

/-- The selected registers of a pair are written. -/
def pairWrite (k : Nat) (hsel : BitVec 2) (data : DWord) (d : Dev) : Dev := offsWrite (pairOffs k hsel) data d

/-- The selected registers of a pair are read. -/
def pairRead (k : Nat) (hsel : BitVec 2) (d : Dev) : DWord × Dev :=
  (pairOffs k hsel).foldl (fun a p => match regAt p.1 with
    | some (r, i) => let (v, d) := regRead r i a.2; (a.1 ||| withHalf p.2 v, d)
    | none => a) (0, d)

/-! ### Paths (Table PRT-4, Table MAP-1) -/

/-- The one response of an access. -/
def rpEnd (data : DWord) (err : Bool) (d : Dev) : Dev := { d with rp := { last := some (data, err), wait := none } }

/-- Registers that the AO domain answers a read of, in DORMANT and under SYS_RST_n (R86, R465). -/
def aoReadable (off : Nat) : Bool := decide (off = 0 ∨ off = 4 ∨ off = 0x10)

/-- Offsets whose writes the AO domain takes in DORMANT: doorbells and PRM_PWR_MODE_REQ (R86). -/
def aoWritable (off : Nat) : Bool := decide ((0x48000 ≤ off ∧ off < 0x48200) ∨ off = 0x20000)

/-- An access that the AO domain answers: a half that it does not serve is an error. -/
def aoRead (k : Nat) (hsel : BitVec 2) (d : Dev) : Dev :=
  let ps := pairOffs k hsel
  let v := ps.foldl (fun (a : DWord) p => if aoReadable p.1 then
    (match regAt p.1 with | some (r, i) => a ||| withHalf p.2 (regValue d r i) | none => a) else a) 0
  rpEnd v (ps.any fun p => !aoReadable p.1) d

/-- A write that the AO domain answers. -/
def aoWrite (k : Nat) (hsel : BitVec 2) (data : DWord) (d : Dev) : Dev :=
  let ps := pairOffs k hsel
  if inSysReset d then rpEnd 0 true d
  else
    rpEnd 0 (ps.any fun p => !aoWritable p.1) (each ps (fun d p =>
      if aoWritable p.1 then (match regAt p.1 with | some (r, i) => regWrite r i (halfOf data p.2) d | none => d) else d) d)

/-- A register of a Mirror window that host firmware writes by way of the media side (R436). -/
def isMirrorRw (off : Nat) : Bool :=
  decide ((0xA0000 ≤ off ∧ off < 0xE0000) ∨ (0x160000 ≤ off ∧ off < 0x170000)) &&
    match regAt off with
    | some (r, _) => decide (rwMask r ≠ 0)
    | none => false

/-- A write in the SoC-side windows: its effect; a Mirror register's takes effect on the media side, by a CTRL_REQ to every powered
group, whose answers the response waits for. With no group up it is held in the mirror (R436). -/
def socWrite (k : Nat) (hsel : BitVec 2) (data : DWord) (d : Dev) : Dev :=
  let gs := liveGroups d
  let ms := if gs.isEmpty then [] else (pairOffs k hsel).filter fun p => isMirrorRw p.1
  let d := offsWrite ((pairOffs k hsel).filter fun p => !ms.contains p) data d
  if ms.isEmpty then rpEnd 0 false d
  else
    let d := { d with rp := { d.rp with wait := some { write := true, left := ms.length * gs.length, data := 0 } } }
    each ms (fun d p => each gs (fun d g =>
      hsend g 0 (.ctrlReq (.mirror p.1 (BitVec.ofNat 32 (halfOf data p.2)) (gs.head? == some g))) d) d) d

/-- A read in the SoC-side windows. -/
def socRead (k : Nat) (hsel : BitVec 2) (d : Dev) : Dev := let (v, d) := pairRead k hsel d; rpEnd v false d

/-- An access to the window of channel c: carried as a CTRL_REQ where its group is up (Table PRT-4). Offsets that hold no register read
zero in every case (R435). -/
def chanAccess (c k : Nat) (hsel : BitVec 2) (write : Bool) (b : CtrlBody) (d : Dev) : Dev :=
  if decide (d.build.channels ≤ c) || (pairOffs k hsel).all fun p => (regAt p.1).isNone then rpEnd 0 false d
  else if !linkUp d (groupOf c) then rpEnd 0 true d
  else hsend (groupOf c) 0 (.ctrlReq b) { d with rp := { d.rp with wait := some { write := write, left := 1, data := 0 } } }

/-- The window of an offset. -/
inductive PortWindow where
  | soc | chan (c : Nat) | none
  deriving DecidableEq, Repr

def windowOf (off : Nat) : PortWindow :=
  if off < 0x170000 then .soc
  else if 0x200000 ≤ off ∧ off < 0x400000 then .chan ((off - 0x200000) / 0x8000)
  else .none

/-- The port takes an access: it answers, and no earlier access waits for its response. -/
def portReady (d : Dev) : Bool := d.pins.poHigh && decide (d.mode.mode ≠ .off) && d.rp.wait.isNone

/-- REGISTER_WRITE of pair k. -/
def portWriteDev (k : Nat) (hsel : BitVec 2) (data : DWord) (d : Dev) : Dev :=
  let k := k % 2 ^ 21
  if !portReady d then d
  else if inSysReset d || decide (d.mode.mode = .dormant) then aoWrite k hsel data d
  else match windowOf (8 * k) with
    | .soc => socWrite k hsel data d
    | .chan c => chanAccess c k hsel true (.chanWrite k hsel data) d
    | .none => rpEnd 0 true d

/-- REGISTER_WRITE (R30 to R32). -/
def execRegisterWrite (k : Nat) (hsel : BitVec 2) (data : DWord) (st : State) : Host.Outcome State Fault Refusal :=
  onDev (portWriteDev k hsel data) st

/-- REGISTER_READ of pair k. -/
def portReadDev (k : Nat) (hsel : BitVec 2) (d : Dev) : Dev :=
  let k := k % 2 ^ 21
  if !portReady d then d
  else if inSysReset d || decide (d.mode.mode = .dormant) then aoRead k hsel d
  else match windowOf (8 * k) with
    | .soc => socRead k hsel d
    | .chan c => chanAccess c k hsel false (.chanRead k hsel) d
    | .none => rpEnd 0 true d

/-- REGISTER_READ (R30 to R32). -/
def execRegisterRead (k : Nat) (hsel : BitVec 2) (st : State) : Host.Outcome State Fault Refusal :=
  onDev (portReadDev k hsel) st

/-! ### CTRL_REQ and CTRL_RESP (R32, R436) -/

/-- What the media side of group g does with a CTRL_REQ. -/
def ctrlReqDev (g : Nat) (b : CtrlBody) (d : Dev) : Dev :=
  match b with
  | .chanRead k hsel => let (v, d) := pairRead k hsel d; hsend g 1 (.ctrlResp k v) d
  | .chanWrite k hsel data => hsend g 1 (.ctrlResp k 0) (pairWrite k hsel data d)
  | .mirror off v first => hsend g 1 (.ctrlResp 0 0) (mirrorTake off v first d)
  | .isolate l => isolArrive l d
  | .cal c kind => calTrigger c kind d
  | .thr s l k t => hsend g 1 (.ctrlResp (thrMark s) (thrEntry d l k t)) d

def isCtrlReq : MsgBody → Bool | .ctrlReq _ => true | _ => false
def isCtrlResp : MsgBody → Bool | .ctrlResp _ _ => true | _ => false

/-- CTRL_REQ (R32). -/
def execCtrlReq (g seq : Nat) (crc : BitVec 16) (st : State) : Host.Outcome State Fault Refusal :=
  onDev (deliver g 0 seq crc isCtrlReq fun b d => match b with | .ctrlReq c => ctrlReqDev g c d | _ => d) st

/-- CTRL_RESP (R32). -/
def execCtrlResp (g seq : Nat) (crc : BitVec 16) (st : State) : Host.Outcome State Fault Refusal :=
  onDev (deliver g 1 seq crc isCtrlResp fun b d => match b with | .ctrlResp k data => ctrlAnswer k data d | _ => d) st

end Sys2Proof.Machine
end

