-- ==== Sys2Proof/Machine/Load.lean ====
section
/-! DEFINITION. Machine/Load.lean: the end of LOADING (R52 to R66, R438, R463 of spec/03_startup.md). -/

namespace Sys2Proof.Machine

open Sys2Proof

/-- The loader is at work. -/
def loading (d : Dev) : Bool := running d && decide (d.mode.mode = .loading) && !d.cfg.done && !d.cfg.failed

/-- CFG_WIP_POLL_TIMEOUT: WIP is still set after 4 s, and XSPI_RESET_n is pulsed (R52). -/
def wipTimeoutDev (d : Dev) : Dev :=
  if loading d && !d.cfg.wipForced then
    modCfg (modPins d fun p => { p with xspiResetPulses := p.xspiResetPulses + 1 }) fun c => { c with wipForced := true }
  else d

/-- CFG_WIP_POLL_TIMEOUT (R52). -/
def execCfgWipPollTimeout (st : State) : Host.Outcome State Fault Refusal := onDev wipTimeoutDev st

/-- The REG_INIT pairs, in order (R463). -/
def regInit (ps : List (Nat × Nat)) (d : Dev) : Dev :=
  each ps (fun d p => match regAt p.1 with | some (r, i) => regWrite r i p.2 d | none => d) d

/-- A slot has passed: its sections are applied, REG_INIT after them, every channel group is powered, and AWAIT-PATCH follows
(R438, R463, Table BOT-1 step 10). -/
def loadApply (a : FlashAns) (r : LoadResult) (secs : List Section) (d : Dev) : Dev :=
  let img := slice ((flashImgs a r.slot).headD []) 0 0x80
  let tail := (flashImgs a r.slot).headD []
  let body := secs.flatMap fun s => sectionHead s ++ s.val ++ natLe 4 s.scrc ++ s.tail
  let d := applySections secs d
  let d := modCfg d fun c =>
    { c with done := true, fallback := r.fallback, slot := r.slot, cause := r.cause, gen := recGen (flashRec a r.slot),
             serial := leAt img 0x18 4, image := img ++ body ++ tail.drop (0x80 + body.length) }
  let d := modRet d fun x => { x with activeSlot := r.slot }
  let d := regInit ((ofType secs 10).flatMap pairsOf) d
  let d := each (List.range d.build.groups) (fun d g => modGroup d g fun x => { x with stage := .on }) d
  goMode .awaitPatch 9 d

/-- The highest XSPI_SCK in MHz: 50 on single SPI; on xSPI 200 where VAUX lies within 1.62 to 1.98 V, else 100 (R49, R445). -/
def sckLimit (d : Dev) : Nat :=
  if d.pins.straps.getLsbD 1 then 50 else if 1620 ≤ d.pins.vaux ∧ d.pins.vaux ≤ 1980 then 200 else 100

/-- What SFDP and the commit records give: the density, 4-byte addressing above 16 MiB, the clock, each slot's size and GEN (R52 to
R54, R445). -/
def flashFacts (a : FlashAns) (d : Dev) : Dev :=
  let gen := fun s => if recValid (flashRec a s) then some (recGen (flashRec a s)) else none
  modCfg d fun c =>
    { c with slotBytes := flashSlot a.density, density := a.density, addr4 := decide (16777216 < a.density), sckMhz := sckLimit d,
             genA := gen 0, genB := gen 1 }

/-- CFG_LOAD_COMPLETE: the configuration flash has answered, or does not (R55, R63, R66). -/
def loadDoneDev (ans : Option FlashAns) (d : Dev) : Dev :=
  if !loading d then d
  else match ans with
    | none => modCfg d fun c => { c with failed := true, cause := 0x10 }
    | some a =>
      let d := flashFacts a d
      let r := loadSlots d a
      match r.secs with
      | none => modCfg d fun c => { c with failed := true, slot := r.slot, cause := r.cause }
      | some secs => loadApply a r secs d

/-- CFG_LOAD_COMPLETE (R63). -/
def execCfgLoadComplete (ans : Option FlashAns) (st : State) : Host.Outcome State Fault Refusal := onDev (loadDoneDev ans) st

end Sys2Proof.Machine
end

