-- ==== Sys2Proof/Machine/Poison.lean ====
section
/-! DEFINITION. Machine/Poison.lean: what an uncorrectable word does to what it holds (R398, Table MEM-2), and the scrubbers' reads
(R401). The words of the patch RAM, of the operation records, of the housekeeper RAM and of the retained register file are read where
those are used. DESIGN CHOICE (log 108): the other memories answer when the word is found. -/

namespace Sys2Proof.Machine

open Sys2Proof

/-- The codeword goes back to step 0 of the ladder: its page is read again with the predicted offsets (R192, Table MEM-2). -/
def cwAgain (i : Nat) (d : Dev) : Dev :=
  match getCw d i with
  | none => d
  | some w =>
    let cw := cwBytes d w.lun
    let ofs := if profFeat d w.lun 5 then predict d w.lun (cwBlk d w) w.slc else []
    let s := packOffs ofs
    let o : Op := { lun := w.lun, cls := w.cls, cop := 0, col := w.k * cw, row := w.row, count := cw, flags := b2n w.slc * 16,
                    offs := s.1, offsHi := s.2, use := .ladder i 0 }
    let (t, d) := intPush o d
    let w := { w with st := .rowWait, step := 0, rowsTried := [], bestOfs := [], bestChecks := none, bestRow := none, strobes := [],
                      soft := none, src := [], inTable := false, iters := 0, ofs := ofs, lop := some t }
    slotsSweep (takeSoft (takeHard (intChoose { o with tag := t } (modCw i (fun _ => w) d))))

/-- The codeword that byte p of the pantry belongs to, of a read that has not settled it. -/
def cwAt (d : Dev) (p : Nat) : Option Nat :=
  (d.codec.slots.find? fun s => !s.2.prog && decide (s.2.addr ≤ p ∧ p < s.2.addr + (s.2.hi - s.2.lo) * cwBytes d s.2.lun)).bind fun s =>
    let n := s.2.lo + (p - s.2.addr) / cwBytes d s.2.lun
    (d.codec.cws.find? fun w => decide (w.2.tag = s.2.tag ∧ w.2.index = n) && decide (w.2.st = .hardQ) || w.2.src.contains s.2.tag).map (·.1)

/-- An uncorrectable word of the pantry at byte p: a FIFO word is noted, a codeword is read again, a plane page in a program slot is encoded
again before DOUT (Table MEM-2). -/
def pantryPoison (p : Nat) (d : Dev) : Dev :=
  if p < d.codec.fifoBytes + d.codec.c0Bytes then
    each d.dma.fifos (fun d f => modFifo f.1 (fun f1 =>
      { f1 with words := f1.words.map fun w => if wordAddr d f.1 w.1 = p / 64 * 64 then (w.1, { w.2 with sick := true }) else w }) d) d
  else
    let d := match d.codec.slots.find? fun s => s.2.prog && decide (s.2.addr ≤ p ∧ p < s.2.addr + s.2.data.length) with
      | some s => pantryClean s.2.addr s.2.data.length d
      | none => d
    match cwAt d p with
    | some i => cwAgain i d
    | none => d

/-- An uncorrectable word of the map cache: its line is filled again, or, where it is dirty, rebuilt, which gives it the entries that it
held (Table MEM-2). -/
def linePoison (i a : Nat) (d : Dev) : Dev :=
  match (d.xlt.lines.filter (·.2.valid))[Config.wordHolds 1 i a]? with
  | some l => if l.2.dirty then d else modLine l.1 (fun x => { x with valid := false }) d
  | none => d

/-- Both copies of a word of the queue state are lost: the queue is stopped (Table MEM-2). -/
def queuePoison (a : Nat) (d : Dev) : Dev :=
  let q := queueOf a
  let d := queueHeal q d
  if q < 64 then fetchFailed q (getSq d q).period d
  else eqNote 0x11 0xFFF (q - 64) 6 (modCqq (q - 64) (fun x => { x with stopped := true }) d)

/-- The response of a memory to an uncorrectable word (Table MEM-2). -/
def poisonAct (m i a : Nat) (d : Dev) : Dev :=
  let good := cleanWords fun w => decide (w = (m, i, a))
  if m = 0 then pantryPoison (pantryAddr d i a) d
  else if m = 1 then linePoison i a (good d)
  else if m = 6 then modRrc (good d) fun r => { r with table := nset {} r.table (64 * (32 * i + a / 64) + a % 64) {} }
  else if m = 7 then
    match (d.codec.cws.filter fun w => w.2.inTable || decide (w.2.st = .hard ∨ w.2.st = .soft))[Config.wordHolds 7 i a]? with
    | some w => cwAgain w.1 (good d)
    | none => good d
  else if m = 8 then
    modSlot (good d) i fun x => { x with trace := x.trace.map fun t => (t.1, t.2.set ((a + 1024 - x.traceAt) % 1024) 0) }
  else if m = 9 then (if poisoned d 9 (1 - i) a then queuePoison a d else d)
  else if 10 ≤ m then good d
  else d

/-- SCRUB_READ: the next line is read, and an uncorrectable word has its response. -/
def scrubPoison (m i w k : Nat) (d : Dev) : Dev :=
  let a := nget 0 d.mem.scrubAt (64 * m + i) * lineWords m + w
  let hit := decide (i < memInsts d m) && scrubRuns d m i && decide (k = 3 ∧ w < lineWords m)
  let d := scrubDev m i w k d
  if hit then poisonAct m i a d else d

/-- SCRUB_READ (R397, R398, R401). -/
def execScrubRead (memid inst w kind : Nat) (st : State) : Host.Outcome State Fault Refusal :=
  onDev (scrubPoison memid inst w kind) st

end Sys2Proof.Machine
end

