-- ==== Sys2Proof/Machine/Dispatch.lean ====
section
/-! DEFINITION. Machine/Dispatch.lean: the one dispatch from a command to its meaning. -/

namespace Sys2Proof.Machine

/-- The effect of a command on everything but the queue of waiting commands. -/
def exec (i : Instr) (s : State) : Host.Outcome State Fault Refusal :=
  match i with
  | .poRstAssert => Sys2Proof.Machine.execPoRstAssert s
  | .poRstRelease straps nodeId up => Sys2Proof.Machine.execPoRstRelease straps nodeId up s
  | .sysRstAssert => Sys2Proof.Machine.execSysRstAssert s
  | .sysRstRelease bistFail => Sys2Proof.Machine.execSysRstRelease bistFail s
  | .sysRstDeferredEffect => Sys2Proof.Machine.execSysRstDeferredEffect s
  | .pfailLatch => Sys2Proof.Machine.execPfailLatch s
  | .pfSnsTrip => Sys2Proof.Machine.execPfSnsTrip s
  | .burstWarnAssert => Sys2Proof.Machine.execBurstWarnAssert s
  | .burstWarnDeassert => Sys2Proof.Machine.execBurstWarnDeassert s
  | .epochSyncEdge => Sys2Proof.Machine.execEpochSyncEdge s
  | .stageFaultAssert => Sys2Proof.Machine.execStageFaultAssert s
  | .stageFaultDeassert => Sys2Proof.Machine.execStageFaultDeassert s
  | .tachEdge j => Sys2Proof.Machine.execTachEdge j s
  | .inputStuckTimeout n => Sys2Proof.Machine.execInputStuckTimeout n s
  | .inputRearmElapsed n => Sys2Proof.Machine.execInputRearmElapsed n s
  | .inputFilterWrite n v => Sys2Proof.Machine.execInputFilterWrite n v s
  | .registerWrite k hsel data => Sys2Proof.Machine.execRegisterWrite k hsel data s
  | .mpCreditReturn port => Sys2Proof.Machine.execMpCreditReturn port s
  | .mpReadResponse port tag gen beat st spar data => Sys2Proof.Machine.execMpReadResponse port tag gen beat st spar data s
  | .mpWriteAck port tag gen st => Sys2Proof.Machine.execMpWriteAck port tag gen st s
  | .mpResponseTimeout port tag => Sys2Proof.Machine.execMpResponseTimeout port tag s
  | .mpReissue port tag => Sys2Proof.Machine.execMpReissue port tag s
  | .mpPurposeFailEnd id => Sys2Proof.Machine.execMpPurposeFailEnd id s
  | .mpPdreqRise port => Sys2Proof.Machine.execMpPdreqRise port s
  | .mpWithdrawComplete port => Sys2Proof.Machine.execMpWithdrawComplete port s
  | .mpPdreqFall port => Sys2Proof.Machine.execMpPdreqFall port s
  | .mpWithdrawTimeout port => Sys2Proof.Machine.execMpWithdrawTimeout port s
  | .drqEdge k => Sys2Proof.Machine.execDrqEdge k s
  | .splStatusWord w => Sys2Proof.Machine.execSplStatusWord w s
  | .splStatusTimeout => Sys2Proof.Machine.execSplStatusTimeout s
  | .brakeRefresh => Sys2Proof.Machine.execBrakeRefresh s
  | .link g stream kind seq => Sys2Proof.Machine.execLink g stream kind seq s
  | .linkReset g stream => Sys2Proof.Machine.execLinkReset g stream s
  | .opReq g seq crc => Sys2Proof.Machine.execOpReq g seq crc s
  | .opResult g seq crc => Sys2Proof.Machine.execOpResult g seq crc s
  | .wdata g seq crc => Sys2Proof.Machine.execWdata g seq crc s
  | .rdata g seq crc => Sys2Proof.Machine.execRdata g seq crc s
  | .credit g up seq crc => Sys2Proof.Machine.execCredit g up seq crc s
  | .fifoState g seq crc => Sys2Proof.Machine.execFifoState g seq crc s
  | .release g seq crc => Sys2Proof.Machine.execRelease g seq crc s
  | .event g seq crc => Sys2Proof.Machine.execEvent g seq crc s
  | .ctrlReq g seq crc => Sys2Proof.Machine.execCtrlReq g seq crc s
  | .ctrlResp g seq crc => Sys2Proof.Machine.execCtrlResp g seq crc s
  | .patch g seq crc => Sys2Proof.Machine.execPatch g seq crc s
  | .quiesce g up seq crc => Sys2Proof.Machine.execQuiesce g up seq crc s
  | .holdupMessage g up seq crc => Sys2Proof.Machine.execHoldupMessage g up seq crc s
  | .stats g seq crc => Sys2Proof.Machine.execStats g seq crc s
  | .fault g up seq crc => Sys2Proof.Machine.execFault g up seq crc s
  | .modeReqNone run => Sys2Proof.Machine.execModeReqNone run s
  | .modeReqDormant run => Sys2Proof.Machine.execModeReqDormant run s
  | .modeReqStandby run => Sys2Proof.Machine.execModeReqStandby run s
  | .modeReqWarm run => Sys2Proof.Machine.execModeReqWarm run s
  | .modeReqServe run => Sys2Proof.Machine.execModeReqServe run s
  | .modeReqIngest run => Sys2Proof.Machine.execModeReqIngest run s
  | .modeReqDrain run => Sys2Proof.Machine.execModeReqDrain run s
  | .modeReqMaintain run => Sys2Proof.Machine.execModeReqMaintain run s
  | .modeReqSafe run => Sys2Proof.Machine.execModeReqSafe run s
  | .modeReqFactory run => Sys2Proof.Machine.execModeReqFactory run s
  | .warmIdleExpiry => Sys2Proof.Machine.execWarmIdleExpiry s
  | .stbyIdleExpiry => Sys2Proof.Machine.execStbyIdleExpiry s
  | .runDrainComplete => Sys2Proof.Machine.execRunDrainComplete s
  | .descentComplete => Sys2Proof.Machine.execDescentComplete s
  | .wakeComplete bring fails img => Sys2Proof.Machine.execWakeComplete bring fails img s
  | .mediaRestoreComplete => Sys2Proof.Machine.execMediaRestoreComplete s
  | .cfgWipPollTimeout => Sys2Proof.Machine.execCfgWipPollTimeout s
  | .cfgLoadComplete ans => Sys2Proof.Machine.execCfgLoadComplete ans s
  | .patchGo len => Sys2Proof.Machine.execPatchGo len s
  | .capsuleCheckComplete => Sys2Proof.Machine.execCapsuleCheckComplete s
  | .patchDone => Sys2Proof.Machine.execPatchDone s
  | .patchWaitExpiry => Sys2Proof.Machine.execPatchWaitExpiry s
  | .hkResetCountClear => Sys2Proof.Machine.execHkResetCountClear s
  | .gateRequest g => Sys2Proof.Machine.execGateRequest g s
  | .gateHandshakeComplete g => Sys2Proof.Machine.execGateHandshakeComplete g s
  | .gateClear g byHost => Sys2Proof.Machine.execGateClear g byHost s
  | .gateForce g => Sys2Proof.Machine.execGateForce g s
  | .gateTimeout g => Sys2Proof.Machine.execGateTimeout g s
  | .rbRise ch e => Sys2Proof.Machine.execRbRise ch e s
  | .uNop ch => Sys2Proof.Machine.execUNop ch s
  | .uCmd ch => Sys2Proof.Machine.execUCmd ch s
  | .uAdr ch => Sys2Proof.Machine.execUAdr ch s
  | .uDout ch => Sys2Proof.Machine.execUDout ch s
  | .uDin ch lun => Sys2Proof.Machine.execUDin ch lun s
  | .uWait ch => Sys2Proof.Machine.execUWait ch s
  | .uPoll ch lun => Sys2Proof.Machine.execUPoll ch lun s
  | .uBr ch => Sys2Proof.Machine.execUBr ch s
  | .uBrc ch => Sys2Proof.Machine.execUBrc ch s
  | .uLdi ch => Sys2Proof.Machine.execULdi ch s
  | .uLdp ch => Sys2Proof.Machine.execULdp ch s
  | .uAdd ch => Sys2Proof.Machine.execUAdd ch s
  | .uAnd ch => Sys2Proof.Machine.execUAnd ch s
  | .uShl ch => Sys2Proof.Machine.execUShl ch s
  | .uSetf ch => Sys2Proof.Machine.execUSetf ch s
  | .uSel ch => Sys2Proof.Machine.execUSel ch s
  | .uEvt ch => Sys2Proof.Machine.execUEvt ch s
  | .uYield ch => Sys2Proof.Machine.execUYield ch s
  | .uCommit ch => Sys2Proof.Machine.execUCommit ch s
  | .uEnd ch => Sys2Proof.Machine.execUEnd ch s
  | .uPhy ch res => Sys2Proof.Machine.execUPhy ch res s
  | .noYield ch => Sys2Proof.Machine.execNoYield ch s
  | .busTransferDone ch bytes => Sys2Proof.Machine.execBusTransferDone ch bytes s
  | .yieldWake ch lun => Sys2Proof.Machine.execYieldWake ch lun s
  | .abortRequest ch lun => Sys2Proof.Machine.execAbortRequest ch lun s
  | .copReadPage ch lun => Sys2Proof.Machine.execCopReadPage ch lun s
  | .copReadMulti ch lun => Sys2Proof.Machine.execCopReadMulti ch lun s
  | .copCacheRead ch lun => Sys2Proof.Machine.execCopCacheRead ch lun s
  | .copSoftRead ch lun => Sys2Proof.Machine.execCopSoftRead ch lun s
  | .copProgram ch lun => Sys2Proof.Machine.execCopProgram ch lun s
  | .copProgramSlc ch lun => Sys2Proof.Machine.execCopProgramSlc ch lun s
  | .copProgramStep ch lun => Sys2Proof.Machine.execCopProgramStep ch lun s
  | .copErase ch lun => Sys2Proof.Machine.execCopErase ch lun s
  | .copSuspend ch lun => Sys2Proof.Machine.execCopSuspend ch lun s
  | .copResume ch lun => Sys2Proof.Machine.execCopResume ch lun s
  | .copReadStatus ch lun => Sys2Proof.Machine.execCopReadStatus ch lun s
  | .copGetFeat ch lun => Sys2Proof.Machine.execCopGetFeat ch lun s
  | .copSetFeat ch lun => Sys2Proof.Machine.execCopSetFeat ch lun s
  | .copResetLun ch lun => Sys2Proof.Machine.execCopResetLun ch lun s
  | .copReadId ch lun => Sys2Proof.Machine.execCopReadId ch lun s
  | .copReadParam ch lun => Sys2Proof.Machine.execCopReadParam ch lun s
  | .copZqCal ch lun => Sys2Proof.Machine.execCopZqCal ch lun s
  | .copTrain ch lun => Sys2Proof.Machine.execCopTrain ch lun s
  | .copRecover ch lun => Sys2Proof.Machine.execCopRecover ch lun s
  | .hardDecodeDone id r => Sys2Proof.Machine.execHardDecodeDone id r s
  | .softDecodeDone id r => Sys2Proof.Machine.execSoftDecodeDone id r s
  | .softPassIssue => Sys2Proof.Machine.execSoftPassIssue s
  | .recoveryEntryFree => Sys2Proof.Machine.execRecoveryEntryFree s
  | .packerDraw k => Sys2Proof.Machine.execPackerDraw k s
  | .encodeDone ch => Sys2Proof.Machine.execEncodeDone ch s
  | .archBandPoll lun temp => Sys2Proof.Machine.execArchBandPoll lun temp s
  | .archWaitExpiry unit => Sys2Proof.Machine.execArchWaitExpiry unit s
  | .archStallExpiry unit => Sys2Proof.Machine.execArchStallExpiry unit s
  | .errorEntryResolve eseq => Sys2Proof.Machine.execErrorEntryResolve eseq s
  | .eqAck v => Sys2Proof.Machine.execEqAck v s
  | .jrnlIntExpiry => Sys2Proof.Machine.execJrnlIntExpiry s
  | .relocationStart sg => Sys2Proof.Machine.execRelocationStart sg s
  | .relocationPhaseEnd sg => Sys2Proof.Machine.execRelocationPhaseEnd sg s
  | .refreshScan => Sys2Proof.Machine.execRefreshScan s
  | .gcStart ns => Sys2Proof.Machine.execGcStart ns s
  | .mapCheckpoint ns => Sys2Proof.Machine.execMapCheckpoint ns s
  | .zoneCheckpointTimer => Sys2Proof.Machine.execZoneCheckpointTimer s
  | .ageClockMinute => Sys2Proof.Machine.execAgeClockMinute s
  | .offtimeWrite v => Sys2Proof.Machine.execOfftimeWrite v s
  | .thresholdSweep lun row k => Sys2Proof.Machine.execThresholdSweep lun row k s
  | .thresholdSave => Sys2Proof.Machine.execThresholdSave s
  | .mcInvalidateLine => Sys2Proof.Machine.execMcInvalidateLine s
  | .mcInvalidateAll => Sys2Proof.Machine.execMcInvalidateAll s
  | .mcWriteBackAll => Sys2Proof.Machine.execMcWriteBackAll s
  | .mcEnableClear => Sys2Proof.Machine.execMcEnableClear s
  | .mcEnableSet => Sys2Proof.Machine.execMcEnableSet s
  | .sqDoorbell q v => Sys2Proof.Machine.execSqDoorbell q v s
  | .cqDoorbell q v => Sys2Proof.Machine.execCqDoorbell q v s
  | .sqFetch => Sys2Proof.Machine.execSqFetch s
  | .read arr => Sys2Proof.Machine.execRead arr s
  | .write arr => Sys2Proof.Machine.execWrite arr s
  | .append arr => Sys2Proof.Machine.execAppend arr s
  | .flush arr => Sys2Proof.Machine.execFlush arr s
  | .trim arr => Sys2Proof.Machine.execTrim arr s
  | .verify arr => Sys2Proof.Machine.execVerify arr s
  | .zoneOpen arr => Sys2Proof.Machine.execZoneOpen arr s
  | .zoneFinish arr => Sys2Proof.Machine.execZoneFinish arr s
  | .zoneReset arr => Sys2Proof.Machine.execZoneReset arr s
  | .zoneReport arr => Sys2Proof.Machine.execZoneReport arr s
  | .epochMark arr => Sys2Proof.Machine.execEpochMark arr s
  | .epochCommit arr => Sys2Proof.Machine.execEpochCommit arr s
  | .custodyRegister arr => Sys2Proof.Machine.execCustodyRegister arr s
  | .custodyRelease arr => Sys2Proof.Machine.execCustodyRelease arr s
  | .completionRelease arr => Sys2Proof.Machine.execCompletionRelease arr s
  | .cqAggTimer q => Sys2Proof.Machine.execCqAggTimer q s
  | .cqPendClear hi mask => Sys2Proof.Machine.execCqPendClear hi mask s
  | .sqEnable q => Sys2Proof.Machine.execSqEnable q s
  | .cqEnable q => Sys2Proof.Machine.execCqEnable q s
  | .sqReset q off => Sys2Proof.Machine.execSqReset q off s
  | .sqResetComplete q => Sys2Proof.Machine.execSqResetComplete q s
  | .cqReset q off => Sys2Proof.Machine.execCqReset q off s
  | .quiesceRequest => Sys2Proof.Machine.execQuiesceRequest s
  | .quiesceComplete => Sys2Proof.Machine.execQuiesceComplete s
  | .quiesceClear => Sys2Proof.Machine.execQuiesceClear s
  | .epochSetWrite v => Sys2Proof.Machine.execEpochSetWrite v s
  | .dmaBurstIssue port => Sys2Proof.Machine.execDmaBurstIssue port s
  | .dmaKick v => Sys2Proof.Machine.execDmaKick v s
  | .ctxPause k => Sys2Proof.Machine.execCtxPause k s
  | .pauseComplete k => Sys2Proof.Machine.execPauseComplete k s
  | .ctxResume k => Sys2Proof.Machine.execCtxResume k s
  | .ctxDisable k => Sys2Proof.Machine.execCtxDisable k s
  | .ctxEnable k => Sys2Proof.Machine.execCtxEnable k s
  | .energyEstimate => Sys2Proof.Machine.execEnergyEstimate s
  | .kettleHealthCheck => Sys2Proof.Machine.execKettleHealthCheck s
  | .healthGo => Sys2Proof.Machine.execHealthGo s
  | .healthPhaseEnd timeout a b => Sys2Proof.Machine.execHealthPhaseEnd timeout a b s
  | .holdupEnergyCheck usable committed => Sys2Proof.Machine.execHoldupEnergyCheck usable committed s
  | .holdupSaveComplete usedKtl usedSpl => Sys2Proof.Machine.execHoldupSaveComplete usedKtl usedSpl s
  | .holdupDone => Sys2Proof.Machine.execHoldupDone s
  | .restoreGo => Sys2Proof.Machine.execRestoreGo s
  | .restoreSkip => Sys2Proof.Machine.execRestoreSkip s
  | .adcFrameStart => Sys2Proof.Machine.execAdcFrameStart s
  | .adcConversionEnd adc entry raw => Sys2Proof.Machine.execAdcConversionEnd adc entry raw s
  | .adcOpenTest input raw => Sys2Proof.Machine.execAdcOpenTest input raw s
  | .loopSample slot wait dropped => Sys2Proof.Machine.execLoopSample slot wait dropped s
  | .loopOpen slot => Sys2Proof.Machine.execLoopOpen slot s
  | .loopClose slot => Sys2Proof.Machine.execLoopClose slot s
  | .loopTune slot => Sys2Proof.Machine.execLoopTune slot s
  | .loopCoeffWrite v => Sys2Proof.Machine.execLoopCoeffWrite v s
  | .loopTraceCfgWrite slot v => Sys2Proof.Machine.execLoopTraceCfgWrite slot v s
  | .analogTrip => Sys2Proof.Machine.execAnalogTrip s
  | .analogTripRelease => Sys2Proof.Machine.execAnalogTripRelease s
  | .dieTempPoll lun p1 => Sys2Proof.Machine.execDieTempPoll lun p1 s
  | .fanFail z => Sys2Proof.Machine.execFanFail z s
  | .calIntervalExpiry ch => Sys2Proof.Machine.execCalIntervalExpiry ch s
  | .calReqRecal ch all => Sys2Proof.Machine.execCalReqRecal ch all s
  | .calReqFull ch all => Sys2Proof.Machine.execCalReqFull ch all s
  | .calReqCheck ch all => Sys2Proof.Machine.execCalReqCheck ch all s
  | .calReqRef m => Sys2Proof.Machine.execCalReqRef m s
  | .calRunComplete ch r => Sys2Proof.Machine.execCalRunComplete ch r s
  | .calApplyGap ch => Sys2Proof.Machine.execCalApplyGap ch s
  | .calForceExpiry ch => Sys2Proof.Machine.execCalForceExpiry ch s
  | .scrubRead memid inst w kind => Sys2Proof.Machine.execScrubRead memid inst w kind s
  | .memLogClear => Sys2Proof.Machine.execMemLogClear s
  | .secLkeyWrite v => Sys2Proof.Machine.execSecLkeyWrite v s
  | .secKeyWrite v => Sys2Proof.Machine.execSecKeyWrite v s
  | .secCmdWrite v => Sys2Proof.Machine.execSecCmdWrite v s
  | .secOperandWrite which v => Sys2Proof.Machine.execSecOperandWrite which v s
  | .secSequenceTimeout => Sys2Proof.Machine.execSecSequenceTimeout s
  | .raise => Sys2Proof.Machine.execRaise s
  | .lower => Sys2Proof.Machine.execLower s
  | .lowerAccepted => Sys2Proof.Machine.execLowerAccepted s
  | .sanitizeComplete => Sys2Proof.Machine.execSanitizeComplete s
  | .nsSetkey => Sys2Proof.Machine.execNsSetkey s
  | .nsUnlock => Sys2Proof.Machine.execNsUnlock s
  | .nsLock => Sys2Proof.Machine.execNsLock s
  | .otpKeyhash => Sys2Proof.Machine.execOtpKeyhash s
  | .otpCapkey => Sys2Proof.Machine.execOtpCapkey s
  | .otpSigreq => Sys2Proof.Machine.execOtpSigreq s
  | .otpFloor => Sys2Proof.Machine.execOtpFloor s
  | .regWrite => Sys2Proof.Machine.execRegWrite s
  | .hkLoadUpdate load => Sys2Proof.Machine.execHkLoadUpdate load s
  | .hkShedStep => Sys2Proof.Machine.execHkShedStep s
  | .hkWatchdogExpiry poison => Sys2Proof.Machine.execHkWatchdogExpiry poison s
  | .mailboxDoorbell v => Sys2Proof.Machine.execMailboxDoorbell v s
  | .mailboxSlotFree mask => Sys2Proof.Machine.execMailboxSlotFree mask s
  | .echo slot => Sys2Proof.Machine.execEcho slot s
  | .hkInfo slot => Sys2Proof.Machine.execHkInfo slot s
  | .cfgUpdateBegin slot => Sys2Proof.Machine.execCfgUpdateBegin slot s
  | .cfgUpdateData slot => Sys2Proof.Machine.execCfgUpdateData slot s
  | .cfgUpdateCommit back => Sys2Proof.Machine.execCfgUpdateCommit back s
  | .cfgUpdateAbort slot => Sys2Proof.Machine.execCfgUpdateAbort slot s
  | .cfgReadSection slot => Sys2Proof.Machine.execCfgReadSection slot s
  | .statErase slot => Sys2Proof.Machine.execStatErase slot s
  | .statWear slot => Sys2Proof.Machine.execStatWear slot s
  | .statThreshold slot => Sys2Proof.Machine.execStatThreshold slot s
  | .statDieTemps slot => Sys2Proof.Machine.execStatDieTemps slot s
  | .statZone slot => Sys2Proof.Machine.execStatZone slot s
  | .statLife slot => Sys2Proof.Machine.execStatLife slot s
  | .bbList slot => Sys2Proof.Machine.execBbList slot s
  | .bbRetire slot => Sys2Proof.Machine.execBbRetire slot s
  | .refreshReq slot => Sys2Proof.Machine.execRefreshReq slot s
  | .fijCtlWrite v => Sys2Proof.Machine.execFijCtlWrite v s
  | .dbgTraceEnable v => Sys2Proof.Machine.execDbgTraceEnable v s
  | .registerRead k hsel => Sys2Proof.Machine.execRegisterRead k hsel s
  | .ungateComplete g fails bring => Sys2Proof.Machine.execUngateComplete g fails bring s
  | .spiSequencerDone ok => Sys2Proof.Machine.execSpiSequencerDone ok s
  | .otpProgramDone => Sys2Proof.Machine.execOtpProgramDone s

end Sys2Proof.Machine
end

