-- ==== Sys2Proof/Machine/Idle.lean ====
section
/-! DEFINITION. Machine/Idle.lean: what passes with time alone (R349): a tick of the always-on clock, 250 ns. DESIGN CHOICE: no row
of the command table is a tick, so a step with no command waiting is one. -/

namespace Sys2Proof.Machine

open Sys2Proof

/-- Share of decoder cycles busy since the last read of PRM_CDC_UTIL, per 65,536. -/
def utilOf (d : Dev) (busy n : Nat) : Nat :=
  let t := n * (d.now - d.codec.utilFrom)
  if t = 0 then 0 else min 0xFFFF (busy * 65536 / t)

/-- The levels of media common that the SoC side holds in its mirror, with their values on the media side (R436). -/
def mirrorLevels (d : Dev) : List (FRef × Nat) :=
  [(F.cdcPool_HQ, cwCount d .hardQ), (F.cdcPool_SQ, cwCount d .softQ),
   (F.cdcUtil_HARD_BUSY, utilOf d d.codec.hardBusy d.build.hard), (F.cdcUtil_SOFT_BUSY, utilOf d d.codec.softBusy d.build.soft),
   (F.rrcOcc_NOW, (d.codec.cws.filter fun p => p.2.inTable).length),
   (F.pgmAcnt_WAITING, min 0xFF (d.pgm.units.filter fun u => decide (u.2.st = .waitBand)).length),
   (F.panSlots_TOTAL, d.codec.total), (F.panSlots_FREE, slotsFree d)]

/-- A level that has changed since its last report is reported (R436, R462). -/
def mirrorReport (p : FRef × Nat) (d : Dev) : Dev :=
  let k := 32 * regOff p.1.reg 0 + p.1.lo
  if nget 0 d.mirrorSent k = p.2 then d
  else statsVal p.1 0 p.2 1 { d with mirrorSent := nset 0 d.mirrorSent k p.2 }

/-- A calibration level of a channel that has changed since its last report is reported. -/
def calReport (p : FRef × Nat × Nat) (d : Dev) : Dev :=
  let k := 32 * regOff p.1.reg p.2.1 + p.1.lo
  if nget 0 d.mirrorSent k = p.2.2 then d
  else statsVal p.1 p.2.1 p.2.2 1 { d with mirrorSent := nset 0 d.mirrorSent k p.2.2 }

/-- The calibration unit in a tick: what waited starts, a force that waited for class-0 work is tried again, a forced gap goes on and
ends (R388, R391). -/
def calTick (d : Dev) : Dev :=
  each (calWake d).cal.chans (fun d p =>
    let c := p.1
    let d := if (getCal d c).deferFrom.isSome then calForceDev c d else calGapGo c d
    if calGapOver d c then seqPick c 64 (modCalCh d c fun y => { y with forcing := false, gapAt := none }) else d) (calWake d)

/-- What media common does in a tick: encoders start, calibration goes on, levels that have changed are reported to the mirror (R160,
R388, R391, R436). -/
def commonTick (d : Dev) : Dev :=
  let d := calTick (encodeStarts d)
  let d := each (mirrorLevels d) (fun d p => mirrorReport p d) d
  each (calLevels d) (fun d p => calReport p d) d

/-- What a tick brings besides the time: the decoders' busy time (PRM_CDC_UTIL), what media common does, the fans' counting times
(R373), the way from an accepted LOWER to SANITIZE (R415), and a step of a descent that a wake event ends (R466). -/
def tickWork (d : Dev) : Dev :=
  let d := if d.codec.cws.isEmpty then d
    else modCodec d fun k => { k with hardBusy := k.hardBusy + cwCount d .hard, softBusy := k.softBusy + cwCount d .soft }
  let d := lapStop d
  let d := if commonOn d then commonTick d else d
  let d := if socUp d then each d.thm.countFrom (fun d p => tachWindow p.1 d) d else d
  let d := if lowerDue d then lowerDev d else d
  if descentDue d then descentAct d else d

/-- One AO tick: the time, and what it brings. -/
def tick (d : Dev) : Dev := commandFrame tickWork { d with now := d.now + 1 }

/-- A step on an empty queue. -/
def idle (st : State) : Host.Outcome State Fault Refusal := .next { st with dev := tick st.dev }

end Sys2Proof.Machine
end

