-- ==== Sys2Proof/WellFormed.lean ====
section
/-! DEFINITION. WellFormed.lean: the ranges that the manual gives the operands of a command. A command with an operand outside its
range names a port, link, channel, queue or slot that no build has. -/

namespace Sys2Proof

/-- One of the 64 numbered queues, contexts or FIFOs (R250, R308). -/
def wfQueue (q : Nat) : Bool := decide (q < 64)

/-- A channel of the largest build (Table SCO-1). -/
def wfChan (c : Nat) : Bool := decide (c < 64)

/-- A LUN of the block (R1). -/
def wfLun (l : Nat) : Bool := decide (l < 2048)

/-- A channel group, and so a hatch link (R9). -/
def wfGroup (g : Nat) : Bool := decide (g < 8)

/-- A message stream of a link: control down, control up, data down, data up (R13). -/
def wfStream (s : Nat) : Bool := decide (s < 4)

/-- A 16-bit sequence number (R15). -/
def wfSeq (q : Nat) : Bool := decide (q < 65536)

/-- A memory port: 0..3 MPR, 4..7 MPW (R24). -/
def wfPort (p : Nat) : Bool := decide (p < 8)

/-- A memory-port tag (R25). -/
def wfTag (t : Nat) : Bool := decide (t < 256)

/-- A generation of a tag (R25). -/
def wfGen (g : Nat) : Bool := decide (g < 4)

/-- A two-bit status (R25). -/
def wfSt (s : Nat) : Bool := decide (s < 4)

/-- A loop slot, or a mailbox slot (R355, R423). -/
def wfSlot (s : Nat) : Bool := decide (s < 16)

/-- A conditioned input of Table MOD-7. -/
def wfInput (i : Nat) : Bool := decide (i < 13)

/-- RP_ADDR[23:3]: a register pair (R30). -/
def wfPair (k : Nat) : Bool := decide (k < 2 ^ 21)

/-- A namespace (R224). -/
def wfNs (n : Nat) : Bool := decide (n < 16)

/-- The configuration flash holds 1 to 64 MiB (R52). -/
def wfFlashMin (a : Option FlashAns) : Bool := decide (∀ x ∈ a, 1048576 ≤ x.density)
def wfFlashMax (a : Option FlashAns) : Bool := decide (∀ x ∈ a, x.density ≤ 67108864)

/-- Every operand of the command lies in its range. -/
def Instr.wf : Instr → Bool
  | .tachEdge j => decide (j < 8)
  | .inputStuckTimeout i | .inputRearmElapsed i | .inputFilterWrite i _ => wfInput i
  | .registerWrite k _ _ | .registerRead k _ => wfPair k
  | .mpCreditReturn p | .mpPdreqRise p | .mpWithdrawComplete p | .mpPdreqFall p | .mpWithdrawTimeout p => wfPort p
  | .mpReadResponse p t g b s _ _ => decide (p < 4) && wfTag t && wfGen g && decide (b < 32) && wfSt s
  | .mpWriteAck p t g s => decide (p < 4) && wfTag t && wfGen g && wfSt s
  | .mpResponseTimeout p t | .mpReissue p t => wfPort p && wfTag t
  | .drqEdge k | .ctxPause k | .pauseComplete k | .ctxResume k | .ctxDisable k | .ctxEnable k | .packerDraw k => wfQueue k
  | .sqDoorbell q _ | .cqDoorbell q _ | .cqAggTimer q | .sqEnable q | .cqEnable q | .sqReset q _ | .sqResetComplete q
  | .cqReset q _ => wfQueue q
  | .link g s k q => wfGroup g && wfStream s && decide (k < 3) && wfSeq q
  | .linkReset g s => wfGroup g && wfStream s
  | .opReq g q _ | .opResult g q _ | .wdata g q _ | .rdata g q _ | .fifoState g q _ | .release g q _ | .event g q _ | .ctrlReq g q _
  | .ctrlResp g q _ | .patch g q _ | .stats g q _ => wfGroup g && wfSeq q
  | .credit g _ q _ | .quiesce g _ q _ | .holdupMessage g _ q _ | .fault g _ q _ => wfGroup g && wfSeq q
  | .gateRequest g | .gateHandshakeComplete g | .gateClear g _ | .gateForce g | .gateTimeout g | .ungateComplete g _ _ => wfGroup g
  | .rbRise c e => wfChan c && decide (e < 4)
  | .uNop c | .uCmd c | .uAdr c | .uDout c | .uWait c | .uBr c | .uBrc c | .uLdi c | .uLdp c | .uAdd c
  | .uAnd c | .uShl c | .uSetf c | .uSel c | .uEvt c | .uYield c | .uCommit c | .uEnd c | .uPhy c _ | .noYield c
  | .busTransferDone c _ | .encodeDone c | .calIntervalExpiry c | .calReqRecal c _ | .calReqFull c _ | .calReqCheck c _
  | .calRunComplete c _ | .calApplyGap c | .calForceExpiry c => wfChan c
  | .yieldWake c l | .abortRequest c l | .copReadPage c l | .copReadMulti c l | .copCacheRead c l | .copSoftRead c l
  | .copProgram c l | .copProgramSlc c l | .copProgramStep c l | .copErase c l | .copSuspend c l | .copResume c l
  | .copReadStatus c l | .copGetFeat c l | .copSetFeat c l | .copResetLun c l | .copReadId c l | .copReadParam c l | .copZqCal c l
  | .copTrain c l | .uDin c l | .uPoll c l | .copRecover c l => wfLun l && decide (l / 32 = c)
  | .archBandPoll l _ | .dieTempPoll l _ | .thresholdSweep l _ _ => wfLun l
  | .relocationStart g | .relocationPhaseEnd g => decide (g < 256)
  | .gcStart n | .mapCheckpoint n => wfNs n
  | .dmaBurstIssue p => decide (p < 8)
  | .loopSample s _ _ | .loopOpen s | .loopClose s | .loopTune s | .loopTraceCfgWrite s _ => wfSlot s
  | .echo s | .hkInfo s | .cfgUpdateBegin s | .cfgUpdateData s | .cfgUpdateAbort s | .cfgReadSection s
  | .statErase s | .statWear s | .statThreshold s | .statDieTemps s | .statZone s | .statLife s | .bbList s | .bbRetire s
  | .refreshReq s => wfSlot s
  | .cfgUpdateCommit b => decide (b.slot < 16)
  | .adcConversionEnd a e r => decide (a < 2) && decide (e < 20) && decide (r < 16384)
  | .adcOpenTest i r => decide (i < 40) && decide (r < 16384)
  | .fanFail z => decide (z < 12)
  | .scrubRead m i _ _ => decide (m < 12) && decide (i < 64)
  | .secOperandWrite w _ => decide (w < 3)
  | .hkLoadUpdate n => decide (n ≤ 100)
  | .cfgLoadComplete a => wfFlashMin a && wfFlashMax a
  | .poRstAssert | .poRstRelease _ _ _ | .sysRstAssert | .sysRstRelease _ | .sysRstDeferredEffect | .pfailLatch | .pfSnsTrip
  | .burstWarnAssert | .burstWarnDeassert | .epochSyncEdge | .stageFaultAssert | .stageFaultDeassert | .mpPurposeFailEnd _
  | .splStatusWord _ | .splStatusTimeout | .brakeRefresh | .modeReqNone _ | .modeReqDormant _ | .modeReqStandby _ | .modeReqWarm _
  | .modeReqServe _ | .modeReqIngest _ | .modeReqDrain _ | .modeReqMaintain _ | .modeReqSafe _ | .modeReqFactory _
  | .warmIdleExpiry | .stbyIdleExpiry | .runDrainComplete | .descentComplete | .wakeComplete _ _ _ | .mediaRestoreComplete
  | .cfgWipPollTimeout | .patchGo _ | .capsuleCheckComplete | .patchDone | .patchWaitExpiry
  | .hkResetCountClear | .hardDecodeDone _ _ | .softDecodeDone _ _ | .softPassIssue | .recoveryEntryFree | .archWaitExpiry _
  | .archStallExpiry _ | .errorEntryResolve _ | .eqAck _ | .jrnlIntExpiry | .refreshScan | .zoneCheckpointTimer | .ageClockMinute
  | .offtimeWrite _ | .thresholdSave | .mcInvalidateLine | .mcInvalidateAll | .mcWriteBackAll | .mcEnableClear | .mcEnableSet
  | .sqFetch | .read _ | .write _ | .append _ | .flush _ | .trim _ | .verify _ | .zoneOpen _ | .zoneFinish _ | .zoneReset _
  | .zoneReport _ | .epochMark _ | .epochCommit _ | .custodyRegister _ | .custodyRelease _ | .completionRelease _
  | .cqPendClear _ _ | .quiesceRequest | .quiesceComplete | .quiesceClear | .epochSetWrite _ | .dmaKick _ | .energyEstimate
  | .kettleHealthCheck | .healthGo | .healthPhaseEnd _ _ _ | .holdupEnergyCheck _ _ | .holdupSaveComplete _ _ | .holdupDone
  | .restoreGo | .restoreSkip | .adcFrameStart | .loopCoeffWrite _ | .analogTrip | .analogTripRelease | .calReqRef _ | .memLogClear
  | .secLkeyWrite _ | .secKeyWrite _ | .secCmdWrite _ | .secSequenceTimeout | .raise | .lower | .lowerAccepted | .sanitizeComplete
  | .nsSetkey | .nsUnlock | .nsLock | .otpKeyhash | .otpCapkey | .otpSigreq | .otpFloor | .regWrite | .hkShedStep
  | .hkWatchdogExpiry _ | .mailboxDoorbell _ | .mailboxSlotFree _ | .fijCtlWrite _ | .dbgTraceEnable _ | .spiSequencerDone _
  | .otpProgramDone => true

end Sys2Proof
end

