-- ==== Sys2Proof/Safety.lean ====
section
/-! DEFINITION. Safety.lean: what counts as a safe run of the block, and the few terms that the statements share. -/

namespace Sys2Proof.Safety

open Sys2Proof Sys2Proof.Machine

/-- Every waiting command has its operands in the manual's ranges. -/
def QueueWf (s : State) : Prop := ∀ c ∈ s.pending, c.wf = true

/-- The block is of build b (Table SCO-1 fixes a build for good), its always-on clock has reached t (R11), and its queue is well formed. -/
def Inv (b : Build) (t : Nat) (s : State) : Prop := s.dev.build = b ∧ t ≤ s.dev.now ∧ QueueWf s

/-- s after f has changed everything but the waiting commands, the build and the time. -/
def after (s : State) (f : Dev → Dev) : State := { s with dev := commandFrame f s.dev }

/-- Link g passes messages and stream st of it holds, unacknowledged, the message m that its receiver expects next, sent whole
and in order (R15). -/
def Arrives (d : Dev) (g st : Nat) (m : Msg) : Prop :=
  linkUp d g = true ∧ (getStream d g st).unacked.find? (fun x => decide (x.seq = m.seq)) = some m ∧
    m.seq = (getStream d g st).expect ∧ m.lost = false ∧ m.late = false ∧ m.bad = false

/-- The receiver's side of accepting message m (R15): it expects the SEQ after it, answers that it has m, and counts it. -/
def accepted (g st : Nat) (m : Msg) (d : Dev) : Dev :=
  let d := modStream d g st fun s => { s with unacked := modLate s.unacked m.seq }
  countMsg (modStream d g st fun s => { s with expect := (s.expect + 1) % 65536, reply := some (false, m.seq) }) g
    (decide (st = 1 ∨ st = 3))

/-- Channel c's sequencer runs a cycle: the routine of record number r, with record x, stands at the sound microword w, whose
operation is op (R118 to R127). -/
def Fetches (d : Dev) (c op r : Nat) (x : Rec) (w : Nat) : Prop :=
  linkUp d (groupOf c) = true ∧ (getChan d c).running = some r ∧ getRec d c r = some x ∧ recPoison d c r = false ∧
    x.badStep = false ∧ pcLegal (getChan d c) x.pc = true ∧ csPoison d c x.pc = false ∧ (x.words < 8192 ∨ op = 0x11 ∨ op = 0x13) ∧ storeWord (getChan d c) x.pc = w ∧ uwIllegal w = false ∧ nbits w 31 27 = op

/-- Command number arr is the next that the queue front end checks, its entry c asks for operation opc, and it passes every
check (R260). -/
def Passes (d : Dev) (arr opc : Nat) (c : Cmd) : Prop :=
  nextCheck d = some (arr, c) ∧ c.opc = opc ∧ running d = true ∧ cmdCheck d c = 0 ∧ nfind d.ord.cmds arr = some c

/-- Command number arr has ended with a status and a result, and waits for its completion to be released. -/
def Ended (d : Dev) (arr status result : Nat) : Prop :=
  (getCmd d arr).st = .finished ∧ (getCmd d arr).status = status ∧ (getCmd d arr).result = result

/-- The command has started: it runs, with the epoch of its arrival (R304); a class-0 command in SAFE or FACTORY lapses (R153). -/
def begun (arr : Nat) (c : Cmd) (d : Dev) : Dev :=
  let d := when (decide (c.cls = 0 ∧ (d.mode.mode = .safe ∨ d.mode.mode = .factory))) (lapse 0) d
  modCmd arr (fun x => { x with st := .running, epoch := arrivalEpoch d c }) d

/-- The mailbox request of slot i is the next to serve, for service svc in a mode that allows it; the housekeeper is not
shedding services, and the reserved bytes are zero (R420 to R424). -/
def Serves (d : Dev) (svc i : Nat) : Prop :=
  running d = true ∧ d.mode.mode ≠ .dormant ∧ i < 16 ∧ mbTurn d svc i = true ∧ svcMode d svc = true ∧ d.hk.shed < 3 ∧
    leAt (mbBytes d i) 4 4 = 0

/-- Slot i of the mailbox is DONE and no longer waits, and after the four bytes of its request it holds the response (R423, Table HK-2). -/
def Answered (d : Dev) (i status detail : Nat) (res : List Byte) : Prop :=
  mbState d i = 2 ∧ i ∉ d.hk.order ∧
    (mbBytes d i).drop 4 = natLe 1 status ++ natLe 1 detail ++ natLe 2 0 ++ (res ++ zeros 56).take 56

/-- Nothing waits on flash work: no command is fetched, the rail and the memory ports hold nothing back, no unit, system page, move or
copy is under way and no HOLDUP is saving. -/
def Calm (d : Dev) : Prop :=
  d.ord.cmds = [] ∧ d.ord.held = [] ∧ d.mp.wait = [] ∧ d.pgm.units = [] ∧ d.pgm.pages = [] ∧ d.pgm.copies = [] ∧ d.pgm.toRetire = [] ∧
    d.xlt.rings = [] ∧ d.xlt.gc = [] ∧ d.hup.saving = false

end Sys2Proof.Safety
end

