-- ==== Sys2Proof/Certificates/Slice0/Obligations.lean ====
section
/-! DEFINITION. Certificates/Slice0/Obligations.lean: the statements for the provers. A clause about one command ends in the state
that the command leaves: `after s f` is s with everything but the waiting commands, the build and the time changed by f. -/

open Sys2Proof Sys2Proof.Machine Sys2Proof.Safety
/-! ### The step and the queue of commands -/

/-- A step takes the command that waits longest and is exec of it on everything but the queue (the model's own rule: its
queue is first in, first out; log entry 1). -/
def Obligations.StepRunsTheFrontCommand : Prop :=
  ∀ (s : State) (c : Instr) (rest : List Instr), s.pending = c :: rest → step s = exec c { s with pending := rest }

/-- With no command waiting, a step is one tick of the always-on clock (the model's choice, log entry 2): the time is 250 ns
later, and nothing else of the queue or build changes. Where no media side is powered, no fan counts, no LOWER waits for SANITIZE and no mode
transition is in progress, the tick changes no mode, pin, register, command or table either, and PRM_CDC_UTIL's counts grow by the
decoders that are busy. -/
def Obligations.IdleStepIsOneTick : Prop :=
  (∀ s : State, s.pending = [] → ∃ t, step s = .next t ∧ t.pending = [] ∧ t.dev.now = s.dev.now + 1 ∧ t.dev.build = s.dev.build) ∧
  (∀ s : State, s.pending = [] → commonOn s.dev = false → s.dev.thm.countFrom = [] → s.dev.sec.sanitize = false →
    s.dev.mode.trans = none →
    ∃ t, step s = .next t ∧ t.dev.mode = s.dev.mode ∧ t.dev.pins = s.dev.pins ∧ t.dev.rf = s.dev.rf ∧ t.dev.cq = s.dev.cq ∧
      t.dev.ord = s.dev.ord ∧ t.dev.pgm = s.dev.pgm ∧ t.dev.xlt = s.dev.xlt ∧ t.dev.otp = s.dev.otp ∧ t.dev.ageMin = s.dev.ageMin ∧
      t.dev.codec.hardBusy = s.dev.codec.hardBusy + cwCount s.dev .hard ∧
      t.dev.codec.softBusy = s.dev.codec.softBusy + cwCount s.dev .soft)

/-- Every command, in every state and with every operand, ends in a next state, and changes neither the commands that wait nor
the build (Table SCO-1) nor the time: no command stops the block. -/
def Obligations.EveryCommandCompletes : Prop :=
  ∀ (c : Instr) (s : State), ∃ t, exec c s = .next t ∧ t.pending = s.pending ∧ t.dev.build = s.dev.build ∧ t.dev.now = s.dev.now

/-- Every step keeps the invariant of Safety.lean: the build is fixed for good, the always-on clock never runs backwards, and a
queue of well-formed commands stays one. -/
def Obligations.EveryStepKeepsTheInvariant : Prop :=
  ∀ (b : Build) (k : Nat) (s : State), Inv b k s →
    ∃ t, step s = .next t ∧ Inv b k t ∧ (s.pending = [] → Inv b (k + 1) t)

/-- The invariant holds right after reset, on the build the model resets to (log entry 3). -/
def Obligations.ResetHasTheInvariant : Prop := Inv .premel64 0 State.reset

/-- A run of any length, from any state, never stops; it takes its commands in order, spends one tick of the clock for each step
that finds none, and never changes the build. -/
def Obligations.NoRunStops : Prop :=
  ∀ (k : Nat) (s : State), ∃ t, Host.Core.run Sys2Proof.core k s = .next t ∧ t.pending = s.pending.drop k ∧
    t.dev.build = s.dev.build ∧ t.dev.now = s.dev.now + (k - s.pending.length)

/-- What reset leaves: the block is in LOADING after OFF (R51), nothing is fetched or in custody, no channel or queue is up,
and every register reads the reset value of its field table (R437). -/
def Obligations.ResetState : Prop :=
  State.reset.pending = [] ∧ State.reset.dev.mode.mode = .loading ∧ State.reset.dev.mode.prev = .off ∧
    State.reset.dev.pins.poHigh = true ∧ State.reset.dev.pins.sysHigh = true ∧ State.reset.dev.pins.pfail = false ∧
    State.reset.dev.ord.cmds = [] ∧ State.reset.dev.cq.sqs = [] ∧ State.reset.dev.cq.regions = [] ∧ State.reset.dev.pgm.units = [] ∧
    State.reset.dev.cfg.done = false ∧ State.reset.dev.otp.log = [] ∧
    (∀ c : Nat, (getChan State.reset.dev c).up = false) ∧
    (∀ (r : Reg) (i : Nat), getReg State.reset.dev r i = resetVal .premel64 r i % 2 ^ 32)

/-! ### Sparse maps and registers -/

/-- A numbered set of instances (the blocks, channels, contexts, queues of the manual): an entry written is what a read of it gives and
every other instance reads as before; writing keeps the canonical form, and two sets in that form that read alike everywhere are
the same data. -/
def Obligations.InstancesReadAfterWrite : Prop :=
  (∀ (b : Word) (m : NMap Word) (k j : Nat) (v : Word), nget b (nset b m k v) j = if j = k then v else nget b m j) ∧
    (∀ (b : Word) (m : NMap Word) (k : Nat) (v : Word), nwf b m = true → nwf b (nset b m k v) = true) ∧
    ∀ (b : Word) (m n : NMap Word), nwf b m = true → nwf b n = true → (∀ k, nget b m k = nget b n k) → m = n

/-- No two registers of the address map share an offset (Table MAP-1 and the register tables): an offset names one instance of one
register. -/
def Obligations.RegistersDoNotOverlap : Prop :=
  ∀ r ∈ Reg.all, ∀ r' ∈ Reg.all, ∀ i < max 1 r.place.count, ∀ i' < max 1 r'.place.count,
    regOff r i = regOff r' i' → r = r' ∧ (r.place.stride = 0 ∨ i = i')

/-- A register written reads back the value written, and no register at another offset changes; setting a field gives it its new value and
leaves every field of the register that shares no bit with it as it was; a counting field counts up to its highest value and stays
there. -/
def Obligations.RegistersReadAfterWrite : Prop :=
  (∀ (d : Dev) (r r' : Reg) (i i' v : Nat), getReg (setReg d r i v) r i = v % 2 ^ 32 ∧
      (regOff r' i' ≠ regOff r i → getReg (setReg d r i v) r' i' = getReg d r' i')) ∧
  (∀ (d : Dev) (r : Reg) (i hi lo hi' lo' v : Nat), lo ≤ hi → hi < 32 → lo' ≤ hi' → hi' < 32 →
    getF (setF d ⟨r, hi, lo⟩ v i) ⟨r, hi, lo⟩ i = v % 2 ^ (hi - lo + 1) ∧
      (hi < lo' ∨ hi' < lo → getF (setF d ⟨r, hi, lo⟩ v i) ⟨r, hi', lo'⟩ i = getF d ⟨r, hi', lo'⟩ i)) ∧
  (∀ (d : Dev) (r : Reg) (i hi lo n : Nat), lo ≤ hi → hi < 32 →
    getF (bump d ⟨r, hi, lo⟩ i n) ⟨r, hi, lo⟩ i = min (2 ^ (hi - lo + 1) - 1) (getF d ⟨r, hi, lo⟩ i + n))
/-! ### Resets, power-failure latch and conditioned inputs -/

/-- The two resets (Table PRT-7, R43, R51). PO_RST_ASSERT from any mode leaves OFF with the retained register file and every register
lost and only the one-time-programmable state kept; PO_RST_RELEASE samples straps and NODE_ID and begins LOADING; SYS_RST_ASSERT
keeps the retained file, the age clock, MODE and the one-time-programmable state, clears the PFAIL latch (R41), leaves every LUN whose
routine it interrupts INDETERMINATE (R136) and no register access waiting; SYS_RST_RELEASE begins LOADING, with the filters of the two
power-failure inputs begun afresh and the self-test's result in PRM_MEM_STAT (R403). -/
def Obligations.ResetPins : Prop :=
  (∀ s : State, s.dev.pins.poHigh = true → ∃ t, exec .poRstAssert s = .next t ∧ t.pending = s.pending ∧ t.dev.mode.mode = .off ∧
      t.dev.pins.poHigh = false ∧ t.dev.ret = {} ∧ t.dev.rf = [] ∧ t.dev.ageMin = 0 ∧ t.dev.pgm = {} ∧ t.dev.ord = {} ∧
      t.dev.otp = s.dev.otp) ∧
  (∀ (s : State) (straps : BitVec 6) (node : BitVec 24) (bist : Option Nat) (vaux : Nat), s.dev.pins.poHigh = false →
      ∃ t, exec (.poRstRelease straps node ⟨bist, vaux⟩) s = .next t ∧ t.pending = s.pending ∧ t.dev.mode.mode = .loading ∧
        t.dev.pins.poHigh = true ∧ t.dev.pins.straps = straps ∧ t.dev.pins.nodeId = node ∧ t.dev.pins.vaux = vaux ∧
        t.dev.otp = s.dev.otp ∧ t.dev.mode.fromPo = true) ∧
  (∀ s : State, s.dev.pins.sysHigh = true → s.dev.pins.poHigh = true → s.dev.pins.sysPending = false → s.dev.hup.running = false →
      ∃ t, exec .sysRstAssert s = .next t ∧ t.pending = s.pending ∧ t.dev.ret = s.dev.ret ∧ t.dev.otp = s.dev.otp ∧
        t.dev.ageMin = s.dev.ageMin ∧ t.dev.mode.mode = s.dev.mode.mode ∧ t.dev.pins.pfail = false ∧ t.dev.pins.sysHigh = false ∧
        t.dev.ord = {} ∧ t.dev.pgm = {} ∧ t.dev.cfg = {} ∧ t.dev.rf = (s.dev.rf.filter fun e => aoOffset e.1 || lastOffset e.1) ∧
        t.dev.rp.wait = none ∧
        (∀ (c r : Nat) (x : Rec), getRec s.dev c r = some x → nget false t.dev.xlt.indet (32 * c + r / 2) = true)) ∧
  (∀ (s : State) (bist : Option Nat), s.dev.pins.sysHigh = false → s.dev.pins.poHigh = true → s.dev.pins.sysPending = false →
      ∃ t, exec (.sysRstRelease bist) s = .next t ∧ t.pending = s.pending ∧ t.dev.mode.mode = .loading ∧ t.dev.mode.cause = 0 ∧
        t.dev.mode.trans = none ∧ t.dev.pins = { s.dev.pins with sysHigh := true } ∧ (getInput t.dev 0).filterFrom = s.dev.now ∧
        (getInput t.dev 1).filterFrom = s.dev.now ∧ t.dev.otp = s.dev.otp ∧ t.dev.ret = s.dev.ret ∧
        (bist = none → isSet t.dev F.memStat_BIST_OK = true) ∧
        (∀ m, bist = some m → isSet t.dev F.memStat_BIST_FAIL = true ∧ getF t.dev F.memStat_BIST_MEMID = m % 16))

/-- R44. An assertion of SYS_RST_n during a HOLDUP sequence is only noted; the noted reset takes effect at
SYS_RST_DEFERRED_EFFECT, once the sequence has ended (HOLDUP_DONE), and not before; PO_RST_n is never held: its assertion acts
also while a HOLDUP sequence runs. -/
def Obligations.SysResetIsHeldPendingInHoldup : Prop :=
  (∀ s : State, s.dev.pins.sysHigh = true → s.dev.pins.poHigh = true → s.dev.hup.running = true →
      exec .sysRstAssert s = .next (after s fun d => modPins d fun p => { p with sysHigh := false, sysPending := true })) ∧
  (∀ s : State, s.dev.pins.poHigh = true → s.dev.pins.sysPending = true → s.dev.hup.running = false → s.dev.pins.sysHigh = false →
      ∃ t, exec .sysRstDeferredEffect s = .next t ∧ t.pending = s.pending ∧ t.dev.pins.sysPending = false ∧ t.dev.pins.pfail = false ∧
        t.dev.hup = {} ∧ t.dev.ord = {} ∧ t.dev.ret = s.dev.ret ∧ t.dev.otp = s.dev.otp) ∧
  (∀ s : State, s.dev.hup.running = true → exec .sysRstDeferredEffect s = .next s) ∧
  (∀ s : State, s.dev.pins.poHigh = true → s.dev.hup.running = true →
      ∃ t, exec .poRstAssert s = .next t ∧ t.dev.mode.mode = .off ∧ t.dev.hup.running = false)

/-- R96. A filtered rising edge of EPOCH_SYNC counts only where REARM has elapsed since the last counted edge, and advances the
epoch number by one (R304), or, while the SoC side applies no edges, the AO domain's count (R306); any other edge adds one to
DROPPED and counts nothing. A masked input drops its edges too (R98). An edge within FILTER of the one before is not past the filter and
does nothing (R40, R95). -/
def Obligations.EpochEdgesCountAfterRearm : Prop :=
  (∀ s : State, s.dev.pins.poHigh = true → filterMay s.dev 3 = true → (getInput s.dev 3).masked = false → edgesLive s.dev = true →
      (∀ t, (getInput s.dev 3).lastAct = some t → t + rearm s.dev 3 ≤ s.dev.now) →
      ∃ t, exec .epochSyncEdge s = .next t ∧ t.pending = s.pending ∧ t.dev.ord.epoch = (s.dev.ord.epoch + 1) % 2 ^ 32 ∧
        t.dev.ret.epoch = (s.dev.ord.epoch + 1) % 2 ^ 32 ∧ (getInput t.dev 3).lastAct = some s.dev.now ∧ t.dev.rf = s.dev.rf) ∧
  (∀ s : State, s.dev.pins.poHigh = true → filterMay s.dev 3 = true → (getInput s.dev 3).masked = false → edgesLive s.dev = false →
      (∀ t, (getInput s.dev 3).lastAct = some t → t + rearm s.dev 3 ≤ s.dev.now) →
      ∃ t, exec .epochSyncEdge s = .next t ∧ t.dev.ret.epochEdges = s.dev.ret.epochEdges + 1 ∧ t.dev.ord = s.dev.ord ∧
        (getInput t.dev 3).lastAct = some s.dev.now ∧ t.dev.rf = s.dev.rf) ∧
  (∀ s : State, s.dev.pins.poHigh = true → filterMay s.dev 3 = true →
      ((getInput s.dev 3).masked = true ∨ ∃ t, (getInput s.dev 3).lastAct = some t ∧ s.dev.now < t + rearm s.dev 3) →
      ∃ t, exec .epochSyncEdge s = .next t ∧ t.dev.ord = s.dev.ord ∧ t.dev.ret = s.dev.ret ∧
        (getInput t.dev 3).lastAct = (getInput s.dev 3).lastAct ∧ t.dev.rf = (bump s.dev F.pwrInstat_DROPPED 3).rf) ∧
  (∀ s : State, filterMay s.dev 3 = false → exec .epochSyncEdge s = .next s)

/-- R97 for BURST_WARN and STAGE_FAULT_n: a filtered assertion acts only where the input has been deasserted for REARM since its
previous assertion (or has had none); any other adds one to DROPPED and is ignored until the input deasserts. Acting, BURST_WARN
is a wake event (R85) and STAGE_FAULT_n is followed by the charger (R336). -/
def Obligations.LevelInputsActAfterRearm : Prop :=
  (∀ s : State, s.dev.pins.poHigh = true → running s.dev = true → filterMay s.dev 2 = true → (getInput s.dev 2).asserted = false →
      (getInput s.dev 2).masked = false → ((getInput s.dev 2).lastAct = none ∨ (getInput s.dev 2).since + rearm s.dev 2 ≤ s.dev.now) →
      (∃ t, exec .burstWarnAssert s = .next t ∧ t.pending = s.pending ∧ burstWarn t.dev = true ∧
        (getInput t.dev 2).lastAct = some s.dev.now ∧ t.dev.pins = s.dev.pins) ∧
      exec .burstWarnAssert s = .next (after s fun d => wakeEvent 3 (modInput d 2 fun y =>
        { y with asserted := true, ignored := false, lastAct := some d.now, since := d.now, filterFrom := d.now }))) ∧
  (∀ s : State, s.dev.pins.poHigh = true → filterMay s.dev 4 = true → (getInput s.dev 4).asserted = false →
      (getInput s.dev 4).masked = false → ((getInput s.dev 4).lastAct = none ∨ (getInput s.dev 4).since + rearm s.dev 4 ≤ s.dev.now) →
      (∃ t, exec .stageFaultAssert s = .next t ∧ t.pending = s.pending ∧ inputOn t.dev 4 = true ∧ t.dev.hup.chargeEn = false ∧
        t.dev.mode = s.dev.mode) ∧
      exec .stageFaultAssert s = .next (after s fun d => chargeUpdate (modInput d 4 fun y =>
        { y with asserted := true, ignored := false, lastAct := some d.now, since := d.now, filterFrom := d.now }))) ∧
  (∀ (s : State) (u : Nat), s.dev.pins.poHigh = true → filterMay s.dev 2 = true → (getInput s.dev 2).asserted = false →
      (getInput s.dev 2).lastAct = some u → s.dev.now < (getInput s.dev 2).since + rearm s.dev 2 →
      exec .burstWarnAssert s = .next (after s fun d => bump (modInput d 2 fun y =>
        { y with asserted := true, ignored := true, lastAct := some d.now, since := d.now, filterFrom := d.now }) F.pwrInstat_DROPPED 2)) ∧
  (∀ (s : State) (u : Nat), s.dev.pins.poHigh = true → filterMay s.dev 4 = true → (getInput s.dev 4).asserted = false →
      (getInput s.dev 4).lastAct = some u → s.dev.now < (getInput s.dev 4).since + rearm s.dev 4 →
      exec .stageFaultAssert s = .next (after s fun d => bump (modInput d 4 fun y =>
        { y with asserted := true, ignored := true, lastAct := some d.now, since := d.now, filterFrom := d.now }) F.pwrInstat_DROPPED 4)) ∧
  (∀ d : Dev, (getInput d 2).ignored = true → burstWarn d = false)

/-- The other events of the conditioned inputs: deassertions (R88, R336), an input held asserted for STUCK_T that becomes STUCK and
MASKED and one deasserted for REARM that is MASKED no more (R98), a write to PRM_PWR_INCFG that restarts the filter count at the next
AO tick (R95), and an edge of a fan's TACH, counted for its speed (R373). -/
def Obligations.ConditionedInputs : Prop :=
  (∀ s : State, s.dev.pins.poHigh = true → filterMay s.dev 2 = true → inputOn s.dev 2 = true →
      ∃ t, exec .burstWarnDeassert s = .next t ∧ t.pending = s.pending ∧ burstWarn t.dev = false ∧
        (getInput t.dev 2).since = s.dev.now ∧ t.dev.mode = { s.dev.mode with idleFrom := s.dev.now } ∧ t.dev.rf = s.dev.rf) ∧
  (∀ s : State, s.dev.pins.poHigh = true → filterMay s.dev 4 = true → inputOn s.dev 4 = true →
      (∃ t, exec .stageFaultDeassert s = .next t ∧ t.pending = s.pending ∧ inputOn t.dev 4 = false ∧
        (getInput t.dev 4).since = s.dev.now ∧ t.dev.mode = s.dev.mode) ∧
      exec .stageFaultDeassert s = .next (after s fun d => chargeUpdate (modInput d 4 fun y =>
        { y with asserted := false, ignored := false, since := d.now, filterFrom := d.now }))) ∧
  (∀ (s : State) (i : Nat), s.dev.pins.poHigh = true → i = 2 ∨ i = 3 ∨ i = 4 → (getInput s.dev i).asserted = true →
      (getInput s.dev i).masked = false → getF s.dev F.pwrIncfg_STUCK_T i ≠ 0 →
      (∃ t, exec (.inputStuckTimeout i) s = .next t ∧ t.pending = s.pending ∧ (getInput t.dev i).masked = true ∧ inputOn t.dev i = false) ∧
      exec (.inputStuckTimeout i) s = .next (after s fun d =>
        let d := setF (modInput d i fun y => { y with masked := true }) F.pwrInstat_STUCK 1 i
        if i = 2 then modMode d fun m => { m with idleFrom := d.now } else if i = 4 then chargeUpdate d else d)) ∧
  (∀ (s : State) (i : Nat), s.dev.pins.poHigh = true → i = 3 ∨ ((i = 2 ∨ i = 4) ∧ (getInput s.dev i).asserted = false) →
      ∃ t, exec (.inputRearmElapsed i) s = .next t ∧ t.pending = s.pending ∧ (getInput t.dev i).masked = false ∧
        t.dev = modInput s.dev i fun y => { y with masked := false, asserted := false }) ∧
  (∀ (s : State) (i : Nat) (v : Word), socUp s.dev = true → i < 13 →
      ∃ t, exec (.inputFilterWrite i v) s = .next t ∧ t.pending = s.pending ∧ getReg t.dev .pwrIncfg i = v.toNat &&& incfgMask i ∧
        t.dev.inputs = (modInput s.dev i fun y => { y with filterFrom := s.dev.now + 1 }).inputs ∧ t.dev.mode = s.dev.mode) ∧
  (∀ (s : State) (j : Nat), socUp s.dev = true → j < 8 → filterMay s.dev (5 + j) = true →
      s.dev.now < nget 0 s.dev.thm.countFrom j + ms 1000 →
      ∃ t, exec (.tachEdge j) s = .next t ∧ t.pending = s.pending ∧ t.dev.rf = s.dev.rf ∧
        t.dev.thm = { s.dev.thm with edges := nset 0 s.dev.thm.edges j (nget 0 s.dev.thm.edges j + 1) })

/-- R41, R156, R429. The PFAIL latch sets at PFAIL_n or at the PF_SNS comparator, in every mode but OFF and HOLDUP: HOLDUP is
entered with cause 5, no transition is left, fault injection stops, fetching stops, HOLDUP goes out to every channel group and, where
custody is not empty, the save begins (R340). In HOLDUP the latch only sets. -/
def Obligations.PowerFailureEntersHoldup : Prop :=
  (∀ (s : State) (i : Nat) (c : Instr), (i, c) ∈ [(0, Instr.pfailLatch), (1, .pfSnsTrip)] → running s.dev = true →
      filterMay s.dev i = true → s.dev.mode.mode ≠ .holdup →
      (∃ t, exec c s = .next t ∧ t.pending = s.pending ∧ t.dev.mode.mode = .holdup ∧ t.dev.mode.prev = s.dev.mode.mode ∧
        t.dev.mode.cause = 5 ∧ t.dev.mode.trans = none ∧ t.dev.mode.onward = none ∧ t.dev.pins = { s.dev.pins with pfail := true } ∧
        t.dev.hup.running = true ∧ (getInput t.dev i).asserted = true ∧ t.dev.otp = s.dev.otp) ∧
      exec c s = .next (after s fun d =>
        let d := modPins (modInput d i fun x => { x with asserted := true }) fun p => { p with pfail := true }
        let e := hupNothing d
        let d := modMode (fetchStopAll (ladlePowerFail (modFij d fun f => { f with stopped := true }))) fun m => { m with onward := none }
        let d := modHup d fun h => { h with running := true, empty := e, saving := false, ended := false, latchAt := d.now, phase := 0 }
        let d := setF (goMode .holdup 5 d) F.hupStat_HOLDUP_STARTED 1
        let d := each (List.range d.build.channels) (fun d c => calDiscard c d) (loopsHoldup (!e) d)
        let d := cmdsHoldup (railHoldup d)
        if e then each (liveGroups d) (fun d g => hsend g 0 (.holdup 0 0) d) d else hupSave d)) ∧
  (∀ (s : State) (i : Nat) (c : Instr), (i, c) ∈ [(0, Instr.pfailLatch), (1, .pfSnsTrip)] → running s.dev = true →
      filterMay s.dev i = true → s.dev.mode.mode = .holdup →
      ∃ t, exec c s = .next t ∧ t.pending = s.pending ∧ t.dev.pins.pfail = true ∧ t.dev.mode = s.dev.mode ∧ t.dev.hup = s.dev.hup) ∧
  (∀ (s : State) (i : Nat) (c : Instr), (i, c) ∈ [(0, Instr.pfailLatch), (1, .pfSnsTrip)] → filterMay s.dev i = false →
      exec c s = .next s)

/-- Entering a mode (Table MOD-1, Table MOD-8): MODE and CAUSE take the mode and the cause, PREV the mode that is left, no transition is in
progress any more, and what follows the mode (the charger, R336, the schedulers, R155, the sweeps, R190) changes no command, queue or
retained register. -/
def Obligations.EnteringAMode : Prop :=
  ∀ (m : Mode) (cause : Nat) (d : Dev), (goMode m cause d).mode.mode = m ∧
    (d.mode.mode ≠ m → (goMode m cause d).mode.prev = d.mode.mode ∧ isSet (goMode m cause d) F.glbEvtSrc_MODE_CHG = true) ∧
    (d.mode.mode = m → (goMode m cause d).mode.prev = d.mode.prev) ∧
    (goMode m cause d).mode.cause = cause ∧ (goMode m cause d).mode.trans = none ∧ (goMode m cause d).ord = d.ord ∧
    (goMode m cause d).cq = d.cq ∧ (goMode m cause d).ret = d.ret

/-! ### The register port -/

/-- REGISTER_WRITE and REGISTER_READ (R30 to R32, Table PRT-4, Table MAP-1, R86, R435, R465). In the SoC-side windows a write takes effect
on the selected halves and is answered without error (the RW fields of a register without a side effect read as written, its W1C fields
clear where a 1 is written), a read gives them; an access to a channel's window that holds a register travels over the hatch as a
CTRL_REQ, and one that holds none reads zero; an offset in no window, or in a group that does not answer, gives RP_ERR with zero
data; in DORMANT and while SYS_RST_n is low the AO domain answers. -/
def Obligations.RegisterPort : Prop :=
  (∀ (s : State) (k : Nat) (hsel : BitVec 2) (data : DWord), k < 2 ^ 21 → portReady s.dev = true → inSysReset s.dev = false →
      s.dev.mode.mode ≠ .dormant → windowOf (8 * k) = .soc →
      exec (.registerWrite k hsel data) s = .next (after s fun d => socWrite k hsel data d) ∧
      exec (.registerRead k hsel) s = .next (after s fun d => rpEnd (pairRead k hsel d).1 false (pairRead k hsel d).2) ∧
      (((pairOffs k hsel).all fun p => !isMirrorRw p.1) = true → ∃ t, exec (.registerWrite k hsel data) s = .next t ∧
        t.pending = s.pending ∧ t.dev.rp = { last := some (0, false), wait := none })) ∧
  (∀ (s : State) (k i : Nat) (r : Reg) (f : FieldRow) (data : DWord), k < 2 ^ 21 → portReady s.dev = true → inSysReset s.dev = false →
      s.dev.mode.mode ≠ .dormant → windowOf (8 * k) = .soc → regAt (8 * k) = some (r, i) → isMirrorRw (8 * k) = false →
      regWrite r i (data.toNat % 2 ^ 32) s.dev = plainWrite r i (data.toNat % 2 ^ 32) s.dev → f ∈ r.fields →
      ∃ t, exec (.registerWrite k 1#2 data) s = .next t ∧ t.pending = s.pending ∧ t.dev.rp = { last := some (0, false), wait := none } ∧
        (f.acc = .rw → getF t.dev (rowRef r f) i = nbits data.toNat f.hi f.lo) ∧
        (f.acc = .w1c → getF t.dev (rowRef r f) i = getF s.dev (rowRef r f) i &&& (2 ^ (f.hi - f.lo + 1) - 1 - nbits data.toNat f.hi f.lo)) ∧
        t.dev.mode = s.dev.mode ∧ t.dev.ord = s.dev.ord ∧ t.dev.cq = s.dev.cq) ∧
  (∀ (s : State) (k c : Nat) (hsel : BitVec 2) (data : DWord), k < 2 ^ 21 → portReady s.dev = true → inSysReset s.dev = false →
      s.dev.mode.mode ≠ .dormant → windowOf (8 * k) = .chan c → c < s.dev.build.channels → linkUp s.dev (groupOf c) = true →
      ((pairOffs k hsel).all fun p => (regAt p.1).isNone) = false →
      exec (.registerWrite k hsel data) s = .next (after s fun d => hsend (groupOf c) 0 (.ctrlReq (.chanWrite k hsel data))
        { d with rp := { d.rp with wait := some { write := true, left := 1, data := 0 } } }) ∧
      exec (.registerRead k hsel) s = .next (after s fun d => hsend (groupOf c) 0 (.ctrlReq (.chanRead k hsel))
        { d with rp := { d.rp with wait := some { write := false, left := 1, data := 0 } } })) ∧
  (∀ (s : State) (k c : Nat) (hsel : BitVec 2) (data : DWord), k < 2 ^ 21 → portReady s.dev = true → inSysReset s.dev = false →
      s.dev.mode.mode ≠ .dormant → windowOf (8 * k) = .chan c → ((pairOffs k hsel).all fun p => (regAt p.1).isNone) = true →
      exec (.registerWrite k hsel data) s = .next { s with dev := rpEnd 0 false s.dev } ∧
      exec (.registerRead k hsel) s = .next { s with dev := rpEnd 0 false s.dev }) ∧
  (∀ (s : State) (k : Nat) (hsel : BitVec 2) (data : DWord), k < 2 ^ 21 → portReady s.dev = true → inSysReset s.dev = false →
      s.dev.mode.mode ≠ .dormant →
      (windowOf (8 * k) = .none ∨ ∃ c, windowOf (8 * k) = .chan c ∧ c < s.dev.build.channels ∧ linkUp s.dev (groupOf c) = false ∧
        ((pairOffs k hsel).all fun p => (regAt p.1).isNone) = false) →
      exec (.registerWrite k hsel data) s = .next { s with dev := rpEnd 0 true s.dev } ∧
      exec (.registerRead k hsel) s = .next { s with dev := rpEnd 0 true s.dev }) ∧
  (∀ (s : State) (k : Nat) (hsel : BitVec 2) (data : DWord), k < 2 ^ 21 → portReady s.dev = true → inSysReset s.dev = true →
      exec (.registerWrite k hsel data) s = .next { s with dev := rpEnd 0 true s.dev }) ∧
  (∀ (s : State) (k : Nat) (hsel : BitVec 2), k < 2 ^ 21 → portReady s.dev = true →
      inSysReset s.dev = true ∨ s.dev.mode.mode = .dormant → ((pairOffs k hsel).any fun p => !aoReadable p.1) = true →
      ∃ t v, exec (.registerRead k hsel) s = .next t ∧ t.dev.rp = { last := some (v, true), wait := none } ∧ t.dev.rf = s.dev.rf) ∧
  (∀ (s : State) (k : Nat) (hsel : BitVec 2) (data : DWord), portReady s.dev = false →
      exec (.registerWrite k hsel data) s = .next s ∧ exec (.registerRead k hsel) s = .next s)

/-! ### The memory ports -/

/-- The memory ports' own events (R24, R25, R28, Table PRT-3): a returned credit lets the next waiting flit out, or stands where nothing
waits, and none is held for a port that is withdrawn; a good beat, in sequence and with even parity in every byte, joins its request; a
good last beat, or a write's acknowledgement, ends the request and its purpose goes on (a capsule's bytes stand ready for their
checks, a region of custody is written back); an answer whose tag and generation name nothing counts as STALE. -/
def Obligations.MemoryPortAnswers : Prop :=
  (∀ (s : State) (p : Nat), running s.dev = true → p < 8 → (getPort s.dev p).withdrawn = false →
      exec (.mpCreditReturn p) s = .next (after s fun d =>
        mpPump (sendFlits p 64 (modPort d p fun m => { m with credits := m.credits + 1 })))) ∧
  (∀ (s : State) (p : Nat), running s.dev = true → p < 8 → (getPort s.dev p).withdrawn = false → s.dev.mp.wait = [] →
      ((getPort s.dev p).sendq = [] → ∃ t, exec (.mpCreditReturn p) s = .next t ∧ t.pending = s.pending ∧
        getPort t.dev p = { getPort s.dev p with credits := (getPort s.dev p).credits + 1 } ∧ t.dev.rf = s.dev.rf ∧ t.dev.ord = s.dev.ord) ∧
      (∀ (e : Sending) (f : Flit), (getPort s.dev p).sendq = [e] → e.flits = [f] → (getPort s.dev p).credits = 0 →
        ∃ t, exec (.mpCreditReturn p) s = .next t ∧ getPort t.dev p = { getPort s.dev p with lane := some f, sendq := [] } ∧
          t.dev.rf = s.dev.rf)) ∧
  (∀ (s : State) (p : Nat), running s.dev = true → p < 8 → (getPort s.dev p).withdrawn = true → (getPort s.dev p).sendq = [] →
      s.dev.mp.wait = [] → ∃ t, exec (.mpCreditReturn p) s = .next t ∧ getPort t.dev p = getPort s.dev p) ∧
  (∀ (s : State) (p tag gen : Nat) (r : Req) (data : Beat), running s.dev = true → p < 4 → reqOf s.dev p tag gen = some r →
      r.inj = false → r.nextBeat + 1 < r.beats →
      ∃ t, exec (.mpReadResponse p tag gen r.nextBeat 0 (parityOf (beatBytes data)) data) s = .next t ∧ t.pending = s.pending ∧
        t.dev = modPort s.dev p fun m =>
          { m with out := nput m.out tag { r with data := r.data ++ beatBytes data, nextBeat := r.nextBeat + 1 } }) ∧
  (∀ (s : State) (p tag gen : Nat) (r : Req) (data : Beat), running s.dev = true → p < 4 → reqOf s.dev p tag gen = some r →
      r.inj = false → r.nextBeat + 1 = r.beats →
      exec (.mpReadResponse p tag gen r.nextBeat 0 (parityOf (beatBytes data)) data) s = .next (after s fun d =>
        reqDone p tag { r with data := r.data ++ beatBytes data, nextBeat := r.nextBeat + 1 } d)) ∧
  (∀ (s : State) (p tag gen : Nat) (r : Req) (u : Purp) (data : Beat), running s.dev = true → p < 4 → reqOf s.dev p tag gen = some r →
      r.inj = false → r.write = false → r.nextBeat + 1 = r.beats → getPurp s.dev r.purp = some u → u.kind = .capsule → u.failed = false →
      u.reqs = 1 →
      ∃ t, exec (.mpReadResponse p tag gen r.nextBeat 0 (parityOf (beatBytes data)) data) s = .next t ∧ t.pending = s.pending ∧
        t.dev.cfg =
          { s.dev.cfg with pRead := true, pBytes := some ((layAt u.bytes r.tagA (r.data ++ beatBytes data)).take s.dev.cfg.pLen) } ∧
        t.dev.mode = s.dev.mode) ∧
  (∀ (s : State) (p tag gen : Nat) (r : Req), running s.dev = true → p < 4 → reqOf s.dev (p + 4) tag gen = some r → r.write = true →
      exec (.mpWriteAck p tag gen 0) s = .next (after s fun d => reqDone (p + 4) tag r d)) ∧
  (∀ (s : State) (p tag gen h : Nat) (r : Req) (u : Purp), running s.dev = true → p < 4 → reqOf s.dev (p + 4) tag gen = some r →
      r.write = true → getPurp s.dev r.purp = some u → u.kind = .restore h → u.failed = false → u.reqs = 1 →
      ∃ t, exec (.mpWriteAck p tag gen 0) s = .next t ∧ t.pending = s.pending ∧
        t.dev.hup = { s.dev.hup with writesLeft := s.dev.hup.writesLeft - 1 } ∧ t.dev.mode = s.dev.mode) ∧
  (∀ (s : State) (p tag gen beat : Nat) (st : Nat) (par : BitVec 64) (data : Beat), running s.dev = true → p < 4 →
      reqOf s.dev p tag gen = none →
      exec (.mpReadResponse p tag gen beat st par data) s = .next (after s fun d => bump d F.glbMpStat_STALE p))

/-- Requests that are not answered well (R28, R29, R467): AGAIN and a timeout count towards RETRY_MAX and are issued again 1 µs later
with the next generation, a bad beat at once; FAULT and the last failure allowed end the request with FAILED, and a failed
purpose has its consequence once its last request has ended.

The withdrawal of a memory port (R93, R94, Table MOD-6): at PDREQ the requests none of whose flits has gone leave the port; with
none outstanding PDACK rises and WITHDRAWN is set; when PDREQ falls the port comes back with no credit; a withdrawal that times
out leaves none outstanding, asks for the fetches and completions again and loses the other requests. -/
def Obligations.MemoryPortFailuresAndWithdrawal : Prop :=
  (∀ (s : State) (p tag gen beat : Nat) (par : BitVec 64) (r : Req) (data : Beat), running s.dev = true → p < 4 →
      reqOf s.dev p tag gen = some r →
      exec (.mpReadResponse p tag gen beat 1 par data) s = .next (after s fun d => reqRetry p tag r false d) ∧
      exec (.mpReadResponse p tag gen beat 2 par data) s = .next (after s fun d => reqFault p tag r d) ∧
      (beat ≠ r.nextBeat ∨ par ≠ parityOf (beatBytes data) →
        exec (.mpReadResponse p tag gen beat 0 par data) s = .next (after s fun d => reqRetry p tag r true d))) ∧
  (∀ (s : State) (p tag : Nat) (r : Req), running s.dev = true → p < 8 → nfind (getPort s.dev p).out tag = some r → r.again = false →
      exec (.mpResponseTimeout p tag) s = .next (after s fun d => reqRetry p tag r false (bump d F.glbMpStat_TIMEOUTS p)) ∧
      (r.reissues < getF s.dev F.glbMpCfg_RETRY_MAX → r.cls ≠ 0 →
        ∃ t, exec (.mpResponseTimeout p tag) s = .next t ∧ t.pending = s.pending ∧
          nfind (getPort t.dev p).out tag = some { r with reissues := r.reissues + 1, again := true } ∧
          t.dev.rf = (bump s.dev F.glbMpStat_TIMEOUTS p).rf ∧ t.dev.ord = s.dev.ord)) ∧
  (∀ (s : State) (p tag : Nat) (r : Req), running s.dev = true → p < 8 → nfind (getPort s.dev p).out tag = some r → r.again = true →
      (getPort s.dev p).pdreq = false → (getPort s.dev p).withdrawn = false →
      exec (.mpReissue p tag) s = .next (after s fun d => issueAs p tag r true (bump d F.glbMpStat_REISSUES p)) ∧
      ∃ t x, exec (.mpReissue p tag) s = .next t ∧ t.pending = s.pending ∧ nfind (getPort t.dev p).out tag = some x ∧ x.again = false ∧
        x.gen = nget 0 (getPort s.dev p).gens tag ∧ x.nextBeat = 0 ∧ x.purp = r.purp ∧ x.issuedAt = s.dev.now ∧
        nget 0 (getPort t.dev p).gens tag = (nget 0 (getPort s.dev p).gens tag + 1) % 4) ∧
  (∀ (s : State) (i : Nat) (u : Purp), getPurp s.dev i = some u → running s.dev = true → u.failed = true → u.reqs = 0 →
      exec (.mpPurposeFailEnd i) s = .next (after s fun d => cmdSweep (failEnd u (endPurp i d))) ∧
      (u.kind = .capsule → ∃ t, exec (.mpPurposeFailEnd i) s = .next t ∧ t.pending = s.pending ∧ getPurp t.dev i = none ∧
        t.dev.cfg = { s.dev.cfg with pBytes := none, pRead := true } ∧ t.dev.rf = s.dev.rf)) ∧
  (∀ (r : Req) (u : Purp) (d : Dev), getPurp d r.purp = some u → u.failed = true → mpRequest r d = d) ∧
  (∀ (s : State) (p : Nat), running s.dev = true → p < 8 → (getPort s.dev p).pdreq = false →
      exec (.mpPdreqRise p) s = .next (after s fun d =>
        mpPump (each (unsent (getPort d p)) (fun d x => modMp (retire p x.1 d) fun m => { m with wait := m.wait ++ [{ x.2 with again := false }] })
          (modPort d p fun m => { m with pdreq := true }))) ∧
      ∃ t, exec (.mpPdreqRise p) s = .next t ∧ t.pending = s.pending ∧ (getPort t.dev p).pdreq = true ∧ portUsable t.dev p = false ∧
        (getPort t.dev p).withdrawn = (getPort s.dev p).withdrawn ∧ t.dev.ord = s.dev.ord) ∧
  (∀ (s : State) (p : Nat), running s.dev = true → p < 8 → (getPort s.dev p).pdreq = true → (getPort s.dev p).pdack = false →
      (getPort s.dev p).out = [] → (getPort s.dev p).sendq = [] →
      ∃ t, exec (.mpWithdrawComplete p) s = .next t ∧ t.pending = s.pending ∧ (getPort t.dev p).pdack = true ∧
        (getPort t.dev p).withdrawn = true ∧ isSet t.dev F.glbMpStat_WITHDRAWN p = true ∧ t.dev.ord = s.dev.ord) ∧
  (∀ (s : State) (p : Nat), running s.dev = true → p < 8 → (getPort s.dev p).pdreq = true → (getPort s.dev p).pdack = true →
      exec (.mpPdreqFall p) s = .next (after s fun d =>
        mpPump (setF (modPort d p fun m => { m with pdreq := false, pdack := false, withdrawn := false, credits := 0, gens := [] })
          F.glbMpStat_WITHDRAWN 0 p)) ∧
      (s.dev.mp.wait = [] → ∃ t, exec (.mpPdreqFall p) s = .next t ∧ t.pending = s.pending ∧
        getPort t.dev p = { getPort s.dev p with pdreq := false, pdack := false, withdrawn := false, credits := 0, gens := [] } ∧
        isSet t.dev F.glbMpStat_WITHDRAWN p = false)) ∧
  (∀ (s : State) (p : Nat), running s.dev = true → p < 8 → (getPort s.dev p).pdreq = true → (getPort s.dev p).pdack = false →
      exec (.mpWithdrawTimeout p) s = .next (after s fun d =>
        mpPump (pdackOn p (each (getPort d p).out (lostReq p) d))) ∧
      ∃ t, exec (.mpWithdrawTimeout p) s = .next t ∧ t.pending = s.pending ∧ (getPort t.dev p).pdack = true ∧
        (getPort t.dev p).withdrawn = true ∧ (getPort t.dev p).sendq = [] ∧ isSet t.dev F.glbMpStat_WITHDRAWN p = true)

/-- R25. The pieces of a transfer cover its bytes in order, each within one 2 KiB block and none empty. -/
def Obligations.TransfersAreCutAtTwoKiB : Prop :=
  ∀ a n : Nat, ((pieces (n / 2048 + 2) a n).map (·.2)).sum = n ∧
    (∀ p ∈ pieces (n / 2048 + 2) a n, 0 < p.2 ∧ p.1 / 2048 = (p.1 + p.2 - 1) / 2048) ∧
    (pieces (n / 2048 + 2) a n).flatMap (fun p => rangeFrom p.1 p.2) = rangeFrom a n

/-! ### Request lines and the spindle link -/

/-- R33, R312. An edge of DRQ[k] at an enabled, paced STREAM context adds one to its pending count, up to 255; at 255 it is lost and
sets REQ_OVERFLOW. Where fault injection is not ACTIVE (R428) no edge is dropped.

The spindle link (R37, R38, R341): a status word of its form gives OMEGA, STOPPED and FAULT, and ACK where it carries the SEQ last
sent, and ends the wait of the command on the link whose SEQ it carries; FAULT, and no word for 500 µs, make spindle energy
unavailable; while braking, BRAKE is sent again with a fresh deceleration and the next SEQ, or waits while the command before it is
not accepted (the model's choice, log entry 91). -/
def Obligations.RequestLinesAndSpindleLink : Prop :=
  (∀ (s : State) (k : Nat), k < 64 → running s.dev = true → s.dev.pins.pfail = false → s.dev.mode.mode ≠ .dormant → ctxEn s.dev k = true →
    ctxStream s.dev k = true → ctxPaced s.dev k = true → fijActive s.dev = false →
    ((getCtx s.dev k).pend < 255 → exec (.drqEdge k) s = .next { s with dev := modCtx k (fun c => { c with pend := c.pend + 1 }) s.dev }) ∧
    (255 ≤ (getCtx s.dev k).pend → exec (.drqEdge k) s = .next (after s fun d => setF d F.dmaCtxstat_REQ_OVERFLOW 1 k))) ∧
  (∀ (s : State) (w : Word), socUp s.dev = true → nbits w.toNat 31 28 = 8 → nbit w.toNat 21 = false → s.dev.spl.braking = false →
      s.dev.spl.next = none →
      ∃ t, exec (.splStatusWord w) s = .next t ∧ t.pending = s.pending ∧ t.dev.spl.status = w ∧ t.dev.spl.omega = nbits w.toNat 15 0 ∧
        t.dev.spl.stopped = nbit w.toNat 22 ∧ t.dev.spl.fault = false ∧ t.dev.spl.lost = false ∧ t.dev.spl.lastAt = some s.dev.now ∧
        t.dev.spl.ackSeen = (s.dev.spl.ackSeen || (nbit w.toNat 20 && decide (nbits w.toNat 27 24 = s.dev.spl.seq))) ∧
        t.dev.spl.valid = (s.dev.spl.valid && !decide (nbits w.toNat 27 24 = s.dev.spl.seq)) ∧ t.dev.spl.seq = s.dev.spl.seq ∧
        t.dev.rf = s.dev.rf) ∧
  (∀ s : State, socUp s.dev = true → s.dev.hup.running = false →
      ∃ t, exec .splStatusTimeout s = .next t ∧ t.dev.spl = { s.dev.spl with lost := true } ∧ t.dev.rf = s.dev.rf) ∧
  (∀ s : State, s.dev.hup.running = true → s.dev.spl.braking = true → splLost s.dev = false →
      (s.dev.spl.valid = false →
        ∃ t, exec .brakeRefresh s = .next t ∧ t.pending = s.pending ∧ t.dev.loops.alpha = alphaFor s.dev ∧
          t.dev.spl.seq = (s.dev.spl.seq + 1) % 16 ∧ t.dev.spl.ackSeen = false ∧ t.dev.spl.valid = true ∧
          t.dev.spl.lastCmd = BitVec.ofNat 32 (2 ^ 28 + (s.dev.spl.seq + 1) % 16 * 2 ^ 24 + alphaSent s.dev (alphaFor s.dev) % 65536)) ∧
      (s.dev.spl.valid = true →
        ∃ t, exec .brakeRefresh s = .next t ∧ t.dev.spl = { s.dev.spl with next := some (1, alphaSent s.dev (alphaFor s.dev)) } ∧
          t.dev.rf = s.dev.rf))

/-! ### The hatch -/

/-- R15, R16. LINK with an acknowledge drops the messages up to its SEQ and sends what waited; one with a negative acknowledge that the
receiver gave also sends every later message again; LINK_RESET, once a message has been sent nine times, makes both ends agree on
what was accepted, replays the four streams and is counted. -/
def Obligations.HatchAnswersAndResets : Prop :=
  (∀ (s : State) (g st q : Nat), linkUp s.dev g = true → seqEarlier (getStream s.dev g st).expect q = true →
      exec (.link g st 0 q) s = .next (after s fun d => ackUpTo g st q d) ∧
      ((getStream s.dev g st).waiting = [] → ∃ t, exec (.link g st 0 q) s = .next t ∧ t.pending = s.pending ∧
        getStream t.dev g st = { getStream s.dev g st with unacked := (getStream s.dev g st).unacked.filter fun m =>
          !(decide (m.seq = q) || seqEarlier q m.seq) } ∧ t.dev.rf = s.dev.rf ∧ t.dev.ord = s.dev.ord)) ∧
  (∀ (s : State) (g st q : Nat), linkUp s.dev g = true → (getStream s.dev g st).reply = some (true, q) →
      exec (.link g st 1 q) s = .next (after s fun d =>
        let d := modStream (ackUpTo g st ((q + 65535) % 65536) d) g st fun x => { x with reply := none }
        resendAll g st (getStream d g st).unacked d)) ∧
  (∀ (s : State) (g st q : Nat), linkUp s.dev g = true → (getStream s.dev g st).reply = some (true, q) →
      (getStream s.dev g st).waiting = [] →
      ∃ t, exec (.link g st 1 q) s = .next t ∧ t.pending = s.pending ∧ (getStream t.dev g st).reply = none ∧
        (getStream t.dev g st).unacked.map (·.seq) = ((getStream s.dev g st).unacked.filter fun m =>
          !(decide (m.seq = (q + 65535) % 65536) || seqEarlier ((q + 65535) % 65536) m.seq)).map (·.seq)) ∧
  (∀ (s : State) (g st q : Nat), exec (.link g st 2 q) s = .next s) ∧
  (∀ (s : State) (g st : Nat), linkUp s.dev g = true → ((getStream s.dev g st).unacked.any fun m => decide (9 ≤ m.sends)) = true →
      ((nget {} s.dev.links g).resetTimes.filter fun u => decide (s.dev.now < u + ms 1000)).length < 2 →
      exec (.linkReset g st) s = .next (after s fun d =>
        let times := ((nget {} d.links g).resetTimes.filter fun u => decide (d.now < u + ms 1000)) ++ [d.now]
        let d := bump { d with links := nmod {} d.links g fun l => { l with resetTimes := times } } F.hatchLinkStat_RESETS g
        hsend g (st % 2) (.fault false) (each [0, 1, 2, 3] (fun d x => resyncStream g x d) d)) ∧
      ∃ t, exec (.linkReset g st) s = .next t ∧ t.pending = s.pending ∧
        (nget {} t.dev.links g).resetTimes =
          ((nget {} s.dev.links g).resetTimes.filter fun u => decide (s.dev.now < u + ms 1000)) ++ [s.dev.now] ∧
        (nget {} t.dev.links g).failed = (nget {} s.dev.links g).failed)

/-- R15. A message that is handed over waits behind those of its stream, or goes out with the next SEQ and stands unacknowledged; no
stream ever holds more than 64 unacknowledged messages that held no more before; nothing that was sent or waits is lost or
reordered. -/
def Obligations.HandingAMessageOver : Prop :=
  ∀ (g st : Nat) (b : MsgBody) (d : Dev), (getStream d g st).unacked.length ≤ 64 →
    (getStream (hsend g st b d) g st).unacked.length ≤ 64 ∧
      ((getStream (hsend g st b d) g st).unacked.map (·.body)) ++ (getStream (hsend g st b d) g st).waiting =
        ((getStream d g st).unacked.map (·.body)) ++ (getStream d g st).waiting ++ [b] ∧
      ((getStream d g st).unacked <+: (getStream (hsend g st b d) g st).unacked)

/-- R14, R15. A message of which the receiver expects an earlier one, or that arrives with a CRC-16 that is not that of its header and
payload, takes no effect: the receiver answers with a negative acknowledge of the SEQ it expects, and nothing else of the block
changes. -/
def Obligations.MessagesOutOfOrderTakeNoEffect : Prop :=
  ∀ (s : State) (g : Nat) (m : Msg) (o : Op) (crc : BitVec 16), m.body = .opReq o → linkUp s.dev g = true → m.lost = false → m.late = false →
    (getStream s.dev g 0).unacked.find? (fun x => decide (x.seq = m.seq)) = some m →
    (crc ≠ msgCrc 0 m ∨ m.bad = true ∨ (m.seq ≠ (getStream s.dev g 0).expect ∧ seqEarlier (getStream s.dev g 0).expect m.seq = false)) →
    exec (.opReq g m.seq crc) s = .next (after s fun d =>
      modStream (modStream d g 0 fun x => { x with unacked := modLate x.unacked m.seq }) g 0 fun x =>
        { x with reply := some (true, x.expect) })

/-- Messages down the hatch, accepted (Table ARC-2, R15): OP_REQ reaches its LUN's scheduler, CTRL_REQ is carried out, PATCH, in AWAIT-PATCH
alone, loads the sequencers' patch RAM, QUIESCE and HOLDUP begin their handshakes, WDATA's word reaches its FIFO slice and its credit goes
back, CREDIT returns credit, and FAULT of a group fails the group.

Messages up the hatch, accepted (Table ARC-2, R15): OP_RESULT ends an operation at the rail, RDATA brings a codeword's bytes in parts and
its credit goes back, FIFO_STATE the packets of a FIFO, a watermark crossing and an overrun, RELEASE a unit whose data is on the medium,
EVENT what the media side saw, CTRL_RESP the answer to a register access, QUIESCE and HOLDUP their answers, STATS a mirror's value. -/
def Obligations.AcceptedMessages : Prop :=
  (∀ (s : State) (g : Nat) (m : Msg) (o : Op), m.body = .opReq o → Arrives s.dev g 0 m →
      exec (.opReq g m.seq (msgCrc 0 m)) s = .next (after s fun d => opArrive o (accepted g 0 m d)) ∧
      (1 ≤ o.cls → isReadCop o.cop = false → s.dev.mode.mode ≠ .holdup → lunIsol s.dev o.lun = false →
        (getSched s.dev o.lun).suspended = false → lunFree s.dev o.lun = false →
        (schedQ (getSched s.dev o.lun) (opQueue o)).length < 16 →
        ∃ t, exec (.opReq g m.seq (msgCrc 0 m)) s = .next t ∧ t.pending = s.pending ∧
          schedQ (getSched t.dev o.lun) (opQueue o) = schedQ (getSched s.dev o.lun) (opQueue o) ++ [o] ∧ t.dev.ord = s.dev.ord)) ∧
  (∀ (s : State) (g : Nat) (m : Msg) (b : CtrlBody), m.body = .ctrlReq b → Arrives s.dev g 0 m →
      exec (.ctrlReq g m.seq (msgCrc 0 m)) s = .next (after s fun d => ctrlReqDev g b (accepted g 0 m d)) ∧
      (∀ (k : Nat) (hsel : BitVec 2), b = .chanRead k hsel →
        ∃ t, exec (.ctrlReq g m.seq (msgCrc 0 m)) s = .next t ∧ t.pending = s.pending ∧
          ((getStream t.dev g 1).unacked.map (·.body)) ++ (getStream t.dev g 1).waiting =
            ((getStream s.dev g 1).unacked.map (·.body)) ++ (getStream s.dev g 1).waiting ++
              [.ctrlResp k (pairRead k hsel (accepted g 0 m s.dev)).1] ∧ t.dev.ord.ops = s.dev.ord.ops)) ∧
  (∀ (s : State) (g a : Nat) (m : Msg) (ws : List Word) (cs : List (BitVec 15)), m.body = .patch a ws cs → Arrives s.dev g 0 m →
      s.dev.cfg.pInst = false →
      exec (.patch g m.seq (msgCrc 0 m)) s = .next (after s fun d => patchApply g a ws cs (accepted g 0 m d)) ∧
      (s.dev.mode.mode = .awaitPatch → a < 0x1000 →
        ∃ t, exec (.patch g m.seq (msgCrc 0 m)) s = .next t ∧ t.pending = s.pending ∧
          (∀ c ∈ groupChans s.dev g, ∀ (j : Nat) (w : Word), ws[j]? = some w → nget 0#32 (getChan t.dev c).patchRam (a + j) = w) ∧
          t.dev.mode = s.dev.mode) ∧
      (s.dev.mode.mode ≠ .awaitPatch → ∃ t, exec (.patch g m.seq (msgCrc 0 m)) s = .next t ∧ t.dev.chans = s.dev.chans)) ∧
  (∀ (s : State) (g : Nat) (m : Msg), m.body = .quiesce false → Arrives s.dev g 0 m →
      (∃ t, exec (.quiesce g false m.seq (msgCrc 0 m)) s = .next t ∧ t.pending = s.pending ∧ (getGroup t.dev g).quiesced = true ∧
        (getGroup t.dev g).stage = (getGroup s.dev g).stage ∧ t.dev.ord = s.dev.ord) ∧
      exec (.quiesce g false m.seq (msgCrc 0 m)) s = .next (after s fun d =>
        let d := modGroup (accepted g 0 m d) g fun x => { x with quiesced := true }
        if groupBusy d g then d else hsend g 1 (.quiesce true) d)) ∧
  (∀ (s : State) (g n : Nat) (m : Msg), m.body = .holdup 0 n → Arrives s.dev g 0 m →
      exec (.holdupMessage g false m.seq (msgCrc 0 m)) s = .next (after s fun d => holdupDown g (accepted g 0 m d)) ∧
      ∃ t, exec (.holdupMessage g false m.seq (msgCrc 0 m)) s = .next t ∧ t.pending = s.pending ∧ (getGroup t.dev g).hup = true ∧
        t.dev.mode = s.dev.mode ∧ t.dev.ord = s.dev.ord) ∧
  (∀ (s : State) (g k i tag n : Nat) (m : Msg) (bs : List Byte), m.body = .wdata k i tag n bs → Arrives s.dev g 2 m →
      exec (.wdata g m.seq (msgCrc 2 m)) s = .next (after s fun d =>
        hsend g 1 (.credit 2 1) (ctxSettle k (wordArrive k i tag bs (accepted g 2 m d)))) ∧
      ((getCtx s.dev k).cmd = none → s.dev.ord.cmds = [] →
        ∃ t, exec (.wdata g m.seq (msgCrc 2 m)) s = .next t ∧ t.pending = s.pending ∧
          (nget {} (getFifo t.dev k).words i).data = bs ∧ (nget {} (getFifo t.dev k).words i).tag = tag ∧ t.dev.mode = s.dev.mode)) ∧
  (∀ (s : State) (g st n : Nat) (m : Msg), m.body = .credit st n → Arrives s.dev g 0 m →
      ∃ t, exec (.credit g false m.seq (msgCrc 0 m)) s = .next t ∧ t.pending = s.pending ∧
        (getStream t.dev g st).credits = (getStream s.dev g st).credits + n ∧ t.dev.ord = s.dev.ord) ∧
  (∀ (s : State) (g : Nat) (m : Msg), m.body = .fault true → Arrives s.dev g 0 m →
      exec (.fault g false m.seq (msgCrc 0 m)) s = .next (after s fun d => groupFailed g (accepted g 0 m d)) ∧
      ((nget {} s.dev.links g).failed = false →
        ∃ t, exec (.fault g false m.seq (msgCrc 0 m)) s = .next t ∧ t.pending = s.pending ∧ (nget {} t.dev.links g).failed = true ∧
          linkUp t.dev g = false)) ∧
  (∀ (s : State) (g : Nat) (m : Msg), m.body = .fault false → Arrives s.dev g 0 m →
      ∃ t, exec (.fault g false m.seq (msgCrc 0 m)) s = .next t ∧ t.pending = s.pending ∧
        (getStream t.dev g 0).reply = some (false, m.seq) ∧ t.dev.ord = s.dev.ord ∧ t.dev.mode = s.dev.mode) ∧
  (∀ (s : State) (g : Nat) (m : Msg) (r : OpResult), m.body = .opResult r → Arrives s.dev g 1 m →
      exec (.opResult g m.seq (msgCrc 1 m)) s = .next (after s fun d => resultSoc r (accepted g 1 m d)) ∧
      (∀ o, nfind s.dev.ord.ops r.tag = some o → o.use = .chan → Calm s.dev →
        ∃ t, exec (.opResult g m.seq (msgCrc 1 m)) s = .next t ∧ t.pending = s.pending ∧ t.dev.ord.ops = nerase s.dev.ord.ops r.tag ∧
          t.dev.scheds = s.dev.scheds ∧ t.dev.mode = s.dev.mode)) ∧
  (∀ (s : State) (g : Nat) (m : Msg) (r : RData), m.body = .rdata r → Arrives s.dev g 3 m →
      exec (.rdata g m.seq (msgCrc 3 m)) s = .next (after s fun d => hsend g 0 (.credit 3 1) (afterFlash (rdataSoc r (accepted g 3 m d)))) ∧
      (r.last = false → Calm s.dev →
        ∃ t, exec (.rdata g m.seq (msgCrc 3 m)) s = .next t ∧ t.pending = s.pending ∧
          nget [] t.dev.ord.rdParts (256 * r.tag + r.index) = nget [] s.dev.ord.rdParts (256 * r.tag + r.index) ++ r.data ∧
          t.dev.ord.ops = s.dev.ord.ops ∧
          ((getStream t.dev g 0).unacked.map (·.body)) ++ (getStream t.dev g 0).waiting =
            ((getStream s.dev g 0).unacked.map (·.body)) ++ (getStream s.dev g 0).waiting ++ [.credit 3 1])) ∧
  (∀ (s : State) (g k n fill : Nat) (m : Msg) (cross : Option Bool) (lost : Bool), m.body = .fifoState k n fill cross lost →
      Arrives s.dev g 1 m →
      ∃ t, exec (.fifoState g m.seq (msgCrc 1 m)) s = .next t ∧ t.pending = s.pending ∧ (getFifo t.dev k).pkts = n ∧
        (getFifo t.dev k).xoff = cross.getD (getFifo s.dev k).xoff ∧ (lost = true → isSet t.dev F.fifoStat_OVERRUN k = true) ∧
        t.dev.ord = s.dev.ord) ∧
  (∀ (s : State) (g u : Nat) (m : Msg) (pass : Bool), m.body = .release u pass → Arrives s.dev g 1 m →
      exec (.release g m.seq (msgCrc 1 m)) s = .next (after s fun d => afterFlash (releaseSoc u (accepted g 1 m d))) ∧
      (∀ (x : Machine.PUnit) (k : Nat), s.dev.pgm.units = [(u, x)] → Calm { s.dev with pgm := { s.dev.pgm with units := [] } } →
        x.use = .fifo k → x.st = .done → x.durable = false → x.viaParity = false → lunIsol s.dev x.lun = false →
        ∃ t, exec (.release g m.seq (msgCrc 1 m)) s = .next t ∧ t.pending = s.pending ∧ (getUnit t.dev u).released = true ∧
          (getUnit t.dev u).durable = false ∧ t.dev.mode = s.dev.mode)) ∧
  (∀ (s : State) (g : Nat) (m : Msg) (e : EventBody), m.body = .event e → Arrives s.dev g 1 m →
      exec (.event g m.seq (msgCrc 1 m)) s = .next (after s fun d => eventSoc e (accepted g 1 m d)) ∧
      (∀ mem i a, e = .memError mem i a 3 → ∃ t, exec (.event g m.seq (msgCrc 1 m)) s = .next t ∧ t.pending = s.pending ∧
        isSet t.dev F.memEvt_UE = true ∧ t.dev.ord = s.dev.ord) ∧
      (∀ l, e = .lunTimeout l → Calm s.dev → l < s.dev.build.luns → s.dev.ord.eq.length < 64 →
        ∃ t, exec (.event g m.seq (msgCrc 1 m)) s = .next t ∧ t.pending = s.pending ∧ lunIsol t.dev l = true ∧
          t.dev.mode = s.dev.mode)) ∧
  (∀ (s : State) (g k : Nat) (m : Msg) (data : DWord), m.body = .ctrlResp k data → k < 2 ^ 21 → Arrives s.dev g 1 m →
      exec (.ctrlResp g m.seq (msgCrc 1 m)) s = .next (after s fun d => portResp data (accepted g 1 m d)) ∧
      (∀ w : PortWait, s.dev.rp.wait = some w → w.left = 1 →
        ∃ t, exec (.ctrlResp g m.seq (msgCrc 1 m)) s = .next t ∧ t.pending = s.pending ∧
          t.dev.rp = { last := some (if w.write then 0 else data, false), wait := none } ∧ t.dev.ord = s.dev.ord)) ∧
  (∀ (s : State) (g : Nat) (m : Msg), m.body = .quiesce true → Arrives s.dev g 1 m →
      exec (.quiesce g true m.seq (msgCrc 1 m)) s = .next (after s fun d => gateDone g (accepted g 1 m d)) ∧
      ((getGroup s.dev g).stage = .handshake → (getGroup s.dev g).quiesced = true → groupBusy s.dev g = false →
        ∃ t, exec (.quiesce g true m.seq (msgCrc 1 m)) s = .next t ∧ t.pending = s.pending ∧
          ((getGroup t.dev g).stage = .gated ∨ (getGroup t.dev g).stage = .ungating) ∧ isSet t.dev F.hatchLinkStat_GATED g = true ∧
          ∀ c ∈ groupChans s.dev g, (getChan t.dev c).up = false ∧ (getChan t.dev c).recs = [])) ∧
  (∀ (s : State) (g kind n : Nat) (m : Msg), m.body = .holdup kind n → kind ≠ 0 → Arrives s.dev g 1 m →
      ∃ t, exec (.holdupMessage g true m.seq (msgCrc 1 m)) s = .next t ∧ t.pending = s.pending ∧ t.dev = accepted g 1 m s.dev ∧
        (getStream t.dev g 1).reply = some (false, m.seq)) ∧
  (∀ (s : State) (g off hi lo n op : Nat) (m : Msg), m.body = .stats off hi lo n op → Arrives s.dev g 1 m →
      exec (.stats g m.seq (msgCrc 1 m)) s = .next (after s fun d => statsSoc off hi lo n op (accepted g 1 m d)) ∧
      (∀ (r : Reg) (i : Nat), regAt off = some (r, i) → op = 1 → lo ≤ hi → hi < 32 →
        ∃ t, exec (.stats g m.seq (msgCrc 1 m)) s = .next t ∧ t.pending = s.pending ∧ getF t.dev ⟨r, hi, lo⟩ i = n % 2 ^ (hi - lo + 1) ∧
          t.dev.ord = s.dev.ord))

/-! ### Modes -/

/-- A write of PRM_PWR_MODE_REQ that may be granted (R79, R80, Table MOD-2). From WARM, media state restored, a run mode is entered at
once with RESULT 0 and cause 1; so is FACTORY at PL0 with its strap, and SAFE; the request's RUN field is kept where it names a
run mode; a request of NONE changes no mode.

Requests that begin a transition (R80 to R83, R87, Table MOD-2): STANDBY from WARM and DORMANT from STANDBY are descents, DORMANT from
WARM descends to STANDBY first, WARM from STANDBY is a wake, and WARM from a run mode is a drain, with fetching stopped and
background work halted; none of them leaves its mode at once. -/
def Obligations.ModeRequestsGranted : Prop :=
  (∀ (s : State) (run : BitVec 4), running s.dev = true → s.dev.mode.mode = .warm → s.dev.mode.trans = none →
      s.dev.mode.onward = none → s.dev.mode.restored = true →
      (∀ m c, (m, c) ∈ [(Mode.serve, Instr.modeReqServe run), (.ingest, .modeReqIngest run), (.drain, .modeReqDrain run),
          (.maintain, .modeReqMaintain run), (.safe, .modeReqSafe run)] →
        ∃ t, exec c s = .next t ∧ t.pending = s.pending ∧ t.dev.mode.mode = m ∧ t.dev.mode.prev = .warm ∧ t.dev.mode.cause = 1 ∧
          t.dev.mode.result = 0 ∧ t.dev.mode.trans = none ∧ t.dev.mode.onward = none ∧ t.dev.ord = s.dev.ord ∧ t.dev.cq = s.dev.cq) ∧
      (level s.dev = 0 → s.dev.pins.straps.getLsbD 3 = true →
        ∃ t, exec (.modeReqFactory run) s = .next t ∧ t.dev.mode.mode = .factory ∧ t.dev.mode.prev = .warm ∧ t.dev.mode.cause = 1 ∧
          t.dev.mode.result = 0)) ∧
  (∀ (s : State) (run : BitVec 4), running s.dev = true →
      ∃ t, exec (.modeReqNone run) s = .next t ∧ t.pending = s.pending ∧ t.dev.mode = s.dev.mode ∧ t.dev.ord = s.dev.ord ∧
        getF t.dev F.pwrModeReq_RUN = if 6 ≤ run.toNat ∧ run.toNat ≤ 9 then run.toNat else getF s.dev F.pwrModeReq_RUN) ∧
  (∀ (s : State) (run : BitVec 4), running s.dev = true → s.dev.mode.mode = .warm → s.dev.mode.trans = none →
      s.dev.mode.onward = none → burstWarn s.dev = false →
      ∃ t, exec (.modeReqStandby run) s = .next t ∧ t.pending = s.pending ∧ t.dev.mode.mode = .warm ∧ t.dev.mode.result = 0 ∧
        t.dev.mode.trans = some { kind := .toStandby, target := .standby, cause := 1, since := s.dev.now }) ∧
  (∀ (s : State) (run : BitVec 4), running s.dev = true → s.dev.mode.mode = .warm → s.dev.mode.trans = none →
      s.dev.mode.onward = none → dormantMay s.dev = true →
      ∃ t, exec (.modeReqDormant run) s = .next t ∧ t.dev.mode.mode = .warm ∧ t.dev.mode.result = 0 ∧
        t.dev.mode.trans = some { kind := .toStandby, target := .standby, cause := 1, since := s.dev.now } ∧
        t.dev.mode.onward = some .dormant) ∧
  (∀ (s : State) (run : BitVec 4), running s.dev = true → s.dev.mode.mode = .standby → s.dev.mode.trans = none →
      s.dev.mode.onward = none → dormantMay s.dev = true →
      ∃ t, exec (.modeReqDormant run) s = .next t ∧ t.pending = s.pending ∧ t.dev.mode.mode = .standby ∧
        t.dev.mode.trans = some { kind := .toDormant, target := .dormant, cause := 1, since := s.dev.now }) ∧
  (∀ (s : State) (run : BitVec 4), running s.dev = true → s.dev.mode.mode = .standby → s.dev.mode.trans = none →
      s.dev.mode.onward = none →
      ∃ t, exec (.modeReqWarm run) s = .next t ∧ t.dev.mode.mode = .standby ∧ t.dev.mode.result = 0 ∧
        t.dev.mode.trans = some { kind := .wakeStandby, target := .warm, cause := 1, since := s.dev.now }) ∧
  (∀ (s : State) (run : BitVec 4), running s.dev = true → s.dev.mode.mode.run = true → s.dev.mode.trans = none →
      s.dev.mode.onward = none →
      ∃ t, exec (.modeReqWarm run) s = .next t ∧ t.pending = s.pending ∧ t.dev.mode.mode = s.dev.mode.mode ∧ t.dev.mode.result = 0 ∧
        t.dev.mode.bgStop = true ∧ t.dev.mode.trans = some { kind := .drain, target := .warm, cause := 1, since := s.dev.now })

/-- Requests that are refused (R80, R88): RESULT 1 in LOADING, AWAIT-PATCH, HOLDUP and SANITIZE, RESULT 3 while a transition is in
progress, for a mode that is not the one in force (log entry 93), and RESULT 2 where the mode's conditions do not hold: STANDBY and DORMANT
while BURST_WARN is asserted, FACTORY above PL0 or without its strap. No refusal leaves the mode. -/
def Obligations.ModeRequestsRefused : Prop :=
  ∀ (s : State) (run : BitVec 4) (m : Mode) (c : Instr), running s.dev = true →
    (m, c) ∈ [(Mode.dormant, Instr.modeReqDormant run), (.standby, .modeReqStandby run), (.warm, .modeReqWarm run),
      (.serve, .modeReqServe run), (.ingest, .modeReqIngest run), (.drain, .modeReqDrain run), (.maintain, .modeReqMaintain run),
      (.safe, .modeReqSafe run), (.factory, .modeReqFactory run)] →
    (s.dev.mode.mode ∈ [Mode.loading, .awaitPatch, .holdup, .sanitize] →
      ∃ t, exec c s = .next t ∧ t.dev.mode = { s.dev.mode with result := 1 }) ∧
    (s.dev.mode.mode = .warm → s.dev.mode.trans = none → s.dev.mode.onward = none → m ≠ .warm → modeMay s.dev m = false →
      ∃ t, exec c s = .next t ∧ t.dev.mode = { s.dev.mode with result := 2 }) ∧
    (∀ x, s.dev.mode.mode.run = true → s.dev.mode.trans = some x → m ≠ s.dev.mode.mode →
      ∃ t, exec c s = .next t ∧ t.dev.mode = { s.dev.mode with result := 3 }) ∧
    (s.dev.mode.mode.run = true → m = s.dev.mode.mode → ∃ t, exec c s = .next t ∧ t.dev.mode = { s.dev.mode with result := 0 }) ∧
    (burstWarn s.dev = true → modeMay s.dev .standby = false ∧ modeMay s.dev .dormant = false) ∧
    (level s.dev ≠ 0 ∨ s.dev.pins.straps.getLsbD 3 = false → modeMay s.dev .factory = false)

/-- The mode manager's own events (R81 to R83, R87, R88, R466): the idle expiries begin a descent with cause 4, a descent that no wake event
has met ends in its mode, and one that a wake event has met goes back; a request for DORMANT whose conditions have ceased on the way ends
in STANDBY with RESULT 2; a drain ends in WARM once every completion is out and the pantry is DURABLE; a wake ends in WARM with
WAKE_DONE and, after a start, begins media-state restoration, and restoration goes on with MEDIA_RESTORE_COMPLETE. -/
def Obligations.ModeEvents : Prop :=
  (∀ s : State, modeIdle s.dev = true → s.dev.mode.mode = .warm → s.dev.mode.restoring = false → getF s.dev F.pwrIdle_WARM_IDLE ≠ 0 →
      ∃ t, exec .warmIdleExpiry s = .next t ∧ t.pending = s.pending ∧ t.dev.mode.mode = .warm ∧
        t.dev.mode.trans = some { kind := .toStandby, target := .standby, cause := 4, since := s.dev.now }) ∧
  (∀ s : State, modeIdle s.dev = true → s.dev.mode.mode = .standby → getF s.dev F.pwrIdle_STBY_IDLE ≠ 0 → dormantMay s.dev = true →
      ∃ t, exec .stbyIdleExpiry s = .next t ∧ t.pending = s.pending ∧ t.dev.mode.mode = .standby ∧
        t.dev.mode.trans = some { kind := .toDormant, target := .dormant, cause := 4, since := s.dev.now }) ∧
  (∀ (s : State) (x : Trans), s.dev.mode.trans = some x → x.kind = .toStandby → x.wake = none → s.dev.mode.mode = .warm →
      (s.dev.mode.onward = none ∨ s.dev.mode.onward = some .standby →
        ∃ t, exec .descentComplete s = .next t ∧ t.pending = s.pending ∧ t.dev.mode.mode = .standby ∧ t.dev.mode.prev = .warm ∧
          t.dev.mode.cause = x.cause ∧ t.dev.mode.trans = none) ∧
      (s.dev.mode.onward = some .dormant → dormantMay s.dev = false → s.dev.mode.onwardCause = 1 →
        ∃ t, exec .descentComplete s = .next t ∧ t.dev.mode.mode = .standby ∧ t.dev.mode.onward = none ∧ t.dev.mode.result = 2)) ∧
  (∀ (s : State) (x : Trans) (w : Nat × Mode × Nat), s.dev.mode.trans = some x → x.kind = .toStandby → x.wake = some w →
      ∃ t, exec .descentComplete s = .next t ∧ t.dev.mode.mode = s.dev.mode.mode ∧ t.dev.mode.onward = some w.2.1 ∧
        t.dev.mode.trans = some { kind := .wakeStandby, target := .warm, cause := w.1, since := s.dev.now }) ∧
  (∀ (s : State) (x : Trans), s.dev.mode.trans = some x → x.kind = .toDormant → x.wake = none →
      exec .descentComplete s = .next (after s fun d => modeStep 4 (goMode .dormant x.cause (dormantLoss d))) ∧
      (s.dev.mode.onward = none ∨ s.dev.mode.onward = some .dormant →
        ∃ t, exec .descentComplete s = .next t ∧ t.pending = s.pending ∧ t.dev.mode.mode = .dormant ∧ t.dev.mode.cause = x.cause ∧
          t.dev.mode.trans = none ∧ t.dev.xlt.lines = [] ∧ t.dev.rrc.table = [] ∧ t.dev.ret = s.dev.ret)) ∧
  (∀ (s : State) (x : Trans), s.dev.mode.trans = some x → x.kind = .drain → commandsOut s.dev = false →
      pantryDurable (cmdSweep s.dev) = true → s.dev.mode.mode.run = true →
      exec .runDrainComplete s = .next (after s fun d =>
        modeStep 4 (goMode .warm x.cause (modMode (thrSave (cmdSweep d)) fun m => { m with bgStop := false }))) ∧
      (s.dev.mode.onward = none ∨ s.dev.mode.onward = some .warm →
        ∃ t, exec .runDrainComplete s = .next t ∧ t.pending = s.pending ∧ t.dev.mode.mode = .warm ∧
          t.dev.mode.prev = s.dev.mode.mode ∧ t.dev.mode.cause = x.cause ∧ t.dev.mode.trans = none ∧ t.dev.mode.bgStop = false)) ∧
  (∀ (s : State) (x : Trans) (bring : List BringUp) (fails : List Nat) (img : MediaImg), running s.dev = true →
      s.dev.mode.trans = some x → x.kind = .wakeStandby →
      exec (.wakeComplete bring fails img) s = .next (after s fun d =>
        let d := setF (goMode .warm x.cause d) F.glbEvtSrc_WAKE_DONE 1
        let d := bringAll bring d.mode.restored (List.range d.build.channels) d
        let d := if d.mode.restored ∨ d.mode.restoring then d else if sanPending d then sanResume d else restoreBegin img d
        keptApply (modeStep 4 d)) ∧
      (s.dev.mode.restored = true → s.dev.mode.mode = .standby → s.dev.mode.onward = none ∨ s.dev.mode.onward = some .warm →
        (∀ c < s.dev.build.channels, (getChan s.dev c).up = true ∨ (getChan s.dev c).failed = true) → s.dev.cq.sqs = [] →
        s.dev.cq.cqs = [] →
        ∃ t, exec (.wakeComplete bring fails img) s = .next t ∧ t.pending = s.pending ∧ t.dev.mode.mode = .warm ∧
          t.dev.mode.prev = .standby ∧ t.dev.mode.cause = x.cause ∧ t.dev.mode.trans = none ∧ isSet t.dev F.glbEvtSrc_WAKE_DONE = true)) ∧
  (∀ s : State, running s.dev = true → s.dev.mode.restoring = true → s.dev.mode.mode = .warm →
      exec .mediaRestoreComplete s = .next (after s fun d => Nat.repeat restoreStep 6 d) ∧
      (s.dev.hup.rstep = 5 → coverFor s.dev (boundWith s.dev 0) = true → s.dev.mode.onward = none → s.dev.cq.sqs = [] → s.dev.cq.cqs = [] →
        ∃ t, exec .mediaRestoreComplete s = .next t ∧ t.pending = s.pending ∧
          t.dev.mode = { s.dev.mode with restored := true, restoring := false } ∧
          t.dev.hup = { s.dev.hup with rstep := 0, restore := none } ∧ t.dev.rf = s.dev.rf))

/-! ### Loading, patches and gating -/

/-- The loader (R52, R55, R63, R66): WIP still set after its limit pulses XSPI_RESET_n, once; no answer from the configuration flash, or
two slots that fail, leave LOADING with FAILED and a cause; a slot that passes is applied, every channel group is powered, and AWAIT-PATCH
follows.

The patch intake (R68 to R72, R77): GO in AWAIT-PATCH reads the capsule from the host's memory, in any other mode it ends at once
with result 1; a capsule that passes its checks installs its words (a sequencer patch by PATCH messages), one that fails them ends with
its result; DONE and the end of PATCH_WAIT leave AWAIT-PATCH for STANDBY with cause 9, or wait for the patch that the image requires, or
for a capsule that is BUSY (log entry 75); a second without a watchdog reset clears the consecutive-reset count. -/
def Obligations.LoadingAndPatching : Prop :=
  (∀ s : State, loading s.dev = true → s.dev.cfg.wipForced = false →
      ∃ t, exec .cfgWipPollTimeout s = .next t ∧ t.pending = s.pending ∧ t.dev.pins.xspiResetPulses = s.dev.pins.xspiResetPulses + 1 ∧
        t.dev.cfg = { s.dev.cfg with wipForced := true } ∧ t.dev.mode = s.dev.mode ∧ t.dev.rf = s.dev.rf) ∧
  (∀ s : State, loading s.dev = true →
      ∃ t, exec (.cfgLoadComplete none) s = .next t ∧ t.dev.cfg = { s.dev.cfg with failed := true, cause := 0x10 } ∧
        t.dev.mode = s.dev.mode ∧ t.dev.rf = s.dev.rf) ∧
  (∀ (s : State) (a : FlashAns), loading s.dev = true → (loadSlots (flashFacts a s.dev) a).secs = none →
      ∃ t, exec (.cfgLoadComplete (some a)) s = .next t ∧ t.pending = s.pending ∧ t.dev.cfg.failed = true ∧
        t.dev.cfg.done = s.dev.cfg.done ∧ t.dev.cfg.cause = (loadSlots (flashFacts a s.dev) a).cause ∧ t.dev.mode = s.dev.mode) ∧
  (∀ (s : State) (a : FlashAns), loading s.dev = true →
      exec (.cfgLoadComplete (some a)) s = .next (after s fun d =>
        let d := flashFacts a d
        match (loadSlots d a).secs with
        | some secs => loadApply a (loadSlots d a) secs d
        | none => modCfg d fun c => { c with failed := true, slot := (loadSlots d a).slot, cause := (loadSlots d a).cause })) ∧
  (∀ (s : State) (a : FlashAns) (secs : List Section), loading s.dev = true → (loadSlots (flashFacts a s.dev) a).secs = some secs →
      ∃ t, exec (.cfgLoadComplete (some a)) s = .next t ∧ t.pending = s.pending ∧ t.dev.mode.mode = .awaitPatch ∧ t.dev.mode.cause = 9 ∧
        t.dev.mode.trans = none ∧ (∀ g < s.dev.build.groups, (getGroup t.dev g).stage = .on) ∧ t.dev.otp = s.dev.otp) ∧
  (∀ (s : State) (a : Option FlashAns), loading s.dev = false → exec (.cfgLoadComplete a) s = .next s) ∧
  (∀ (s : State) (n : Nat), socUp s.dev = true → s.dev.cfg.pBusy = false → s.dev.mode.mode = .awaitPatch → 0 < n → n < 2 ^ 19 →
      exec (.patchGo n) s = .next (after s fun d =>
        let d := modCfg d fun c => { c with pBusy := true, pRead := false, pBytes := none, pLen := n }
        mpReadRange (newPurp .capsule d).1 .data (capsuleAddr (newPurp .capsule d).2) n 0 3 (newPurp .capsule d).2) ∧
      ∃ t u, exec (.patchGo n) s = .next t ∧ t.pending = s.pending ∧
        t.dev.cfg = { s.dev.cfg with pBusy := true, pRead := false, pBytes := none, pLen := n } ∧
        getPurp t.dev s.dev.mp.nextPurp = some u ∧ u.kind = .capsule ∧ u.failed = false ∧ t.dev.mode = s.dev.mode) ∧
  (∀ (s : State) (n : Nat), socUp s.dev = true → s.dev.cfg.pBusy = false → s.dev.mode.mode ≠ .awaitPatch →
      ∃ t, exec (.patchGo n) s = .next t ∧ t.pending = s.pending ∧ t.dev.cfg.pResult = 1 ∧
        t.dev.cfg.pCount = min 255 (s.dev.cfg.pCount + 1) ∧ t.dev.mode = s.dev.mode ∧ t.dev.rf = s.dev.rf) ∧
  (∀ (s : State) (bs : List Byte) (k : Nat), running s.dev = true → s.dev.cfg.pBusy = true → s.dev.cfg.pRead = true →
      s.dev.mode.mode = .awaitPatch → s.dev.cfg.pBytes = some bs → capsuleCheck s.dev bs = .inl k →
      exec .capsuleCheckComplete s = .next (after s fun d => capsuleAfter (capsuleEnd k d)) ∧
      (s.dev.cfg.pEnd = false → s.dev.cfg.pMissing = false →
        ∃ t, exec .capsuleCheckComplete s = .next t ∧ t.pending = s.pending ∧ t.dev.cfg.pBusy = false ∧ t.dev.cfg.pResult = k ∧
          t.dev.chans = s.dev.chans ∧ t.dev.mode = s.dev.mode ∧ t.dev.ret = s.dev.ret)) ∧
  (∀ (s : State) (bs v : List Byte) (ty : Nat), running s.dev = true → s.dev.cfg.pBusy = true → s.dev.cfg.pRead = true →
      s.dev.mode.mode = .awaitPatch → s.dev.cfg.pBytes = some bs → capsuleCheck s.dev bs = .inr (ty, v) →
      (ty = 1 → (∃ t, exec .capsuleCheckComplete s = .next t ∧ t.pending = s.pending ∧ t.dev.cfg.pInst = true ∧ t.dev.cfg.pBusy = true ∧
          t.dev.mode = s.dev.mode) ∧ exec .capsuleCheckComplete s = .next (after s fun d => installSeq v d)) ∧
      (ty ≠ 1 → s.dev.cfg.pEnd = false → s.dev.cfg.pMissing = false →
        ∃ t, exec .capsuleCheckComplete s = .next t ∧ t.dev.cfg.pBusy = false ∧ t.dev.cfg.pResult = 0 ∧ t.dev.cfg.pHkOk = true ∧
          t.dev.cfg.hkPatch = v ∧ t.dev.ret.patchHk = true ∧ t.dev.mode = s.dev.mode)) ∧
  (∀ (s : State) (c : Instr), c ∈ [Instr.patchDone, .patchWaitExpiry] → socUp s.dev = true → s.dev.mode.mode = .awaitPatch →
      (s.dev.cfg.pBusy = false → exec c s = .next (after s awaitEnd)) ∧
      (s.dev.cfg.pBusy = false → patchMet s.dev = true → getF s.dev F.pwrGate_REQ = 0 → s.dev.mode.doorbellKept = false →
        s.dev.cfg.autoWarm = false → sanPending s.dev = false →
        ∃ t, exec c s = .next t ∧ t.pending = s.pending ∧ t.dev.mode.mode = .standby ∧ t.dev.mode.prev = .awaitPatch ∧
          t.dev.mode.cause = 9 ∧ t.dev.cfg.pMissing = false) ∧
      (s.dev.cfg.pBusy = false → patchMet s.dev = false →
        ∃ t, exec c s = .next t ∧ t.dev.cfg = { s.dev.cfg with pMissing := true } ∧ t.dev.mode = s.dev.mode) ∧
      (s.dev.cfg.pBusy = true → s.dev.cfg.pInst = false →
        ∃ t, exec c s = .next t ∧ t.dev.cfg = { s.dev.cfg with pEnd := true } ∧ t.dev.mode = s.dev.mode)) ∧
  (∀ s : State, running s.dev = true → ∃ t, exec .hkResetCountClear s = .next t ∧ t.pending = s.pending ∧
      t.dev.ret = { s.dev.ret with hkResets := 0 } ∧ t.dev.rf = s.dev.rf ∧ t.dev.mode = s.dev.mode)

/-- Gating a channel group (R90 to R92, Tables MOD-5): a request begins the handshake with QUIESCE, the quiet group's power goes off, a
request cleared ungates, force cuts the power off without the group's quiet, or withdraws an ungating, a handshake that times out does the
same, and an ungate that completes brings the group's channels up and sends the held operations. -/
def Obligations.GroupGating : Prop :=
  (∀ (s : State) (g : Nat), socUp s.dev = true → g < s.dev.build.groups →
      s.dev.mode.mode ∉ [Mode.holdup, .sanitize, .loading, .awaitPatch] → (getGroup s.dev g).stage = .on →
      (∃ t, exec (.gateRequest g) s = .next t ∧ t.pending = s.pending ∧ (getGroup t.dev g).stage = .handshake ∧
        (getGroup t.dev g).reqAt = s.dev.now ∧ (getGroup t.dev g).quiesced = false ∧ t.dev.ord = s.dev.ord ∧ t.dev.mode = s.dev.mode) ∧
      exec (.gateRequest g) s = .next (after s fun d => hsend g 0 (.quiesce false)
        (modGroup (setF d F.pwrGate_REQ (getF d F.pwrGate_REQ ||| 2 ^ g)) g fun x =>
          { x with stage := .handshake, reqAt := d.now, quiesced := false }))) ∧
  (∀ (s : State) (g : Nat), (getGroup s.dev g).stage = .handshake → (getGroup s.dev g).quiesced = true → groupBusy s.dev g = false →
      exec (.gateHandshakeComplete g) s = .next (after s fun d => groupOff g d) ∧
      ∃ t, exec (.gateHandshakeComplete g) s = .next t ∧ t.pending = s.pending ∧
        ((getGroup t.dev g).stage = .gated ∨ (getGroup t.dev g).stage = .ungating) ∧ isSet t.dev F.hatchLinkStat_GATED g = true ∧
        ∀ c ∈ groupChans s.dev g, (getChan t.dev c).up = false ∧ (getChan t.dev c).recs = []) ∧
  (∀ (s : State) (g : Nat), socUp s.dev = true → g < s.dev.build.groups → s.dev.mode.mode ≠ .holdup → s.dev.mode.mode ≠ .sanitize →
      (getGroup s.dev g).stage = .gated →
      ∃ t, exec (.gateClear g true) s = .next t ∧ t.pending = s.pending ∧ (getGroup t.dev g).stage = .ungating ∧
        nbit (getF t.dev F.pwrGate_REQ) g = false ∧ t.dev.mode = s.dev.mode ∧ t.dev.ord = s.dev.ord) ∧
  (∀ (s : State) (g : Nat) (h : Nat × Op), socUp s.dev = true → g < s.dev.build.groups → s.dev.mode.mode ≠ .holdup →
      s.dev.mode.mode ≠ .sanitize → (getGroup s.dev g).stage = .gated → nbit (getF s.dev F.pwrGate_AUTO_UNGATE) g = true →
      h ∈ s.dev.ord.held → inGroup g h.2.lun = true →
      ∃ t, exec (.gateClear g false) s = .next t ∧ (getGroup t.dev g).stage = .ungating ∧ t.dev.ord = s.dev.ord) ∧
  (∀ (s : State) (g : Nat), (getGroup s.dev g).stage = .handshake →
      exec (.gateTimeout g) s = exec (.gateForce g) s) ∧
  (∀ (s : State) (g : Nat) (c : Instr), c = .gateForce g ∨ (c = .gateTimeout g ∧ (getGroup s.dev g).stage = .handshake) →
      socUp s.dev = true → g < s.dev.build.groups → s.dev.mode.mode ∉ [Mode.holdup, .sanitize, .loading, .awaitPatch] →
      ((getGroup s.dev g).stage = .on ∨ (getGroup s.dev g).stage = .handshake) →
      exec c s = .next (after s fun d => forceDev g d) ∧
      ∃ t, exec c s = .next t ∧ t.pending = s.pending ∧ ((getGroup t.dev g).stage = .gated ∨ (getGroup t.dev g).stage = .ungating) ∧
        isSet t.dev F.hatchLinkStat_GATED g = true ∧
        ∀ c ∈ groupChans s.dev g, (getChan t.dev c).up = false ∧ (getChan t.dev c).recs = []) ∧
  (∀ (s : State) (g : Nat), socUp s.dev = true → g < s.dev.build.groups → s.dev.mode.mode ∉ [Mode.holdup, .sanitize, .loading, .awaitPatch] →
      (getGroup s.dev g).stage = .ungating →
      ∃ t, exec (.gateForce g) s = .next t ∧ (getGroup t.dev g).stage = .gated ∧ nbit (getF t.dev F.pwrGate_REQ) g = true) ∧
  (∀ (s : State) (g : Nat) (fails : List Nat) (bring : List BringUp), socUp s.dev = true → (getGroup s.dev g).stage = .ungating →
      exec (.ungateComplete g fails bring) s = .next (after s fun d =>
        let d := modGroup (setF d F.hatchLinkStat_GATED 0 g) g fun x => { x with stage := .on }
        let d := each (groupChans d g) (fun d c => modChan d c fun h =>
          { h with recs := [], up := chanMapped d c && !(getChan d c).failed && (getCal d c).calibrated && !fails.contains c }) d
        let d := cleanWords (fun p => decide (p.1 = 3) && decide (groupOf p.2.1 = g)) d
        let d := when d.mode.mode.flash (bringAll bring true (groupChans d g)) d
        let sick := (allLuns d).filter fun l => inGroup g l && lunIndet d l && lunUsable d l
        let d := if d.mode.restored ∧ d.mode.mode ≠ .holdup then
          each sick (fun d l => opIssue { lun := l, cls := 1, cop := 18, use := .recover } d) d else d
        let d := thrSend (calWake (sendHeld d))
        if nbit (getF d F.pwrGate_REQ) g then gateStart g d else d) ∧
      (s.dev.mode.mode.flash = false → s.dev.mode.restored = false → s.dev.ord.held = [] → s.dev.cal.chans = [] → s.dev.hk.thrAsk = none →
        nbit (getF s.dev F.pwrGate_REQ) g = false →
        ∃ t, exec (.ungateComplete g fails bring) s = .next t ∧ t.pending = s.pending ∧ (getGroup t.dev g).stage = .on ∧
          isSet t.dev F.hatchLinkStat_GATED g = false ∧ t.dev.mode = s.dev.mode ∧ t.dev.ord = s.dev.ord))

/-! ### The channel sequencer -/

/-- NOP, LDI, LDP, ADD, AND, SHL and SEL (Table SEQ-4): where the routine's next address can be fetched, the record stands at PC + 1 with
the result in the named register and the named flags set, and no other register or flag changes.

What those seven leave alone: the bus queue, the status byte, the R/B levels, the calibration unit's hold of the bus, the other
routines' records, every scheduler, every register but PRM_SEQ_UTIL's count, and everything of the SoC side. -/
def Obligations.DataMicroOperationsAndFrame : Prop :=
  (∀ (s : State) (c r : Nat) (x : Rec) (w : Nat), x.pc ≠ 0xFFF → pcLegal (getChan s.dev c) (x.pc + 1) = true →
    let y := { x with pc := x.pc + 1, words := x.words + 1 }
    let a := vReg x (nbits w 22 19)
    (Fetches s.dev c 0x00 r x w → ∃ t, exec (.uNop c) s = .next t ∧ t.pending = s.pending ∧ getRec t.dev c r = some y) ∧
    (Fetches s.dev c 0x09 r x w → ∃ t, exec (.uLdi c) s = .next t ∧ getRec t.dev c r = some (setV y (nbits w 26 23)
      (if nbit w 22 then nbits w 15 0 * 65536 + vReg x (nbits w 26 23) % 65536 else nbits w 15 0))) ∧
    (Fetches s.dev c 0x0A r x w → ∃ t, exec (.uLdp c) s = .next t ∧ getRec t.dev c r = some (setV y (nbits w 26 23)
      (if nbit w 8 then (if nbit w 9 then wrapI 32 (sext 8 (prof s.dev (32 * c + x.sel) (nbits w 7 0) 1))
          else prof s.dev (32 * c + x.sel) (nbits w 7 0) 1)
        else profTime s.dev (32 * c + x.sel) (nbits w 7 0)))) ∧
    (Fetches s.dev c 0x0B r x w → ∃ t, exec (.uAdd c) s = .next t ∧
      let v := a + (if nbit w 18 then wrapI 32 (sext 12 (nbits w 11 0)) else vReg x (nbits w 17 14))
      getRec t.dev c r = some { setV y (nbits w 26 23) v with z := decide (v % 2 ^ 32 = 0), c := decide (2 ^ 32 ≤ v), n := nbit v 31 }) ∧
    (Fetches s.dev c 0x0C r x w → ∃ t, exec (.uAnd c) s = .next t ∧
      let v := a &&& (if nbit w 18 then nbits w 11 0 else vReg x (nbits w 17 14))
      getRec t.dev c r = some { setV y (nbits w 26 23) v with z := decide (v = 0), c := false, n := nbit v 31 }) ∧
    (Fetches s.dev c 0x0D r x w → ∃ t, exec (.uShl c) s = .next t ∧
      let k := if nbit w 17 then vReg x (nbits w 16 13) % 32 else nbits w 4 0
      let v := if nbit w 18 then a / 2 ^ k else a * 2 ^ k % 2 ^ 32
      getRec t.dev c r = some { setV y (nbits w 26 23) v with z := decide (v = 0) }) ∧
    (Fetches s.dev c 0x0F r x w → ∃ t, exec (.uSel c) s = .next t ∧
      getRec t.dev c r = some { y with sel := vReg x (nbits w 23 20) % 32 })) ∧
  (∀ (s t : State) (c r : Nat) (x : Rec) (w : Nat), x.pc ≠ 0xFFF → pcLegal (getChan s.dev c) (x.pc + 1) = true →
    ∀ p ∈ [(0x00, Instr.uNop c), (0x09, .uLdi c), (0x0A, .uLdp c), (0x0B, .uAdd c), (0x0C, .uAnd c), (0x0D, .uShl c), (0x0F, .uSel c)],
      Fetches s.dev c p.1 r x w → exec p.2 s = .next t →
        (getChan t.dev c).bus = (getChan s.dev c).bus ∧ (getChan t.dev c).sr = (getChan s.dev c).sr ∧
        (getChan t.dev c).phy = (getChan s.dev c).phy ∧ (getChan t.dev c).rbHigh = (getChan s.dev c).rbHigh ∧
        (getChan t.dev c).running = some r ∧ (∀ q, q ≠ r → getRec t.dev c q = getRec s.dev c q) ∧
        t.dev.scheds = s.dev.scheds ∧ t.dev.links = s.dev.links ∧ t.dev.ord = s.dev.ord ∧ t.dev.cq = s.dev.cq ∧
        t.dev.pgm = s.dev.pgm ∧ t.dev.xlt = s.dev.xlt ∧ t.dev.rf = (bump s.dev F.seqUtil_CYCLES c).rf)

/-- The bus micro-operations (Table SEQ-4, R102, R124, R125): with room in the channel's queue, CMD, ADR, DOUT and DIN to the pantry place
their cycle, for the LUN of SEL, and the routine goes on. CMD names a slot of the profile or its own opcode; ADR sends column bytes, row
bytes, both, one register byte or its own byte.

DIN to a register and POLL place theirs, wait while its bytes are on their way, and go on once they are in the register; POLL is slot 10 with
the row of the LUN, or slot 11. PHY waits for an idle bus, lends it to the calibration unit, and goes on with the result in V11. -/
def Obligations.BusMicroOperations : Prop :=
  (∀ (s : State) (c r : Nat) (x : Rec) (w : Nat), (getChan s.dev c).bus.length < 16 → x.pc ≠ 0xFFF →
    pcLegal (getChan s.dev c) (x.pc + 1) = true →
    let l := 32 * c + x.sel
    let a := nbits w 23 20
    let col := lowBytes (prof s.dev l 0x18 1) (vReg x a)
    let row := fun v => lowBytes (prof s.dev l 0x19 1) v
    let queued := fun (i : Instr) (b : BusEntry) => ∃ t, exec i s = .next t ∧ t.pending = s.pending ∧
      (getChan t.dev c).bus = (getChan s.dev c).bus ++ [{ owner := r, lun := x.sel, entry := b }] ∧
      getRec t.dev c r = some { x with issued := true, pc := x.pc + 1, words := x.words + 1 }
    (Fetches s.dev c 0x01 r x w → nbit w 26 = true → queued (.uCmd c) (.cmd (nbits w 7 0))) ∧
    (Fetches s.dev c 0x01 r x w → nbit w 26 = false → cmdOpcode s.dev l (nbits w 25 21) ≠ 0 →
      queued (.uCmd c) (.cmd (cmdOpcode s.dev l (nbits w 25 21)))) ∧
    (Fetches s.dev c 0x02 r x w → nbits w 26 24 = 0 → queued (.uAdr c) (.adr col)) ∧
    (Fetches s.dev c 0x02 r x w → nbits w 26 24 = 1 → queued (.uAdr c) (.adr (row (vReg x a)))) ∧
    (Fetches s.dev c 0x02 r x w → nbits w 26 24 = 2 → queued (.uAdr c) (.adr (col ++ row (vReg x ((a + 1) % 16))))) ∧
    (Fetches s.dev c 0x02 r x w → nbits w 26 24 = 3 → queued (.uAdr c) (.adr (lowBytes 1 (vReg x a)))) ∧
    (Fetches s.dev c 0x02 r x w → nbits w 26 24 = 4 → queued (.uAdr c) (.adr [nbits w 7 0])) ∧
    (Fetches s.dev c 0x03 r x w → nbit w 26 = true → queued (.uDout c) (.outReg (lowBytes (nbits w 25 24 + 1) (vReg x a)))) ∧
    (Fetches s.dev c 0x03 r x w → nbit w 26 = false → queued (.uDout c) (.out (vReg x a) (vReg x (nbits w 19 16)))) ∧
    (Fetches s.dev c 0x04 r x w → nbit w 26 = false → queued (.uDin c l) (.inp (vReg x a) (vReg x (nbits w 19 16))))) ∧
  (∀ (s : State) (c r : Nat) (x : Rec) (w : Nat), (getChan s.dev c).bus.length < 16 → x.waitIn = 0 →
    let l := 32 * c + x.sel
    let waits := fun (i : Instr) (b : BusEntry) => ∃ t, exec i s = .next t ∧ t.pending = s.pending ∧
      (getChan t.dev c).bus = (getChan s.dev c).bus ++ [{ owner := r, lun := x.sel, entry := b }] ∧
      getRec t.dev c r = some { x with issued := true, waitIn := 1, words := x.words + 1 }
    (Fetches s.dev c 0x04 r x w → nbit w 26 = true → waits (.uDin c l) (.inReg (nbits w 23 20) (nbits w 25 24 + 1))) ∧
    (Fetches s.dev c 0x06 r x w → nbit w 26 = false →
      waits (.uPoll c l) (.status (cmdOpcode s.dev l 10) (lowBytes (prof s.dev l 0x19 1) (vReg x (nbits w 23 20))))) ∧
    (Fetches s.dev c 0x06 r x w → nbit w 26 = true → waits (.uPoll c l) (.status (cmdOpcode s.dev l 11) []))) ∧
  (∀ (s : State) (c r : Nat) (x : Rec) (w : Nat) (i : Instr), x.waitIn = 2 → x.pc ≠ 0xFFF →
    pcLegal (getChan s.dev c) (x.pc + 1) = true →
    (i = .uDin c (32 * c + x.sel) ∧ nbit w 26 = true ∧ Fetches s.dev c 0x04 r x w) ∨ (i = .uPoll c (32 * c + x.sel) ∧ Fetches s.dev c 0x06 r x w) →
    ∃ t, exec i s = .next t ∧ t.pending = s.pending ∧ (getChan t.dev c).bus = (getChan s.dev c).bus ∧
      getRec t.dev c r = some { x with waitIn := 0, pc := x.pc + 1, words := x.words + 1 }) ∧
  (∀ (s : State) (c r : Nat) (x : Rec) (w : Nat) (res : Option Word), Fetches s.dev c 0x14 r x w → (getChan s.dev c).bus = [] →
    (getChan s.dev c).phy = none → procRuns (getChan s.dev c).sig (getChan s.dev c).ext (nbits w 7 0) = true →
    ∃ t, exec (.uPhy c res) s = .next t ∧ t.pending = s.pending ∧
      (getChan t.dev c).phy = some (nbits w 7 0, vReg x (nbits w 23 20)) ∧ getRec t.dev c r = some { x with words := x.words + 1 }) ∧
  (∀ (s : State) (c r : Nat) (x : Rec) (w : Nat) (v : Word) (p : Nat × Nat), Fetches s.dev c 0x14 r x w → (getChan s.dev c).bus = [] →
    (getChan s.dev c).phy = some p → x.pc ≠ 0xFFF → pcLegal (getChan s.dev c) (x.pc + 1) = true →
    ∃ t, exec (.uPhy c (some v)) s = .next t ∧ t.pending = s.pending ∧ (getChan t.dev c).phy = none ∧
      getRec t.dev c r = some { setV x 11 v.toNat with pc := x.pc + 1, words := x.words + 1 })

/-- The control micro-operations (Table SEQ-4, R119, R120, R126, R129, R132, R135): WAIT goes on once its condition has the sense it names;
BR, and BRC whose condition holds, go to the target through the patch map, and BRC whose condition does not goes on; SETF changes
the flags it names; EVT traces and posts to the die scheduler; COMMIT sets COMMITTED once; END frees the record with its code.

Parking and waking (R127, R128, R130, R142): YIELD parks the routine and frees the bus; a parked routine wakes when its condition holds or
its R/B_n line rises, and the sequencer takes it; an abort wakes one that waits before COMMIT; a routine that never yields faults with
NO_YIELD and leaves its LUN INDETERMINATE. -/
def Obligations.ControlAndParking : Prop :=
  (∀ (s : State) (c r : Nat) (x : Rec) (w : Nat), x.pc ≠ 0xFFF → pcLegal (getChan s.dev c) (x.pc + 1) = true →
    (Fetches s.dev c 0x05 r x w → condLegal (nbits w 26 22) = true →
      condHolds (cycleCount c s.dev) c x (nbits w 26 22) = !nbit w 21 →
      ∃ t, exec (.uWait c) s = .next t ∧ t.pending = s.pending ∧ getRec t.dev c r = some { x with pc := x.pc + 1, words := x.words + 1 }) ∧
    (Fetches s.dev c 0x08 r x w → condLegal (nbits w 26 22) = true →
      condHolds (cycleCount c s.dev) c x (nbits w 26 22) = nbit w 21 →
      ∃ t, exec (.uBrc c) s = .next t ∧ getRec t.dev c r = some { x with pc := x.pc + 1, words := x.words + 1 }) ∧
    (Fetches s.dev c 0x0E r x w →
      let f := (x.f &&& ~~~BitVec.ofNat 8 (nbits w 15 8)) ||| BitVec.ofNat 8 (nbits w 23 16)
      f.getLsbD 7 = x.f.getLsbD 7 →
      ∃ t, exec (.uSetf c) s = .next t ∧ getRec t.dev c r = some { x with f := f, pc := x.pc + 1, words := x.words + 1 }) ∧
    (Fetches s.dev c 0x10 r x w →
      ∃ t, exec (.uEvt c) s = .next t ∧ t.pending = s.pending ∧ getRec t.dev c r = some { x with pc := x.pc + 1, words := x.words + 1 } ∧
        (getSched t.dev x.op.lun).posted = some (nbits w 7 0, vReg x (nbits w 23 20)) ∧ t.dev.ord = s.dev.ord) ∧
    (Fetches s.dev c 0x12 r x w → x.committed = false →
      ∃ t, exec (.uCommit c) s = .next t ∧ t.pending = s.pending ∧ getRec t.dev c r =
          some { x with committed := true, phase := nbits w 7 0, arrayAcc := 0, arrayFrom := some s.dev.now, progFrom := some s.dev.now,
                        pc := x.pc + 1, words := x.words + 1 } ∧
        (getChan t.dev c).rbHigh = (getChan s.dev c).rbHigh ∧ t.dev.scheds = s.dev.scheds)) ∧
  (∀ (s : State) (c r : Nat) (x : Rec) (w : Nat), pcLegal (getChan s.dev c) (patchTarget (getChan s.dev c) (nbits w 12 0)) = true →
    (Fetches s.dev c 0x07 r x w →
      ∃ t, exec (.uBr c) s = .next t ∧ t.pending = s.pending ∧
        getRec t.dev c r = some { x with pc := patchTarget (getChan s.dev c) (nbits w 12 0), words := x.words + 1 }) ∧
    (Fetches s.dev c 0x08 r x w → condLegal (nbits w 26 22) = true →
      condHolds (cycleCount c s.dev) c x (nbits w 26 22) = !nbit w 21 →
      ∃ t, exec (.uBrc c) s = .next t ∧
        getRec t.dev c r = some { x with pc := patchTarget (getChan s.dev c) (nbits w 12 0), words := x.words + 1 })) ∧
  (∀ (s : State) (c r : Nat) (x : Rec) (w : Nat),
    (Fetches s.dev c 0x12 r x w → x.committed = true →
      exec (.uCommit c) s = .next (after s fun d => seqPick c 64 (seqFault c r x.pc .doubleCommit (cycleCount c d)))) ∧
    (Fetches s.dev c 0x13 r x w →
      exec (.uEnd c) s = .next (after s fun d => seqPick c 64 (recEnd c r (nbits w 7 0) (nbits w 23 20)
        (traceRec c x.op.lun 3 x.pc (nbits w 7 0) (vReg x 10) (cycleCount c d)))) ∧
      ∃ t, exec (.uEnd c) s = .next t ∧ t.pending = s.pending ∧ getRec t.dev c r = none) ∧
    (Fetches s.dev c 0x11 r x w → x.abrq = false → nbits w 26 24 = 1 → x.pc ≠ 0xFFF → anyWoken s.dev c = false →
      ∃ t, exec (.uYield c) s = .next t ∧ t.pending = s.pending ∧ (getChan t.dev c).running = none ∧ (getChan t.dev c).phy = none ∧
        getRec t.dev c r = some { x with phase := nbits w 7 0, words := 0, pc := (x.pc + 1) % 8192, wake := 1, vt := vReg x (nbits w 23 20),
                                         parkedAt := some s.dev.now, wokenAt := none })) ∧
  (∀ (s : State) (c l r : Nat) (x : Rec), linkUp s.dev (groupOf c) = true → r = 2 * (l % 32) → getRec s.dev c r = some x →
      x.parkedAt.isSome = true → x.wokenAt = none → wakeHolds s.dev c x = true →
      exec (.yieldWake c l) s = .next (after s fun d => seqPick c 64 (wakeRec c r d)) ∧
      ((getChan s.dev c).running.isSome = true →
        ∃ t, exec (.yieldWake c l) s = .next t ∧ t.pending = s.pending ∧ getRec t.dev c r = some { x with wokenAt := some s.dev.now } ∧
          (getChan t.dev c).running = (getChan s.dev c).running ∧ t.dev.rf = s.dev.rf ∧ t.dev.scheds = s.dev.scheds) ∧
      ((getChan s.dev c).running = none → calHolds s.dev c = false → anyWoken s.dev c = false → oldestC0 (c0New s.dev c) = none →
        x.abrq = false →
        ∃ t, exec (.yieldWake c l) s = .next t ∧ t.pending = s.pending ∧ (getChan t.dev c).running = some r ∧
          getRec t.dev c r = some { x with parkedAt := none, wokenAt := none, words := 0 } ∧ t.dev.scheds = s.dev.scheds)) ∧
  (∀ (s : State) (c e : Nat), linkUp s.dev (groupOf c) = true → e < 4 → nbit (getF s.dev F.chnCfg_RB_IGN c) e = true →
      ∃ t, exec (.rbRise c e) s = .next t ∧ t.pending = s.pending ∧ (getChan t.dev c).rbHigh = (getChan s.dev c).rbHigh ||| (1#4 <<< e) ∧
        (getChan t.dev c).recs = (getChan s.dev c).recs ∧ t.dev.rf = s.dev.rf) ∧
  (∀ (s : State) (c e : Nat), linkUp s.dev (groupOf c) = true → e < 4 → nbit (getF s.dev F.chnCfg_RB_IGN c) e = false →
      exec (.rbRise c e) s = .next (after s fun d =>
        let d := modChan d c fun h => { h with rbHigh := h.rbHigh ||| (1#4 <<< e) }
        seqPick c 64 (each (((getChan d c).recs.filter fun q => decide (q.2.wake = 2 ∧ q.2.sel / 8 = e)).map (·.1))
          (fun d q => wakeRec c q d) d))) ∧
  (∀ (s : State) (c l r : Nat) (x : Rec), linkUp s.dev (groupOf c) = true → r = 2 * (l % 32) → getRec s.dev c r = some x →
      getRec s.dev c (r + 1) = none → x.parkedAt = none →
      ∃ t, exec (.abortRequest c l) s = .next t ∧ t.pending = s.pending ∧ getRec t.dev c r = some { x with abrq := true } ∧
        t.dev.rf = s.dev.rf ∧ t.dev.scheds = s.dev.scheds) ∧
  (∀ (s : State) (c r : Nat) (x : Rec), linkUp s.dev (groupOf c) = true → (getChan s.dev c).running = some r → getRec s.dev c r = some x →
      stallCounts s.dev c x = true →
      exec (.noYield c) s = .next (after s fun d => seqPick c 64 (seqFault c r x.pc .noYield d)) ∧
      (r = 2 * (x.op.lun % 32) → s.dev.codec.slots = [] → anyWoken s.dev c = false →
        ∃ t, exec (.noYield c) s = .next t ∧ t.pending = s.pending ∧ nbit (getReg t.dev .seqFault c) 5 = true ∧
          getRec t.dev c r = none ∧ lunIndet t.dev x.op.lun = true))

/-- The end of the bus cycle at the head of a channel's queue (R124, R160, R165): it leaves the queue; a pantry transfer out gives its page
slot back; a transfer in hands a read's codewords to the decoders, and leaves other bytes at their pantry address; a status or register read
puts its bytes in the register that waits for them. -/
def Obligations.BusTransfers : Prop :=
  ∀ (s : State) (c : Nat) (bs : List Byte) (b : BusCycle) (rest : List BusCycle), linkUp s.dev (groupOf c) = true →
    (getChan s.dev c).bus = b :: rest →
    (∀ a n, b.entry = .out a n →
      ∃ t, exec (.busTransferDone c bs) s = .next t ∧ t.pending = s.pending ∧ (getChan t.dev c).bus = rest ∧
        ∀ p ∈ t.dev.codec.slots, p.2.prog = true → p.2.addr ≠ a) ∧
    (∀ (a : Nat) (x : Rec), b.entry = .inp a bs.length → getRec s.dev c b.owner = some x → isReadCop x.op.cop = true →
      exec (.busTransferDone c bs) s = .next (after s fun d =>
        let d := busDriven c b (modChan d c fun h => { h with bus := rest })
        seqPick c 64 (busFront c (pantryClean a bs.length (resumeCheck x.op (takeSoft (takeHard (recvBytes x.op bs d)))))))) ∧
    (∀ (a n : Nat) (x : Rec), b.entry = .inp a n → getRec s.dev c b.owner = some x → isReadCop x.op.cop = false →
      (getChan s.dev c).running.isSome = true →
      ∃ t, exec (.busTransferDone c bs) s = .next t ∧ (getChan t.dev c).bus = rest ∧
        t.dev.codec = { s.dev.codec with bufs := nput s.dev.codec.bufs a (bs.take n) } ∧ t.dev.rf = s.dev.rf) ∧
    (∀ k, b.entry = .cmd k → (getChan s.dev c).running.isSome = true →
      ∃ t, exec (.busTransferDone c bs) s = .next t ∧ t.pending = s.pending ∧ (getChan t.dev c).bus = rest ∧
        (getChan t.dev c).lastOpc = k ∧ t.dev.codec = s.dev.codec ∧ t.dev.rf = s.dev.rf) ∧
    (∀ (v n : Nat) (x : Rec), b.entry = .inReg v n → getRec s.dev c b.owner = some x → (getChan s.dev c).running.isSome = true →
      ∃ t, exec (.busTransferDone c bs) s = .next t ∧ (getChan t.dev c).bus = rest ∧
        getRec t.dev c b.owner = some { setV x v (leNat (bs.take n)) with waitIn := 2 } ∧ t.dev.rf = s.dev.rf) ∧
    (∀ (o : Nat) (ra : List Nat) (x : Rec), b.entry = .status o ra → getRec s.dev c b.owner = some x →
      (getChan s.dev c).running.isSome = true →
      ∃ t, exec (.busTransferDone c bs) s = .next t ∧ (getChan t.dev c).bus = rest ∧ (getChan t.dev c).sr = bs.headD 0 ∧
        getRec t.dev c b.owner = some { setV x 10 (bs.headD 0).toNat with waitIn := 2, polls := x.polls + 1 })

/-- Every COP (R118, R119, R123, R134, R142, R160, Tables SEQ-3 and SEQ-7): where the channel's sequencer is free and its next choice is
LUN l's chosen operation, the profile supports it and nothing is suspended on the LUN, its routine runs in record A from entry address
128 · COP, through the patch map, with V0 to V5 and V8 loaded from the OP_REQ and SEL its LUN; a read is given the address of its slots; COPs
of no read are loaded whole.

A COP that the LUN's profile does not support ends NOT_SUPPORTED, and one that is no read and no reset on a LUN with a suspended
routine ends LUN_BUSY (R133, R134). -/
def Obligations.OperationsStartOrAreRefused : Prop :=
  (∀ (s : State) (l : Nat) (o : Op) (k : Nat) (i : Instr),
    (k, i) ∈ [(0x00, Instr.copReadPage (chanOf l) l), (0x01, .copReadMulti (chanOf l) l), (0x02, .copCacheRead (chanOf l) l),
      (0x03, .copSoftRead (chanOf l) l), (0x04, .copProgram (chanOf l) l), (0x05, .copProgramSlc (chanOf l) l),
      (0x06, .copProgramStep (chanOf l) l), (0x07, .copErase (chanOf l) l), (0x08, .copSuspend (chanOf l) l),
      (0x09, .copResume (chanOf l) l), (0x0A, .copReadStatus (chanOf l) l), (0x0B, .copGetFeat (chanOf l) l),
      (0x0C, .copSetFeat (chanOf l) l), (0x0D, .copResetLun (chanOf l) l), (0x0E, .copReadId (chanOf l) l),
      (0x0F, .copReadParam (chanOf l) l), (0x10, .copZqCal (chanOf l) l), (0x11, .copTrain (chanOf l) l),
      (0x12, .copRecover (chanOf l) l)] →
    (getSched s.dev l).chosen = some o → o.cop = k → o.lun = l → (∀ j n, o.use ≠ .ladder j n) →
    (getChan s.dev (chanOf l)).running = none → calHolds s.dev (chanOf l) = false → pickWoken s.dev (chanOf l) = none →
    (getChan s.dev (chanOf l)).up = true → linkUp s.dev (groupOf (chanOf l)) = true → nextCop s.dev (chanOf l) = some l →
    copSupported s.dev o = true → getRec s.dev (chanOf l) (2 * (l % 32)) = none →
    ∃ t x, exec i s = .next t ∧ t.pending = s.pending ∧ (getSched t.dev l).chosen = none ∧
      (getChan t.dev (chanOf l)).running = some (2 * (l % 32)) ∧ getRec t.dev (chanOf l) (2 * (l % 32)) = some x ∧ x.op.tag = o.tag ∧
      x.pc = patchTarget (getChan s.dev (chanOf l)) (128 * k) ∧ x.sel = l % 32 ∧ x.committed = false ∧ x.f = 0 ∧
      vReg x 0 = o.col % 2 ^ 32 ∧ vReg x 1 = o.row % 2 ^ 32 ∧ vReg x 3 = o.count % 2 ^ 32 ∧
      vReg x 4 = l % 32 ∧ vReg x 8 = o.arg % 2 ^ 32 ∧ (∀ j, 9 ≤ j → vReg x j = 0) ∧
      (isReadCop k = true → ∀ j, readRun s.dev o = some j → vReg x 2 = slotAddr s.dev j % 2 ^ 32) ∧
      (isReadCop k = false → vReg x 2 = o.addr % 2 ^ 32 ∧ vReg x 5 = o.flags % 32 ∧ vReg x 6 = o.offs % 2 ^ 32 ∧
        vReg x 7 = o.offsHi % 2 ^ 24)) ∧
  (∀ (d : Dev) (o : Op), copSupported (modChan (modSched d o.lun fun q => { q with chosen := none }) (chanOf o.lun) fun h =>
        { h with rr := (o.lun + 1) % 32 }) o = false →
      copStart o d = schedChoose o.lun (opEnd o 5 0 0 0 0 (modChan (modSched d o.lun fun q => { q with chosen := none }) (chanOf o.lun)
        fun h => { h with rr := (o.lun + 1) % 32 }))) ∧
  (∀ (d : Dev) (o : Op) (x : Rec), copSupported (modChan (modSched d o.lun fun q => { q with chosen := none }) (chanOf o.lun) fun h =>
        { h with rr := (o.lun + 1) % 32 }) o = true →
      getRec d (chanOf o.lun) (2 * (o.lun % 32)) = some x → recSusp x = true → isReadCop o.cop = false → isResetCop o.cop = false →
      copStart o d = opEnd o 7 0 0 0 0 (modChan (modSched d o.lun fun q => { q with chosen := none }) (chanOf o.lun)
        fun h => { h with rr := (o.lun + 1) % 32 }))

/-! ### Decoding and read recovery -/

/-- Hard decoding (R173, R174, R177, R192, R197, Table CDC-5): a decode that converges goes on to its checks, counts and outcome; one that
does not is decoded once more, from where its decoder stands, in the extended mode, and then goes on to the ladder's next step; the next
codeword takes the decoder.

Soft decoding and the recovery table (R175, R192 to R196): a soft pass counts, and either passes its codeword on or goes to the next soft
row, and after the last the codeword is uncorrectable; a soft pass is issued while the soft queue has room, class 0 first; a
codeword that waited for the table enters it when an entry is free, class 0 first. -/
def Obligations.DecodesAndRecovery : Prop :=
  (∀ (s : State) (i : Nat) (w : Codeword) (r : DecodeRes), getCw s.dev i = some w → w.st = .hard → decodeFits w r = true →
    let d0 := fun d : Dev => modCw i (fun x => { x with lop := none, src := [], iters := decodeIters w r })
      (when (decide (w.step ≠ 1)) (mstat F.cdcHcnt_COUNT 1) d)
    (r.conv = true → exec (.hardDecodeDone i r) s = .next (after s fun d => slotsSweep (takeHard (cwConverged i r (d0 d))))) ∧
    (r.conv = false → w.step = 0 →
      ∃ t x, exec (.hardDecodeDone i r) s = .next t ∧ t.pending = s.pending ∧ getCw t.dev i = some x ∧ x.st = .hard ∧ x.step = 1 ∧
        x.iters = w.lim ∧ x.raw = w.raw ∧ x.bestChecks = some (min r.unsat (w.bestChecks.getD r.unsat)) ∧ t.dev.ord = s.dev.ord) ∧
    (r.conv = false → 1 ≤ w.step →
      exec (.hardDecodeDone i r) s = .next (after s fun d =>
        slotsSweep (takeHard (ladderNext i 2 (mstat F.cdcHfail_EXT_FAIL 1 (noteChecks i r.unsat (d0 d)))))))) ∧
  (∀ (s : State) (i : Nat) (w : Codeword) (r : DecodeRes), getCw s.dev i = some w → w.st = .soft → decodeFits w r = true →
    let d0 := fun d : Dev => modCw i (fun x => { x with src := [], soft := none, iters := decodeIters w r }) (mstat F.cdcSoft_COUNT 1 d)
    (r.conv = false →
      exec (.softDecodeDone i r) s = .next (after s fun d => slotsSweep (takeSoft (ladderNext i 2 (mstat F.cdcSoft_FAIL 1 (d0 d)))))) ∧
    (r.conv = true → exec (.softDecodeDone i r) s = .next (after s fun d => slotsSweep (takeSoft (cwConverged i r (d0 d))))) ∧
    (r.conv = false → 100 ≤ w.step → getF s.dev F.rrcCfg_SOFT_PASSES < w.step - 99 →
      ∃ t, exec (.softDecodeDone i r) s = .next t ∧ t.pending = s.pending ∧ getCw t.dev i = none ∧ t.dev.ord = s.dev.ord)) ∧
  (∀ (s : State) (p : Nat × Codeword), softLoad s.dev < 64 →
      (s.dev.codec.cws.filter fun q => decide (q.2.st = .softWait)).find? (fun q => decide (q.2.cls = 0)) = some p →
      exec .softPassIssue s = .next (after s fun d => softIssue p.1 d) ∧
      (getCw s.dev p.1 = some p.2 →
        ∃ t, exec .softPassIssue s = .next t ∧ t.pending = s.pending ∧
          getCw t.dev p.1 = some { p.2 with st := .softSense, strobes := [], soft := none, src := [] } ∧ t.dev.ord = s.dev.ord)) ∧
  (∀ s : State, 64 ≤ softLoad s.dev → exec .softPassIssue s = .next s) ∧
  (∀ (s : State) (p : Nat × Codeword),
      (s.dev.codec.cws.filter fun q => decide (q.2.st = .tableWait) && tableRoom s.dev q.2.cls).find? (fun q => decide (q.2.cls = 0)) =
        some p →
      exec .recoveryEntryFree s = .next (after s fun d => ladderEnter p.1 2 d) ∧
      (getCw s.dev p.1 = some p.2 → p.2.verify = false → isSweep (cwOp s.dev p.2) = false → profFeat s.dev p.2.lun 5 = true →
        lunIsol s.dev p.2.lun = false → p.2.rowsTried = [] → 0 < prof s.dev p.2.lun 0x1D 1 →
        ∃ t x, exec .recoveryEntryFree s = .next t ∧ t.pending = s.pending ∧ getCw t.dev p.1 = some x ∧ x.st = .rowWait ∧
          x.inTable = true ∧ x.enteredAt = s.dev.now ∧ x.raw = p.2.raw ∧ t.dev.ord = s.dev.ord)) ∧
  (∀ s : State, s.dev.codec.cws = [] → exec .recoveryEntryFree s = .next s)

/-- R166, R167. The randomiser's stream is the same on both ways: applied twice to any data from the same state it gives the data back;
its state is never zero, at the start of a codeword and after every step. -/
def Obligations.RandomiserIsItsOwnInverse : Prop :=
  (∀ (bs : List Byte) (s : BitVec 32), randomise (randomise bs s) s = bs) ∧
    (∀ seed row k : Nat, streamState seed row k ≠ 0#32) ∧ (∀ s : BitVec 32, s ≠ 0#32 → (lfsrStep s).2 ≠ 0#32)

/-! ### Programs, errors and the journal -/

/-- Program units (R160, R201, R207 to R209, R308, R325, R463): PACKER_DRAW takes what is due from a FIFO, and gives the sectors that it
draws to the stream's filling unit; ENCODE_DONE ends the plane page in the encoder's hand; the archival wait ends with NOT_AG; a stalled
move is flagged; and a poll in the band notes its temperature and releases the units that wait for it. -/
def Obligations.ProgramUnits : Prop :=
  (∀ (s : State) (k : Nat), progMay s.dev = true →
      exec (.packerDraw k) s = .next (after s fun d => isolSweep (packerRun (fun _ => true) k d))) ∧
  (∀ (s : State) (k : Nat), progMay s.dev = false → exec (.packerDraw k) s = .next s) ∧
  (∀ (s : State) (k u a : Nat) (x : Machine.PUnit) (f : FSec) (c : Cmd), progMay s.dev = true → (∀ l, lunIsol s.dev l = false) →
      drawNext s.dev (fun _ => true) (getFifo s.dev k) = some (f, a, c) → (getNs s.dev c.ns).random = true → c.accepted < c.need →
      s.dev.pgm.units.find? (fun p => decide (p.2.st = .filling ∧ p.2.ns = c.ns ∧ p.2.cls = c.cls ∧ p.2.use = .fifo k)) = some (u, x) →
      nfind s.dev.pgm.units u = some x →
      (undrawn (getFifo s.dev k) a).length + x.sectors.length < unitSecs s.dev x →
      ∃ t, exec (.packerDraw k) s = .next t ∧ t.pending = s.pending ∧ (getUnit t.dev u).st = .filling ∧
        (getUnit t.dev u).sectors = x.sectors ++
          (undrawn (getFifo s.dev k) a).map fun y => cmdSector s.dev (getFifo s.dev k) a (getCmd s.dev a) y) ∧
  (∀ (s : State) (c u : Nat) (x : Machine.PUnit), progMay s.dev = true → nfind s.dev.codec.enc c = some u →
      nfind s.dev.pgm.units u = some x → (x.encoded + 1) % profPlanes s.dev x.lun ≠ 0 →
      x.encoded % profPlanes s.dev x.lun + 1 ≠ profPlanes s.dev x.lun →
      ∃ t, exec (.encodeDone c) s = .next t ∧ t.pending = s.pending ∧ (getUnit t.dev u).encoded = x.encoded + 1 ∧
        (getUnit t.dev u).copsDone = x.copsDone ∧ t.dev.ord.ops = s.dev.ord.ops) ∧
  (∀ (s : State) (u : Nat) (x : Machine.PUnit), progMay s.dev = true → nfind s.dev.pgm.units u = some x → x.st = .waitBand →
      isMove x = false →
      exec (.archWaitExpiry u) s = .next (after s fun d => markNotAg u d) ∧
      ∃ t, exec (.archWaitExpiry u) s = .next t ∧ t.pending = s.pending ∧ (getUnit t.dev u).st = .ready ∧
        (getUnit t.dev u).offBand = true ∧ (getUnit t.dev u).sectors = x.sectors.map fun y =>
          if nbit y.info.flags 0 then { y with info := { y.info with flags := y.info.flags ||| 2 } } else y) ∧
  (∀ (s : State) (u : Nat), (getUnit s.dev u).st = .waitBand → isMove (getUnit s.dev u) = true → getF s.dev F.pgmVcfg_ARCH_STALL ≠ 0 →
      ∃ t, exec (.archStallExpiry u) s = .next t ∧ t.pending = s.pending ∧ getF t.dev F.pgmStat_BAND_STALL = 1 ∧ t.dev.pgm = s.dev.pgm) ∧
  (∀ (s : State) (l u : Nat) (x : Machine.PUnit) (temp : BitVec 8), progMay s.dev = true → profFeat s.dev l 8 = true →
      canPoll s.dev l = true →
      (s.dev.pgm.units.filter fun q => decide (q.2.lun = l ∧ q.2.st = .waitBand)) = [(u, x)] → nfind s.dev.pgm.units u = some x →
      inBand s.dev (128 * dieTemp s.dev l temp) = true →
      ∃ t, exec (.archBandPoll l temp) s = .next t ∧ t.pending = s.pending ∧ getUnit t.dev u = { x with st := .ready } ∧
        nget none t.dev.thm.temps l = some (dieTemp s.dev l temp, s.dev.now) ∧ t.dev.rf = s.dev.rf ∧ t.dev.ord = s.dev.ord)

/-- The error queue (R293 to R296): an entry whose recovery is done and whose turn it is becomes RESOLVED with its outcome and sets NEW, its
parent is to resolve ESCALATED, and the action in place whose turn has come begins; an acknowledge removes the RESOLVED entry of
its ESEQ, and any other is flagged. -/
def Obligations.ErrorQueue : Prop :=
  (∀ (s : State) (e : EqEntry) (o : Nat), s.dev.ord.eq.find? (fun x => decide (x.eseq = e.eseq)) = some e → e.fin = some o →
      e.resolved = false → eqTurn s.dev e = true → s.dev.mode.mode ≠ .safe →
      let f := fun (x : EqEntry) =>
        if x.eseq = e.eseq then { x with resolved := true, outcome := o }
        else if some x.eseq = e.parent ∧ !x.resolved then { x with fin := some 4 } else x
      exec (.errorEntryResolve e.eseq) s = .next (after s fun d =>
        eqStart (setF (modOrd d fun r => { r with eq := r.eq.map f }) F.ordEqstat_NEW 1)) ∧
      ((s.dev.ord.eq.filter fun x => !x.resolved && x.act.isSome && !x.started) = [] →
        ∃ t, exec (.errorEntryResolve e.eseq) s = .next t ∧ t.pending = s.pending ∧
          t.dev.ord = { s.dev.ord with eq := s.dev.ord.eq.map f } ∧ isSet t.dev F.ordEqstat_NEW = true ∧ t.dev.pgm = s.dev.pgm ∧
          t.dev.xlt = s.dev.xlt)) ∧
  (∀ (s : State) (v : Word), socUp s.dev = true → (s.dev.ord.eq.any fun e => decide (e.eseq % 2 ^ 32 = v.toNat) && e.resolved) = true →
      ∃ t, exec (.eqAck v) s = .next t ∧ t.pending = s.pending ∧ t.dev.rf = s.dev.rf ∧ t.dev.ord = { s.dev.ord with eq :=
        (s.dev.ord.eq.filter fun e => !(decide (e.eseq % 2 ^ 32 = v.toNat) && e.resolved)) }) ∧
  (∀ (s : State) (v : Word), socUp s.dev = true → (s.dev.ord.eq.any fun e => decide (e.eseq % 2 ^ 32 = v.toNat) && e.resolved) = false →
      ∃ t, exec (.eqAck v) s = .next t ∧ t.dev.ord = s.dev.ord ∧ isSet t.dev F.ordEqstat_ACKERR = true)

/-- Work that timers begin (R188, R190, R191, R214, R218, R236, R244, R272, R302): JRNL_INT forces the journal as far as its newest entry, the
age clock is counted minute by minute, OFFTIME adds its hours, the threshold table is saved every SAVE_H hours, a RANDOM namespace's dirty
segments go to a map checkpoint, STAGED zone commands get their CHECKPOINT, the refresh scan notes its time, and a threshold sweep reads a
programmed page with the predicted offsets and with each retry row. -/
def Obligations.TimedWork : Prop :=
  (∀ (s : State) (e : JEntry), s.dev.pgm.buf.getLast? = some e → sysMay s.dev = true →
      exec .jrnlIntExpiry s = .next (after s fun d => jForce e.jseq d) ∧
      (jBusy s.dev = true →
        ∃ t, exec .jrnlIntExpiry s = .next t ∧ t.pending = s.pending ∧ t.dev.pgm = { s.dev.pgm with force := max s.dev.pgm.force e.jseq } ∧
          t.dev.rf = s.dev.rf ∧ t.dev.ord = s.dev.ord) ∧
      (jBusy s.dev = false → (nextPair s.dev).isSome = true → (∀ x ∈ s.dev.pgm.buf, x.jseq ≤ e.jseq) →
        ∃ t, exec .jrnlIntExpiry s = .next t ∧ t.pending = s.pending ∧ t.dev.pgm.buf = s.dev.pgm.buf.drop 512 ∧
          t.dev.pgm.bufSince = s.dev.now ∧ t.dev.pgm.force = max s.dev.pgm.force e.jseq)) ∧
  (∀ s : State, s.dev.pins.poHigh = true → s.dev.mode.mode ≠ .off →
      exec .ageClockMinute s = .next { s with dev := { s.dev with ageMin := s.dev.ageMin + 1 } }) ∧
  (∀ (s : State) (v : Word), socUp s.dev = true →
      exec (.offtimeWrite v) s = .next { s with dev := { s.dev with ageMin := s.dev.ageMin + 60 * nbits v.toNat 19 0 } }) ∧
  (∀ s : State, thrDue s.dev = true → sysMay s.dev = true → s.dev.mode.restored = true →
      exec .thresholdSave s = .next (after s fun d =>
        sysIssue .threshold [] d.ageMin (modRrc d fun r => { r with savedAge := d.ageMin, savedTable := r.table })) ∧
      ∃ t, exec .thresholdSave s = .next t ∧ t.pending = s.pending ∧
        t.dev.rrc = { s.dev.rrc with savedAge := s.dev.ageMin, savedTable := s.dev.rrc.table } ∧ t.dev.xlt = s.dev.xlt) ∧
  (∀ s : State, thrDue s.dev = false → exec .thresholdSave s = .next s) ∧
  (∀ (s : State) (n : Nat), (getNs s.dev n).present = true → (getNs s.dev n).random = true → sysMay s.dev = true →
      (nextPair s.dev).isSome = true → (s.dev.xlt.dirtySegs.any fun q => decide (q.1 = n)) = true →
      let k := nget 0 s.dev.xlt.mapAsm n + 1
      let g := fun x : Xlt => { x with mapAsm := nput x.mapAsm n k, dirtySegs := x.dirtySegs.filter (fun q => decide (q.1 ≠ n)),
                                         ckptAge := nput x.ckptAge n s.dev.ageMin }
      exec (.mapCheckpoint n) s = .next (after s fun d => sysIssue (.mapSegs n) [] k (modXlt d g)) ∧
      ∃ t, exec (.mapCheckpoint n) s = .next t ∧ t.pending = s.pending ∧ t.dev.xlt = g s.dev.xlt ∧ t.dev.rrc = s.dev.rrc) ∧
  (∀ s : State, (s.dev.ord.cmds.any fun c => decide (c.2.opc = 0x11 ∨ c.2.opc = 0x12) && c.2.staged && !c.2.durable) = true →
      exec .zoneCheckpointTimer s = .next (after s fun d => ckptPump (ckptAsk d).2) ∧
      (s.dev.pgm.ckptPending.isSome = true →
        ∃ t, exec .zoneCheckpointTimer s = .next t ∧ t.pending = s.pending ∧ t.dev.pgm = { s.dev.pgm with ckptWanted := true } ∧
          t.dev.ord = s.dev.ord ∧ t.dev.rf = s.dev.rf) ∧
      (sysMay s.dev = true → s.dev.pgm.ckptPending = none → (nextPair s.dev).isSome = true →
        (s.dev.pgm.pages.any fun p => decide (p.2.kind = .checkpoint)) = false →
        ∃ t, exec .zoneCheckpointTimer s = .next t ∧ t.dev.pgm.ckptAsm = s.dev.pgm.ckptAsm + 1 ∧ t.dev.xlt = s.dev.xlt)) ∧
  (∀ s : State, s.dev.mode.restored = true →
      ∃ t, exec .refreshScan s = .next t ∧ t.pending = s.pending ∧ t.dev.xlt.lastScan = s.dev.ageMin) ∧
  (∀ (s : State) (l row k : Nat), isSet s.dev F.rrcCfg_SWEEP_EN = true → getF s.dev F.rrcTiming_SWEEP_H ≠ 0 →
      sweepPage s.dev l row = true → s.dev.hk.shed = 0 → s.dev.mode.mode = .maintain →
      nfind s.dev.rrc.sweptAt (sweepKey s.dev l row) = none → lunUsable s.dev l = true → profFeat s.dev l 5 = true →
      nfind s.dev.rrc.sweeps (sweepKey s.dev l row) = none →
      exec (.thresholdSweep l row k) s = .next (after s fun d =>
        let cw := cwBytes d l
        let rows := List.range (prof d l 0x1D 1)
        let d := modRrc d fun r => { r with sweeps := nput r.sweeps (sweepKey s.dev l row) { left := rows.length + 1 } }
        let d := opIssue { lun := l, cls := 4, cop := 0, col := k % 4 * cw, row := row, count := cw, arg := 0, use := .sweep l row k, pred := true } d
        each rows (fun d r =>
          let q := packOffs (rowOffsets d l r false)
          opIssue { lun := l, cls := 4, cop := 0, col := k % 4 * cw, row := row, count := cw, offs := q.1, offsHi := q.2, arg := r + 1,
                    use := .sweep l row k } d) d) ∧
      ∃ t, exec (.thresholdSweep l row k) s = .next t ∧ t.pending = s.pending ∧
        t.dev.rrc = { s.dev.rrc with sweeps := nput s.dev.rrc.sweeps (sweepKey s.dev l row) { left := prof s.dev l 0x1D 1 + 1 } } ∧
        t.dev.ord.nextTag = s.dev.ord.nextTag + prof s.dev l 0x1D 1 + 1 ∧ t.dev.pgm = s.dev.pgm)

/-- The start-gap ring (R230, R231): the S zones of a ring stand at S of its S + 1 positions, 0 to S, no two at the same and none at the
gap. -/
def Obligations.RingPlacesZonesApart : Prop :=
  ∀ (w gap n z z' : Nat), gap ≤ n → z < n → z' < n →
    ringPos w gap n z ≤ n ∧ ringPos w gap n z ≠ gap ∧ (ringPos w gap n z = ringPos w gap n z' → z = z')

/-- Relocations and collections (R231, R235, R236, R240, R243): a gap move that is due copies a FULL zone, waits for an OPEN one and moves an
EMPTY one at once; the phases of a relocation follow one another once the copies are DURABLE, and a gap move ends with the ring's window
moved by one; a collection takes the victim of R243, and frees at once one that holds no valid sector.

The map cache's maintenance (R247, R248, R455): INVALIDATE writes a line back where it is dirty, drops it and raises its generation, and
acts on one line or on all; WRITE_BACK_ALL writes the dirty ones back and keeps their data; clearing EN does so first, and setting EN
only sets it. -/
def Obligations.RelocationsAndMapCache : Prop :=
  (∀ (s : State) (sg n : Nat) (ns : NsSec) (g : SgRow), sgFind s.dev sg = some (n, ns, g) → ns.random = false →
      (getRing s.dev sg).reloc = none → s.dev.hk.shed < 4 → 0 < (getRing s.dev sg).moveQueued → relocMay s.dev .gapMove 0 = true →
      let r := getRing s.dev sg
      let zl := ringZone r.w r.gap (ringS g) (gapPositions g r).1
      ((getZone s.dev n (ringZoneNo ns sg zl)).st = .empty → exec (.relocationStart sg) s = .next (after s fun d => gapMoveEnd sg g d) ∧
        ∃ t, exec (.relocationStart sg) s = .next t ∧ t.pending = s.pending ∧ getRing t.dev sg = gapMoved g r) ∧
      ((getZone s.dev n (ringZoneNo ns sg zl)).st = .open_ →
        ∃ t, exec (.relocationStart sg) s = .next t ∧ t.pending = s.pending ∧ getRing t.dev sg = { r with waitOpen := true } ∧
          t.dev.pgm = s.dev.pgm ∧ t.dev.ord = s.dev.ord ∧ t.dev.rf = s.dev.rf) ∧
      ((getZone s.dev n (ringZoneNo ns sg zl)).st = .full →
        exec (.relocationStart sg) s = .next (after s fun d =>
          relocBegin sg ns g n { kind := .gapMove, zl := zl, src := (gapPositions g r).1, dst := (gapPositions g r).2 }
            (modRing d sg fun x => { x with waitOpen := false })) ∧
        ∃ t x, exec (.relocationStart sg) s = .next t ∧ (getRing t.dev sg).reloc = some x ∧ x.kind = .gapMove ∧ x.zl = zl ∧
          x.src = (gapPositions g r).1 ∧ x.dst = (gapPositions g r).2 ∧ x.phase = 1)) ∧
  (∀ (s : State) (sg n : Nat) (ns : NsSec) (g : SgRow) (r : Reloc), sgFind s.dev sg = some (n, ns, g) → (getRing s.dev sg).reloc = some r →
      relocMay s.dev r.kind r.sev = true → r.phase = 1 → r.kind = .gapMove → r.units ≤ r.unit → r.cur = none →
      (s.dev.pgm.units.all fun u => decide (u.2.use ≠ .ring sg) || u.2.durable || decide (u.2.st = .abandoned)) = true →
      exec (.relocationPhaseEnd sg) s = .next (after s fun d =>
        gapMoveEnd sg g (modPgm d fun p => { p with units := p.units.filter fun u => decide (u.2.use ≠ .ring sg) })) ∧
      ∃ t, exec (.relocationPhaseEnd sg) s = .next t ∧ t.pending = s.pending ∧ getRing t.dev sg = gapMoved g (getRing s.dev sg) ∧
        t.dev.pgm.units = s.dev.pgm.units.filter fun u => decide (u.2.use ≠ .ring sg)) ∧
  (∀ (s : State) (n v : Nat), (getNs s.dev n).random = true → (getNs s.dev n).present = true → getGc s.dev n = none →
      s.dev.mode.mode.run = true → s.dev.mode.bgStop = false → s.dev.hk.shed < 4 → gcVictim s.dev (getNs s.dev n) = some v →
      exec (.gcStart n) s = .next (after s fun d => gcPump n 4 (setGc n (some { sbn := v }) d)) ∧
      ((getSb s.dev v).valid = 0 →
        ∃ t, exec (.gcStart n) s = .next t ∧ t.pending = s.pending ∧ getGc t.dev n = none ∧ getSb t.dev v = {} ∧
          t.dev.ord = s.dev.ord ∧ t.dev.rf = s.dev.rf) ∧
      ((getSb s.dev v).valid ≠ 0 → 0 < sbUnits s.dev (getNs s.dev n) v →
        ∃ t, exec (.gcStart n) s = .next t ∧ t.pending = s.pending ∧
          getGc t.dev n = some { sbn := v, next := 1, reading := some s.dev.pgm.nextUnit })) ∧
  (∀ s : State, socUp s.dev = true →
    let i := getF s.dev F.xltMcaddr_LINE
    exec .mcInvalidateAll s = .next (after s fun d => each (d.xlt.lines.map (·.1)) (fun d i => lineInval i d) d) ∧
    (∃ t, exec .mcInvalidateLine s = .next t ∧ t.pending = s.pending ∧ getLine t.dev i =
      { getLine s.dev i with gen := (getLine s.dev i).gen + 1, valid := false, here := false, data := [], used := 0, dirty := false,
                             inval := (getLine s.dev i).filling.isSome }) ∧
    (∃ t, exec .mcInvalidateAll s = .next t ∧ t.pending = s.pending ∧ ∀ p ∈ s.dev.xlt.lines, (getLine t.dev p.1).valid = false ∧
      (getLine t.dev p.1).data = [] ∧ (getLine t.dev p.1).dirty = false ∧ (getLine s.dev p.1).gen < (getLine t.dev p.1).gen) ∧
    (∃ t, exec .mcWriteBackAll s = .next t ∧ t.pending = s.pending ∧ ∀ j, (getLine t.dev j).dirty = false ∧
      (getLine t.dev j).data = (getLine s.dev j).data ∧ (getLine t.dev j).valid = (getLine s.dev j).valid) ∧
    (∃ t, exec .mcEnableClear s = .next t ∧ t.pending = s.pending ∧ isSet t.dev F.xltMcctl_EN = false ∧
      ∀ j, (getLine t.dev j).dirty = false ∧ (getLine t.dev j).data = (getLine s.dev j).data) ∧
    (∃ t, exec .mcEnableSet s = .next t ∧ t.pending = s.pending ∧ isSet t.dev F.xltMcctl_EN = true ∧ t.dev.xlt = s.dev.xlt))

/-! ### Queues and completions -/

/-- Setting up and clearing queues (R251, R281, R302): EN of an SQ with a size and an enabled CQ starts it empty, with a new fetch period,
and without them sets CFGERR; a CQ likewise; a reset of an SQ stops its fetch at HEAD and aborts its commands, and ends once every
completion is written; a CQ that no enabled SQ names is emptied, and one that is named is not. -/
def Obligations.QueuesAreSetUpAndReset : Prop :=
  ∀ (s : State) (q : Nat), socUp s.dev = true → q < 64 →
    (sqEn s.dev q = false → getF s.dev F.cqSqcfg_SIZE q ≠ 0 → cqEn s.dev (getF s.dev F.cqSqcfg_CQID q) = true →
      ∃ t, exec (.sqEnable q) s = .next t ∧ t.pending = s.pending ∧ sqEn t.dev q = true ∧ (getSq t.dev q).tail = 0 ∧ (getSq t.dev q).head = 0 ∧
        (getSq t.dev q).inflight = 0 ∧ (getSq t.dev q).period = (getSq s.dev q).period + 1 ∧ t.dev.ord = s.dev.ord ∧ t.dev.mode = s.dev.mode) ∧
    (sqEn s.dev q = false → getF s.dev F.cqSqcfg_SIZE q = 0 ∨ cqEn s.dev (getF s.dev F.cqSqcfg_CQID q) = false →
      ∃ t, exec (.sqEnable q) s = .next t ∧ isSet t.dev F.cqErr_CFGERR = true ∧ t.dev.cq = s.dev.cq) ∧
    (cqEn s.dev q = false → getF s.dev F.cqCqcfg_SIZE q ≠ 0 →
      ∃ t, exec (.cqEnable q) s = .next t ∧ t.pending = s.pending ∧ cqEn t.dev q = true ∧ getCqq t.dev q = {} ∧ t.dev.ord = s.dev.ord) ∧
    (∀ off : Bool, (getSq s.dev q).rst = false → (off = true → sqEn s.dev q = true) →
      exec (.sqReset q off) s = .next (after s fun d =>
        let d := setF (modSq q (fun x => { x with rst := true, clearEn := off, kept := none, tail := x.head }) (fetchStop q d)) F.cqSqcfg_RST 1 q
        observePump (each ((d.ord.cmds.filter fun c => decide (c.2.sq = q)).map (·.1)) (fun d a => cmdAbort a d) d)) ∧
      ((∀ p ∈ s.dev.ord.cmds, p.2.sq ≠ q ∧ isObserve p.2 = false) →
        ∃ t, exec (.sqReset q off) s = .next t ∧ t.pending = s.pending ∧ getF t.dev F.cqSqcfg_RST q = 1 ∧ t.dev.ord = s.dev.ord ∧
          getSq t.dev q = { getSq s.dev q with rst := true, clearEn := off, kept := none, tail := (getSq s.dev q).head,
                                               ask := (getSq s.dev q).head, period := (getSq s.dev q).period + 1, got := [] })) ∧
    ((getSq s.dev q).rst = true → (s.dev.ord.cmds.any fun c => decide (c.2.sq = q ∧ c.2.st ≠ .released)) = false →
      ∃ t, exec (.sqResetComplete q) s = .next t ∧ t.pending = s.pending ∧ (getSq t.dev q).rst = false ∧ (getSq t.dev q).head = 0 ∧
        getF t.dev F.cqSqcfg_RST q = 0 ∧ ((getSq s.dev q).clearEn = true → sqEn t.dev q = false) ∧ t.dev.ord = s.dev.ord) ∧
    (∀ off : Bool, (off = true → cqEn s.dev q = true) → cqNamed s.dev q = false →
      ∃ t, exec (.cqReset q off) s = .next t ∧ t.pending = s.pending ∧ getCqq t.dev q = {} ∧ pendGet t.dev q = false ∧
        (off = true → cqEn t.dev q = false) ∧ t.dev.ord = s.dev.ord) ∧
    (∀ off : Bool, (off = true → cqEn s.dev q = true) → cqNamed s.dev q = true →
      ∃ t, exec (.cqReset q off) s = .next t ∧ t.dev.cq = s.dev.cq ∧ isSet t.dev F.cqErr_CFGERR = true)

/-- Doorbells and fetching (R252, R255, R257, R303): a tail doorbell within its queue moves the tail, one beyond it or at a queue that is
not enabled is an error and moves nothing; while quiesced it is only recorded; a head doorbell makes room for what waits; SQ_FETCH
gives one SQ its turn, a class-0 one first, and asks for its entries. -/
def Obligations.DoorbellsAndFetching : Prop :=
  (∀ (s : State) (q : Nat) (v : Word), running s.dev = true → q < 64 → s.dev.mode.mode ≠ .dormant → s.dev.ord.quiesce = false →
      sqEn s.dev q = true → (getSq s.dev q).rst = false → v.toNat % 65536 < sqLen s.dev q →
      exec (.sqDoorbell q v) s = .next (after s fun d =>
        doorbellWake (modSq q (fun x => { x with tail := v.toNat % 65536, dbAt := d.now }) d)) ∧
      (s.dev.mode.mode.run = true → s.dev.mode.trans = none →
        ∃ t, exec (.sqDoorbell q v) s = .next t ∧ t.pending = s.pending ∧
          getSq t.dev q = { getSq s.dev q with tail := v.toNat % 65536, dbAt := s.dev.now } ∧ (∀ r, r ≠ q → getSq t.dev r = getSq s.dev r) ∧
          t.dev.mode = s.dev.mode ∧ t.dev.ord = s.dev.ord ∧ t.dev.rf = s.dev.rf)) ∧
  (∀ (s : State) (q : Nat) (v : Word), running s.dev = true → q < 64 → s.dev.mode.mode ≠ .dormant → s.dev.ord.quiesce = false →
      (sqEn s.dev q = false ∨ sqLen s.dev q ≤ v.toNat % 65536) →
      ∃ t, exec (.sqDoorbell q v) s = .next t ∧ t.dev.cq.sqs = s.dev.cq.sqs ∧ isSet t.dev F.cqErr_DBERR = true) ∧
  (∀ (s : State) (q : Nat) (v : Word), running s.dev = true → q < 64 → s.dev.mode.mode ≠ .dormant → s.dev.ord.quiesce = true →
      (getSq s.dev q).rst = false →
      exec (.sqDoorbell q v) s = .next { s with dev := modSq q (fun x => { x with kept := some (v.toNat % 65536) }) s.dev }) ∧
  (∀ (s : State) (q : Nat) (v : Word), running s.dev = true → q < 64 → s.dev.mode.mode ≠ .dormant → cqEn s.dev q = true →
      v.toNat % 65536 < cqLen s.dev q →
      (v.toNat % 65536 + cqLen s.dev q - (getCqq s.dev q).head) % cqLen s.dev q ≤ cqUnread s.dev q →
      exec (.cqDoorbell q v) s = .next (after s fun d => cqPump q 65536 (modCqq q (fun c => { c with head := v.toNat % 65536 }) d)) ∧
      ((getCqq s.dev q).waiting = [] →
        ∃ t, exec (.cqDoorbell q v) s = .next t ∧ t.pending = s.pending ∧ getCqq t.dev q = { getCqq s.dev q with head := v.toNat % 65536 } ∧
          t.dev.ord = s.dev.ord ∧ t.dev.rf = s.dev.rf ∧ t.dev.mp = s.dev.mp)) ∧
  (∀ (s : State) (q : Nat), fetchMay s.dev = true → fetchPick s.dev = some q → (getSq s.dev q).ask < sqLen s.dev q →
      ∃ t, exec .sqFetch s = .next t ∧ t.pending = s.pending ∧
        getSq t.dev q =
          { getSq s.dev q with ask := ((getSq s.dev q).ask + turnRuns s.dev q (turnSize s.dev q)) % sqLen s.dev q } ∧
        (∀ r, r ≠ q → getSq t.dev r = getSq s.dev r) ∧
        (isSet s.dev F.cqSqcfg_C0_EN q = true → t.dev.cq.rr0 = (q + 1) % 64 ∧ t.dev.cq.rr1 = s.dev.cq.rr1) ∧
        (isSet s.dev F.cqSqcfg_C0_EN q = false → t.dev.cq.rr1 = (q + 1) % 64 ∧ t.dev.cq.rr0 = s.dev.cq.rr0) ∧
        t.dev.ord = s.dev.ord ∧ t.dev.mode = s.dev.mode) ∧
  (∀ (s : State) (q r : Nat), fetchPick s.dev = some q → isSet s.dev F.cqSqcfg_C0_EN q = false → r < 64 →
      isSet s.dev F.cqSqcfg_C0_EN r = true → turnSize s.dev r = 0) ∧
  (∀ s : State, fetchMay s.dev = false → exec .sqFetch s = .next s)

/-- Completions, quiesce and the epoch register (R256, R287, R290, R303, R306): a finished command whose conditions hold has its
completion written in its CQ's next slot, or waits for room there; an ORDERED command waits for the earlier ones of its SQ; the aggregation
timer sets PEND; clearing PEND starts the aggregation anew, and sets PEND again for entries not consumed; QUIESCE stops every fetch, is READY
once everything is out and DURABLE, and its end lets the recorded doorbells act; the epoch number moves forward only before a run mode is
entered. -/
def Obligations.CompletionsAndQuiesce : Prop :=
  (∀ (s : State) (arr : Nat) (c : Cmd), let d := cmdSweep s.dev
      nfind d.ord.cmds arr = some c → running d = true → releaseReady d arr c = true → orderHeld d arr c = false →
      d.mode.mode ≠ .safe → c.opc ≠ 0x21 → (getCqq d (cmdCq d c)).waiting.contains arr = false →
      exec (.completionRelease arr) s = .next (after s fun d =>
        let q := cmdCq (cmdSweep d) c
        cqPump q 65536 (modCqq q (fun x => { x with waiting := x.waiting ++ [arr] })
          (queueHeal (64 + q) (queueHeal c.sq (modCmd arr (fun c => { c with st := .finished, status := c.status }) (cmdSweep d)))))) ∧
      ((cqFull d (cmdCq d c) = true ∨ (getCqq d (cmdCq d c)).stopped = true) →
        ∃ t, exec (.completionRelease arr) s = .next t ∧ t.pending = s.pending ∧
          (getCqq t.dev (cmdCq d c)).waiting = (getCqq d (cmdCq d c)).waiting ++ [arr] ∧ (getCmd t.dev arr).st = .finished) ∧
      (cqFull d (cmdCq d c) = false → (getCqq d (cmdCq d c)).stopped = false → cqEn d (cmdCq d c) = true →
        (getCqq d (cmdCq d c)).waiting = [] →
        ∃ t, exec (.completionRelease arr) s = .next t ∧ t.pending = s.pending ∧ (getCmd t.dev arr).st = .writing ∧
          (getCqq t.dev (cmdCq d c)).waiting = [] ∧
          (getCqq t.dev (cmdCq d c)).tail = ((getCqq d (cmdCq d c)).tail + 1) % cqLen d (cmdCq d c))) ∧
  (∀ (d : Dev) (arr a : Nat) (c c' : Cmd), (a, c') ∈ d.ord.cmds → a < arr → c'.sq = c.sq → c'.st ≠ .released → c.aborted = false →
      c'.aborted = false → nbit c.flags 0 = true ∨ nbit c'.flags 0 = true → orderHeld d arr c = true) ∧
  (∀ (s : State) (q : Nat), q < 64 → (getCqq s.dev q).firstAt.isSome = true → getF s.dev F.cqCqcfg_AGG_T q ≠ 0 → pendGet s.dev q = false →
      ∃ t, exec (.cqAggTimer q) s = .next t ∧ t.pending = s.pending ∧ pendGet t.dev q = true ∧
        getCqq t.dev q = { getCqq s.dev q with afterPend := 0 } ∧ t.dev.ord = s.dev.ord) ∧
  (∀ (s : State) (hi : Bool) (mask : Word), socUp s.dev = true →
      exec (.cqPendClear hi mask) s = .next (after s fun d =>
        each ((List.range 32).filter fun i => nbit mask.toNat i) (fun d i => pendClear (i + 32 * b2n hi) d) d) ∧
      ∃ t, exec (.cqPendClear hi mask) s = .next t ∧ t.pending = s.pending ∧ t.dev.ord = s.dev.ord ∧ ∀ i < 32,
        let q := i + 32 * b2n hi
        (nbit mask.toNat i = false → pendGet t.dev q = pendGet s.dev q ∧ getCqq t.dev q = getCqq s.dev q) ∧
        (nbit mask.toNat i = true → pendGet s.dev q = true →
          pendGet t.dev q = decide (0 < min (getCqq s.dev q).afterPend (cqUnread s.dev q)) ∧ (getCqq t.dev q).sinceClear = 0 ∧
          (getCqq t.dev q).firstAt = none)) ∧
  (∀ s : State, socUp s.dev = true → s.dev.ord.quiesce = false →
      ∃ t, exec .quiesceRequest s = .next t ∧ t.pending = s.pending ∧ t.dev.ord = { s.dev.ord with quiesce := true, ready := false } ∧
        getF t.dev F.ordQuiesce_REQ = 1 ∧ t.dev.mode = s.dev.mode ∧
        ∀ q, (getSq t.dev q).ask = (getSq s.dev q).head ∧ (getSq t.dev q).head = (getSq s.dev q).head ∧
          (getSq t.dev q).tail = (getSq s.dev q).tail) ∧
  (∀ s : State, s.dev.ord.quiesce = true → commandsOut s.dev = false → pantryDurable (cmdSweep s.dev) = true →
      ∃ t, exec .quiesceComplete s = .next t ∧ t.pending = s.pending ∧ t.dev.ord.ready = true ∧ t.dev.ord.quiesce = true ∧
        t.dev.cq = s.dev.cq ∧ t.dev.rf = s.dev.rf) ∧
  (∀ s : State, socUp s.dev = true → s.dev.ord.quiesce = true →
      exec .quiesceClear s = .next (after s fun d =>
        keptApply (modOrd (setF d F.ordQuiesce_REQ 0) fun o => { o with quiesce := false, ready := false })) ∧
      ((∀ q, (getSq s.dev q).kept = none ∧ (getCqq s.dev q).keptHead = none) →
        ∃ t, exec .quiesceClear s = .next t ∧ t.pending = s.pending ∧ t.dev.ord = { s.dev.ord with quiesce := false, ready := false } ∧
          getF t.dev F.ordQuiesce_REQ = 0 ∧ t.dev.cq = s.dev.cq)) ∧
  (∀ (s : State) (v : Word), socUp s.dev = true → s.dev.mode.mode = .warm → s.dev.mode.runEntered = false → s.dev.mode.restored = true →
      (v.toNat + 2 ^ 32 - s.dev.ord.epoch) % 2 ^ 32 < 2 ^ 31 →
      ∃ t, exec (.epochSetWrite v) s = .next t ∧ t.pending = s.pending ∧ t.dev.ord = { s.dev.ord with epoch := v.toNat } ∧
        t.dev.ret = { s.dev.ret with epoch := v.toNat } ∧ t.dev.rf = s.dev.rf) ∧
  (∀ (s : State) (v : Word), socUp s.dev = true → s.dev.mode.mode ≠ .warm →
      ∃ t, exec (.epochSetWrite v) s = .next t ∧ t.dev.ord = s.dev.ord ∧ isSet t.dev F.ordEpochStat_SETERR = true)

/-! ### Commands of Table CQ-2 -/

/-- A command is checked when it is the next in arrival order, and the first check that fails ends it with that check's status and no
other effect (R260, R470); out of its turn it does nothing. -/
def Obligations.CommandsAreCheckedInOrder : Prop :=
  ∀ (s : State) (arr opc : Nat) (c : Cmd) (i : Instr),
    (opc, i) ∈ [(1, Instr.read arr), (2, .write arr), (3, .append arr), (4, .flush arr), (5, .trim arr), (6, .verify arr), (0x10, .zoneOpen arr),
      (0x11, .zoneFinish arr), (0x12, .zoneReset arr), (0x13, .zoneReport arr), (0x20, .epochMark arr), (0x21, .epochCommit arr),
      (0x30, .custodyRegister arr), (0x31, .custodyRelease arr)] →
    (nextCheck s.dev = some (arr, c) → c.opc = opc → running s.dev = true → cmdCheck s.dev c ≠ 0 → nfind s.dev.ord.cmds arr = some c →
      exec i s = .next (after s fun d => cmdFinish arr (cmdCheck d c) 0 d) ∧
      ∃ t, exec i s = .next t ∧ t.pending = s.pending ∧ getCmd t.dev arr = { c with st := .finished, status := cmdCheck s.dev c, result := 0 } ∧
        (∀ a, a ≠ arr → getCmd t.dev a = getCmd s.dev a) ∧ t.dev.rf = s.dev.rf ∧ t.dev.xlt = s.dev.xlt ∧ t.dev.pgm = s.dev.pgm ∧
        t.dev.cq = s.dev.cq ∧ t.dev.dma = s.dev.dma ∧ t.dev.mp = s.dev.mp) ∧
    ((∀ c', nextCheck s.dev = some (arr, c') → c'.opc ≠ opc) → exec i s = .next s)

/-- Commands that move data (R264, R266, R267, R271, R310): READ and VERIFY resolve the source of each sector and serve what is ready, and
end or hand on their data where no sector is mapped; WRITE and APPEND take their place, their write sequence numbers and a FIFO; one at the
write pointer of an OPEN ZONED zone, of one data path and without FUA, moves WP by its sectors.

Commands on zones (Table CQ-3, R268, R269, R272, R273): TRIM unmaps its range, ZONE_OPEN opens an EMPTY zone and answers with WP,
ZONE_FINISH pads and fills, ZONE_RESET empties and discards, ZONE_REPORT describes zones; a finish of a FULL zone and a reset of an
EMPTY one change nothing. -/
def Obligations.CommandsOnDataAndZones : Prop :=
  (∀ (s : State) (arr : Nat) (c : Cmd), Passes s.dev arr 1 c →
      exec (.read arr) s = .next (after s fun d => cmdSweep (goRead arr c (begun arr c d)))) ∧
  (∀ (s : State) (arr : Nat) (c : Cmd), Passes s.dev arr 6 c →
      exec (.verify arr) s = .next (after s fun d => cmdSweep (goRead arr c (begun arr c d)))) ∧
  (∀ (s : State) (arr opc : Nat) (c : Cmd), Passes s.dev arr opc c → mcOn s.dev = false → c.ladled = false → c.errs = [] → c.chain = none →
      (∀ x ∈ s.dev.dma.rdq, x.1 ≠ arr) → (∀ i ≤ c.nlb, resolve (begun arr c s.dev) arr c.ns (c.lba + i) = .unmapped) →
      (opc = 6 → c.dmode ≠ 2 → c.purpose = none →
        ∃ t, exec (.verify arr) s = .next t ∧ t.pending = s.pending ∧ Ended t.dev arr 0 (2 ^ 64 - 1) ∧ nbit (getCmd t.dev arr).cflags 4 = true) ∧
      (opc = 1 → c.dmode ≠ 2 → (getNs s.dev c.ns).unwErr = false → s.dev.cfg.zeroUnwErr = false → readsMoving s.dev < 256 →
        ∃ t, exec (.read arr) s = .next t ∧ t.pending = s.pending ∧ (getCmd t.dev arr).st = .running ∧ (getCmd t.dev arr).left = 0 ∧
          (getCmd t.dev arr).purpose = some s.dev.mp.nextPurp ∧
          t.dev.dma.rdq = s.dev.dma.rdq ++ (List.range (c.nlb + 1)).map fun i => (arr, 4096 * i, zeros 4096))) ∧
  (∀ (s : State) (arr : Nat) (c : Cmd), Passes s.dev arr 2 c →
      exec (.write arr) s = .next (after s fun d => cmdSweep (goWrite arr c (begun arr c d)))) ∧
  (∀ (s : State) (arr : Nat) (c : Cmd), Passes s.dev arr 3 c →
      exec (.append arr) s = .next (after s fun d => cmdSweep (goWrite arr c (begun arr c d)))) ∧
  (∀ (arr : Nat) (c : Cmd) (d : Dev), (getNs d c.ns).random = false → (getZone d c.ns (cmdZone d c)).st = .open_ → pathPad d c (cmdZone d c) = 0 →
      nbit c.flags 1 = false → (getZone d c.ns (cmdZone d c)).wp + (c.nlb + 1) < (getZone d c.ns (cmdZone d c)).zcap →
      ∃ e, goWrite arr c d = writePath arr e ∧ (getZone e c.ns (cmdZone d c)).wp = (getZone d c.ns (cmdZone d c)).wp + (c.nlb + 1) ∧
        (getZone e c.ns (cmdZone d c)).st = .open_ ∧ e.cq.nextWseq = d.cq.nextWseq + (c.nlb + 1) ∧ e.rf = d.rf ∧ e.pgm = d.pgm) ∧
  (∀ (s : State) (arr opc : Nat) (c : Cmd) (i : Instr), (opc, i) ∈ [(2, Instr.write arr), (3, .append arr)] → Passes s.dev arr opc c →
      (∃ t, exec i s = .next t ∧ t.pending = s.pending ∧ t.dev.cq.nextWseq = s.dev.cq.nextWseq + (c.nlb + 1)) ∧
      ((getNs s.dev c.ns).random = false → (getZone s.dev c.ns (cmdZone s.dev c)).st = .open_ → pathPad s.dev c (cmdZone s.dev c) = 0 →
        nbit c.flags 1 = false → (getZone s.dev c.ns (cmdZone s.dev c)).wp + (c.nlb + 1) < (getZone s.dev c.ns (cmdZone s.dev c)).zcap →
        ∃ t, exec i s = .next t ∧ (getZone t.dev c.ns (cmdZone s.dev c)).wp = (getZone s.dev c.ns (cmdZone s.dev c)).wp + (c.nlb + 1) ∧
          (getZone t.dev c.ns (cmdZone s.dev c)).st = .open_)) ∧
  (∀ (s : State) (arr : Nat) (c : Cmd), Passes s.dev arr 5 c →
      exec (.trim arr) s = .next (after s fun d => cmdSweep (goTrim arr c (begun arr c d))) ∧
      ∃ t, exec (.trim arr) s = .next t ∧ t.pending = s.pending ∧ Ended t.dev arr 0 0 ∧ (getCmd t.dev arr).staged = true ∧
        (getCmd t.dev arr).kind = 2 ∧ (getCmd t.dev arr).start = c.lba ∧ (getCmd t.dev arr).len = c.nlb + 1 ∧
        ∀ i ≤ c.nlb, mapGet t.dev c.ns (c.lba + i) = unmapped) ∧
  (∀ (s : State) (arr : Nat) (c : Cmd), Passes s.dev arr 0x10 c →
      let z := cmdZone s.dev c
      ((getZone s.dev c.ns z).st = .open_ →
        ∃ t, exec (.zoneOpen arr) s = .next t ∧ t.pending = s.pending ∧
          Ended t.dev arr 0 (z * zsze s.dev (getNs s.dev c.ns) + (getZone s.dev c.ns z).wp) ∧ t.dev.xlt = s.dev.xlt) ∧
      ((getZone s.dev c.ns z).st = .empty →
        exec (.zoneOpen arr) s = .next (after s fun d => cmdSweep (goZoneOpen arr c (begun arr c d))) ∧
        ∃ t, exec (.zoneOpen arr) s = .next t ∧ t.pending = s.pending ∧ Ended t.dev arr 0 (z * zsze s.dev (getNs s.dev c.ns)) ∧
          (getZone t.dev c.ns z).st = .open_ ∧ (getZone t.dev c.ns z).wp = 0 ∧ (getZone t.dev c.ns z).slc = nbit c.arg0 0)) ∧
  (∀ (s : State) (arr : Nat) (c : Cmd), Passes s.dev arr 0x11 c →
      let z := cmdZone s.dev c
      exec (.zoneFinish arr) s = .next (after s fun d => cmdSweep (goZoneFinish arr c (begun arr c d))) ∧
      ((getZone s.dev c.ns z).st = .open_ →
        ∃ t, exec (.zoneFinish arr) s = .next t ∧ t.pending = s.pending ∧
          Ended t.dev arr 0 (z * zsze s.dev (getNs s.dev c.ns) + (getZone s.dev c.ns z).wp) ∧ (getCmd t.dev arr).staged = true ∧
          (getZone t.dev c.ns z).st = .full ∧ (getZone t.dev c.ns z).wp = (getZone s.dev c.ns z).wp)) ∧
  (∀ (arr : Nat) (c : Cmd) (d : Dev), (getZone d c.ns (cmdZone d c)).st = .full →
      goZoneFinish arr c d = zoneSame arr (cmdZone d c) (cmdZone d c * zsze d (getNs d c.ns) + (getZone d c.ns (cmdZone d c)).wp) c d) ∧
  (∀ (s : State) (arr : Nat) (c : Cmd), Passes s.dev arr 0x12 c →
      let z := cmdZone s.dev c
      exec (.zoneReset arr) s = .next (after s fun d => cmdSweep (goZoneReset arr c (begun arr c d))) ∧
      ((getZone s.dev c.ns z).st ≠ .empty →
        ∃ t, exec (.zoneReset arr) s = .next t ∧ t.pending = s.pending ∧ Ended t.dev arr 0 (z * zsze s.dev (getNs s.dev c.ns)) ∧
          (getCmd t.dev arr).staged = true ∧ getZone t.dev c.ns z = {})) ∧
  (∀ (arr : Nat) (c : Cmd) (d : Dev), (getZone d c.ns (cmdZone d c)).st = .empty →
      goZoneReset arr c d = zoneSame arr (cmdZone d c) (cmdZone d c * zsze d (getNs d c.ns)) c d) ∧
  (∀ (s : State) (arr : Nat) (c : Cmd), Passes s.dev arr 0x13 c →
      exec (.zoneReport arr) s = .next (after s fun d => cmdSweep (goZoneReport arr c (begun arr c d))) ∧
      (c.errs = [] → ∃ t, exec (.zoneReport arr) s = .next t ∧ t.pending = s.pending ∧ (getCmd t.dev arr).kind = 1 ∧ (getCmd t.dev arr).ladled = true ∧
        (getCmd t.dev arr).result = min (c.nlb + 1) (zoneCount (getNs s.dev c.ns) - cmdZone s.dev c) +
          Nat.log2 (zsze s.dev (getNs s.dev c.ns)) * 2 ^ 32))

/-- FLUSH, the epoch commands and custody (R274, R275, R277, R278, R304, R305): FLUSH and EPOCH_COMMIT end once what they cover is DURABLE
and force it otherwise; EPOCH_MARK advances the epoch number and answers with it; a registered region takes the lowest free
handle, and its release frees it. -/
def Obligations.FlushEpochAndCustody : Prop :=
  (∀ (s : State) (arr : Nat) (c : Cmd), Passes s.dev arr 4 c → coverDurable (flushCover c.ns arr) (cmdSweep (begun arr c s.dev)) = true →
      ∃ t, exec (.flush arr) s = .next t ∧ t.pending = s.pending ∧ Ended t.dev arr 0 0 ∧ t.dev.pgm = s.dev.pgm ∧ t.dev.xlt = s.dev.xlt) ∧
  (∀ (s : State) (arr : Nat) (c : Cmd), Passes s.dev arr 4 c → coverDurable (flushCover c.ns arr) (cmdSweep (begun arr c s.dev)) = false →
      (begun arr c s.dev).mode.mode ≠ .safe →
      exec (.flush arr) s = .next (after s fun d =>
        cmdSweep (flushForce (flushCover c.ns arr) (modCmd arr (fun c => { c with result := 0 }) (begun arr c d))))) ∧
  (∀ (s : State) (arr : Nat) (c : Cmd), Passes s.dev arr 0x21 c → coverDurable (epochCover c.arg0) (cmdSweep (begun arr c s.dev)) = true →
      ∃ t, exec (.epochCommit arr) s = .next t ∧ t.pending = s.pending ∧ Ended t.dev arr 0 c.arg0 ∧ t.dev.pgm = s.dev.pgm ∧
        t.dev.xlt = s.dev.xlt) ∧
  (∀ (s : State) (arr : Nat) (c : Cmd), Passes s.dev arr 0x20 c →
      ∃ t, exec (.epochMark arr) s = .next t ∧ t.pending = s.pending ∧ t.dev.ord.epoch = (s.dev.ord.epoch + 1) % 2 ^ 32 ∧
        t.dev.ret.epoch = (s.dev.ord.epoch + 1) % 2 ^ 32 ∧ Ended t.dev arr 0 (((s.dev.ord.epoch + 1) % 2 ^ 32 + 2 ^ 32 - c.edges % 2 ^ 32) % 2 ^ 32) ∧
        t.dev.cq = s.dev.cq ∧ t.dev.xlt = s.dev.xlt) ∧
  (∀ d : Dev, (epochStep d).ord.epoch = (d.ord.epoch + 1) % 2 ^ 32 ∧ (epochStep d).ret.epoch = (d.ord.epoch + 1) % 2 ^ 32) ∧
  (∀ (s : State) (arr h : Nat) (c : Cmd), Passes s.dev arr 0x30 c → h < 64 → nfind s.dev.cq.regions h = none →
      (∀ j < h, (nfind s.dev.cq.regions j).isSome = true) →
      exec (.custodyRegister arr) s = .next (after s fun d => cmdSweep (goCustody arr c (begun arr c d))) ∧
      ∃ t, exec (.custodyRegister arr) s = .next t ∧ t.pending = s.pending ∧ Ended t.dev arr 0 h ∧
        t.dev.cq.regions = nput s.dev.cq.regions h ⟨c.dptr, c.arg0, arr⟩) ∧
  (∀ (s : State) (arr : Nat) (c : Cmd), Passes s.dev arr 0x31 c →
      exec (.custodyRelease arr) s = .next (after s fun d =>
        cmdSweep (estimateDev (cmdFinish arr 0 0 (modCq (begun arr c d) fun x => { x with regions := nerase x.regions c.arg0 })))) ∧
      ∃ t, exec (.custodyRelease arr) s = .next t ∧ t.pending = s.pending ∧ Ended t.dev arr 0 0 ∧
        t.dev.cq.regions = nerase s.dev.cq.regions c.arg0)

/-! ### The DMA ladle -/

/-- The ladle (R311 to R314, R320 to R324, R329): a port's grant goes to a context with class-0 data, else to a level by weight and round
robin in it, whose next burst is then outstanding; on the write ports to the next piece of the read path; a kick makes an idle chain at its
tail read on, or is kept; a pause ends once nothing is outstanding; a resume goes on where the context stood; a disabled context is as it
was at reset but for the pulses it owes; an enabled one starts, a STREAM context at its chain's first descriptor. -/
def Obligations.LadleCommands : Prop :=
  (∀ (s : State) (p k : Nat), p < 4 → pickPort s.dev false = some p → c0Ctx s.dev = some k →
      exec (.dmaBurstIssue p) s = .next (after s fun d => ctxBurst k d)) ∧
  (∀ (s : State) (p l k : Nat), p < 4 → pickPort s.dev false = some p → c0Ctx s.dev = none → prioCtx s.dev = some (l, k, false) →
      exec (.dmaBurstIssue p) s = .next (after s fun d => ctxBurst k (modDma d fun m =>
        { m with rr := nset 0 m.rr l ((k + 1) % 64), grants := nset 0 m.grants l (nget 0 m.grants l + 1) })) ∧
      ∀ x, (getCtx s.dev k).desc = some x → (getCtx s.dev k).skip = 0 → ctxPaced s.dev k = false →
        ∃ t b, exec (.dmaBurstIssue p) s = .next t ∧ t.pending = s.pending ∧ (getCtx t.dev k).bursts = (getCtx s.dev k).bursts ++ [b] ∧
          b.addr = (getCtx s.dev k).cur ∧ b.len = burstLen (getCtx s.dev k) x ∧ b.data = none ∧
          nget 0 t.dev.dma.rr l = (k + 1) % 64 ∧ nget 0 t.dev.dma.grants l = nget 0 s.dev.dma.grants l + 1) ∧
  (∀ (s : State) (p : Nat), 4 ≤ p → pickPort s.dev true = some p →
      exec (.dmaBurstIssue p) s = .next (after s fun d => match rdNext d with
        | some x => rdBurst x d
        | none => d)) ∧
  (∀ (s : State) (p : Nat), pickPort s.dev (decide (4 ≤ p)) ≠ some p → exec (.dmaBurstIssue p) s = .next s) ∧
  (∀ (s : State) (v : Word), socUp s.dev = true → ctxEn s.dev (v.toNat % 64) = true → ctxStream s.dev (v.toNat % 64) = true →
      let k := v.toNat % 64
      ((getCtx s.dev k).state = 2 ∧ (getCtx s.dev k).reading = false →
        exec (.dmaKick v) s = .next (after s fun d => ctxFetch k (getCtx d k).tailAt d) ∧
        ∃ t, exec (.dmaKick v) s = .next t ∧ t.pending = s.pending ∧ (getCtx t.dev k).reading = true ∧
          (getCtx t.dev k).next = some (getCtx s.dev k).tailAt ∧ (getCtx t.dev k).state = 2 ∧ t.dev.ord = s.dev.ord) ∧
      ((getCtx s.dev k).state ≠ 2 →
        ∃ t, exec (.dmaKick v) s = .next t ∧ t.pending = s.pending ∧ getCtx t.dev k = { getCtx s.dev k with kickPend := true } ∧
          t.dev.mp = s.dev.mp ∧ t.dev.rf = s.dev.rf)) ∧
  (∀ (s : State) (k : Nat), socUp s.dev = true → k < 64 → ctxEn s.dev k = true → (getCtx s.dev k).state ≠ 3 → (getCtx s.dev k).state ≠ 4 →
      ∃ t, exec (.ctxPause k) s = .next t ∧ t.pending = s.pending ∧ (getCtx t.dev k).state = 3 ∧
        (getCtx t.dev k).before = (getCtx s.dev k).state ∧ isSet t.dev F.dmaCtxctl_PAUSE k = true ∧ t.dev.mp = s.dev.mp ∧ t.dev.ord = s.dev.ord) ∧
  (∀ (s : State) (k : Nat), (getCtx s.dev k).state = 3 → (getCtx s.dev k).bursts = [] → (getCtx s.dev k).reading = false →
      ∃ t, exec (.pauseComplete k) s = .next t ∧ t.pending = s.pending ∧ (getCtx t.dev k).state = 4 ∧ t.dev.rf = s.dev.rf ∧ t.dev.mp = s.dev.mp) ∧
  (∀ (s : State) (k : Nat), (getCtx s.dev k).bursts ≠ [] → ∃ t, exec (.pauseComplete k) s = .next t ∧ (getCtx t.dev k) = getCtx s.dev k) ∧
  (∀ (s : State) (k : Nat), socUp s.dev = true → k < 64 → (getCtx s.dev k).state = 4 →
      ((getCtx s.dev k).before ≠ 2 ∨ (getCtx s.dev k).kickPend = false ∨ (getCtx s.dev k).reading = true) →
      exec (.ctxResume k) s = .next (after s fun d =>
        ctxStart k (modCtx k (fun c => { c with state := c.before }) (setF d F.dmaCtxctl_PAUSE 0 k))) ∧
      (ctxStream s.dev k = true →
        ∃ t, exec (.ctxResume k) s = .next t ∧ t.pending = s.pending ∧
          getCtx t.dev k = { getCtx s.dev k with state := (getCtx s.dev k).before } ∧ isSet t.dev F.dmaCtxctl_PAUSE k = false ∧
          t.dev.mp = s.dev.mp ∧ t.dev.ord = s.dev.ord)) ∧
  (∀ (s : State) (k : Nat), socUp s.dev = true → k < 64 → ctxEn s.dev k = true → ctxMayOff s.dev k = true → (getCtx s.dev k).hold = [] →
      ∃ t, exec (.ctxDisable k) s = .next t ∧ t.pending = s.pending ∧ ctxEn t.dev k = false ∧ (getCtx t.dev k).state = 0 ∧
        (getCtx t.dev k).dacks = (getCtx s.dev k).dacks ∧ (getCtx t.dev k).pend = 0 ∧ t.dev.mp = s.dev.mp) ∧
  (∀ (s : State) (k : Nat), socUp s.dev = true → k < 64 →
      exec (.ctxEnable k) s = .next (after s fun d => ctxOn k d) ∧
      (ctxEn s.dev k = false → isSet s.dev F.dmaCtxctl_PAUSE k = false → ctxStream s.dev k = true →
        ∃ t, exec (.ctxEnable k) s = .next t ∧ t.pending = s.pending ∧ ctxEn t.dev k = true ∧ (getCtx t.dev k).state = 1 ∧
          (getCtx t.dev k).reading = true ∧ (getCtx t.dev k).next = some (chainStart s.dev k) ∧ t.dev.ord = s.dev.ord))

/-! ### Energy and hold-up -/

/-- Energy and kettle health (R334, R335, R337): the estimate sets E_KTL, E_SPL, the bound, the store's voltage and COVER, and a COVER lost
in a run mode stops custody and is noted; a health check begins when it is due or asked for and may begin, with the charger off; each
phase goes on to the next with what was measured, and a timeout fails the check. -/
def Obligations.EnergyAndHealth : Prop :=
  (∀ s : State, socUp s.dev = true → s.dev.cfg.done = true → s.dev.mode.mode ≠ .holdup →
      ∃ t, exec .energyEstimate s = .next t ∧ t.pending = s.pending ∧ isSet t.dev F.hupStat_COVER = cover s.dev ∧
        getF t.dev F.hupEst_E_KTL = (divOpen (eKtlNow s.dev) 100000).toNat % 2 ^ 16 ∧
        (isSet s.dev F.hupStat_COVER = true → cover s.dev = false → s.dev.mode.mode.run = true →
          t.dev.hup.coverStop = true ∧ isSet t.dev F.hupStat_COVER_LOST = true) ∧
        (cover s.dev = true → t.dev.hup.coverStop = false) ∧ t.dev.mode = s.dev.mode ∧ t.dev.ord = s.dev.ord ∧ t.dev.cq = s.dev.cq) ∧
  (∀ s : State, healthMay s.dev = true → ∀ c ∈ [Instr.kettleHealthCheck, .healthGo], (c = .kettleHealthCheck → healthDue s.dev = true) →
      ∃ t, exec c s = .next t ∧ t.pending = s.pending ∧ t.dev.hup.phase = 1 ∧ t.dev.hup.phaseAt = s.dev.now ∧ t.dev.hup.chargeEn = false ∧
        (s.dev.hup.chargeEn = true → isSet t.dev F.hupStat_CHARGING = false) ∧ t.dev.hup.cMeas = s.dev.hup.cMeas ∧ t.dev.mode = s.dev.mode ∧
        t.dev.ord = s.dev.ord ∧ t.dev.cq = s.dev.cq) ∧
  (∀ s : State, healthMay s.dev = false ∨ healthDue s.dev = false → exec .kettleHealthCheck s = .next s) ∧
  (∀ s : State, healthMay s.dev = false → exec .healthGo s = .next s) ∧
  (∀ (s : State) (a b : Nat), socUp s.dev = true → s.dev.hup.phase = 1 →
      (∃ t, exec (.healthPhaseEnd true a b) s = .next t ∧ t.pending = s.pending ∧ t.dev.hup.phase = 0 ∧ isSet t.dev F.hupStat_HC_FAIL = true ∧
        t.dev.hup.goodMin = s.dev.hup.goodMin ∧ t.dev.hup.cMeas = s.dev.hup.cMeas ∧ t.dev.ord = s.dev.ord) ∧
      (huBattery s.dev = false → ∃ t, exec (.healthPhaseEnd false a b) s = .next t ∧ t.pending = s.pending ∧ t.dev.hup.phase = 2 ∧
        t.dev.hup.phaseAt = s.dev.now ∧ t.dev.ord = s.dev.ord)) ∧
  (∀ (s : State) (out : Bool) (a b : Nat), socUp s.dev = true → s.dev.hup.phase = 2 → 0 < b →
      ∃ t, exec (.healthPhaseEnd out a b) s = .next t ∧ t.pending = s.pending ∧ t.dev.hup.phase = 3 ∧ t.dev.hup.phaseAt = s.dev.now ∧
        t.dev.hup.esr = (divOpen (a * 10000 : Nat) b).toNat ∧ t.dev.rf = s.dev.rf) ∧
  (∀ (s : State) (out : Bool) (a b c : Nat), socUp s.dev = true → s.dev.hup.phase = 3 → 0 < b → c = (divOpen (a * 100 : Nat) b).toNat →
      huCnom s.dev ≤ c * 4 → c * 2 ≤ 3 * huCnom s.dev →
      ∃ t, exec (.healthPhaseEnd out a b) s = .next t ∧ t.pending = s.pending ∧ t.dev.hup.phase = 0 ∧ t.dev.hup.cMeas = c ∧
        t.dev.hup.goodMin = some s.dev.ageMin ∧ getF t.dev F.hupKtl_C_MEAS = min 0xFFFF c ∧ getF t.dev F.hupEsr_ESR = min 0xFFFF s.dev.hup.esr ∧
        (c * 10 < huCnom s.dev * 8 → isSet t.dev F.hupStat_KTL_WEAK = true))

/-- HOLDUP and what follows it (R339, R342, R344, R346): saving ends at E_RESERVE, and once all is saved or the energy has run out the
manifest is written; with its entry written HOLDUP_DONE goes out and the retained file says so; after a restart regions are written
back at GO, or given up at SKIP.

Steps of restoration (R346): the saved words and units are on the medium before the regions are written back; with the regions
back, CUSTODY_LOST is posted for those not restored in full and the RESTORED entry is written; the hold-up zone is erased before it is
ARMED; and restoration ends once COVER holds for the pantry bound alone. -/
def Obligations.SavingAndRestoration : Prop :=
  (∀ (s : State) (usable committed : Nat), s.dev.hup.saving = true → s.dev.hup.ended = false → s.dev.hup.todo ≠ [] →
      (usable ≤ committed + huReserve s.dev * 100000 →
        ∃ t, exec (.holdupEnergyCheck usable committed) s = .next t ∧ t.pending = s.pending ∧
          t.dev.hup = { s.dev.hup with short := true } ∧ t.dev.rf = s.dev.rf ∧ t.dev.ord = s.dev.ord) ∧
      (committed + huReserve s.dev * 100000 < usable → exec (.holdupEnergyCheck usable committed) s = .next s)) ∧
  (∀ (s : State) (k p : Nat), s.dev.hup.saving = true → s.dev.hup.ended = false → s.dev.hup.units = [] → manifestMay s.dev = true →
      (s.dev.hup.short = true ∨ (s.dev.hup.todo = [] ∧ s.dev.hup.queue = [])) → (s.dev.ord.ops.any fun o => !hupKeeps o.2) = false →
      exec (.holdupSaveComplete k p) s = .next (after s fun d => hupFinish k p d) ∧
      ∃ t, exec (.holdupSaveComplete k p) s = .next t ∧ t.pending = s.pending ∧ t.dev.hup.ended = true ∧ t.dev.ret.huEnergy = k + p ∧
        t.dev.ret.huBytes = s.dev.hup.saved * 4096 ∧ isSet t.dev F.hupStat_ARMED = false ∧ t.dev.mode = s.dev.mode) ∧
  (∀ (s : State) (k p : Nat), s.dev.hup.units ≠ [] → exec (.holdupSaveComplete k p) s = .next s) ∧
  (∀ s : State, hupMayEnd s.dev = true → s.dev.hup.empty = false → s.dev.spl.braking = false → (getSlot s.dev 2).st ≠ 1 →
      ∃ t, exec .holdupDone s = .next t ∧ t.pending = s.pending ∧ t.dev.pins.holdupDoneOut = true ∧ isSet t.dev F.hupStat_HOLDUP_DONE = true ∧
        t.dev.hup.running = false ∧ t.dev.ret.huDone = true ∧ t.dev.mode = s.dev.mode ∧ t.dev.ord = s.dev.ord) ∧
  (∀ s : State, hupMayEnd s.dev = false → exec .holdupDone s = .next s) ∧
  (∀ (s : State) (m : Manifest), socUp s.dev = true → s.dev.hup.waiting = true → s.dev.hup.restore = some m →
      (∃ t, exec .restoreGo s = .next t ∧ t.pending = s.pending ∧ t.dev.hup.rstep = 2 ∧ t.dev.hup.waiting = false ∧
        t.dev.hup.writesLeft = s.dev.hup.writesLeft + (m.regions.filter fun g => decide (0 < g.saved)).length ∧ t.dev.mode = s.dev.mode ∧
        t.dev.ord = s.dev.ord) ∧
      ∃ t, exec .restoreSkip s = .next t ∧ t.pending = s.pending ∧ t.dev.hup.rstep = 3 ∧ t.dev.hup.waiting = false ∧ t.dev.hup.step4 = true ∧
        t.dev.hup.writesLeft = s.dev.hup.writesLeft) ∧
  (∀ s : State, socUp s.dev = true → s.dev.hup.waiting = true →
      exec .restoreGo s = .next (after s regionsBack) ∧
      exec .restoreSkip s = .next (after s fun d => restoredEntry (custodyLost true (modHup d fun h => { h with waiting := false })))) ∧
  (∀ s : State, s.dev.hup.waiting = false → exec .restoreGo s = .next s ∧ exec .restoreSkip s = .next s) ∧
  (∀ (d : Dev) (m : Manifest), d.hup.rstep = 1 → d.hup.restore = some m → unitsBack d = false →
      restoreStep d = unitPump (ckptPump (jForce (d.pgm.nextJseq - 1) d))) ∧
  (∀ d : Dev, d.hup.rstep = 2 → (d.hup.writesLeft ≠ 0 → restoreStep d = d) ∧
      (d.hup.writesLeft = 0 → restoreStep d = restoredEntry (custodyLost false d))) ∧
  (∀ d : Dev, d.hup.rstep = 3 → (jWritten d d.hup.doneJ = false → restoreStep d = d) ∧
      (jWritten d d.hup.doneJ = true → restoreStep d = hupEraseAll d)) ∧
  (∀ d : Dev, d.hup.rstep = 4 → (d.hup.eraseLeft ≠ 0 → restoreStep d = d) ∧
      (d.hup.eraseLeft = 0 → (restoreStep d).hup.rstep = 5 ∧ isSet (restoreStep d) F.hupStat_ARMED = true)) ∧
  (∀ d : Dev, d.hup.rstep = 5 → coverFor d (boundWith d 0) = false → restoreStep d = d)

/-! ### Measurement, control loops and thermal zones -/

/-- Measurement and temperatures (R351 to R354, R373): a frame takes its table, corrections and due open tests; a conversion sets its
input's result; an open test reads the sunk input once; a poll of a LUN's sensor is a reading of its channel and zone; a fan below
its minimum at a duty above zero fails its zone. -/
def Obligations.MeasurementCommands : Prop :=
  (∀ s : State, socUp s.dev = true →
      ∃ t, exec .adcFrameStart s = .next t ∧ t.pending = s.pending ∧ t.dev.adc.frames = s.dev.adc.frames + 1 ∧ t.dev.adc.started = true ∧
        t.dev.adc.table = ((List.range 40).map fun e => getF s.dev F.adcFrame_INPUT e) ∧ isSet t.dev F.adcStat_RUN = true ∧
        (isSet s.dev F.adcStat_CAL_OK = false → nget 0 t.dev.adc.ofs 0 = 0 ∧ nget 0x8000 t.dev.adc.gain 0 = 0x8000) ∧
        (zones s.dev = [] → t.dev.loops = s.dev.loops) ∧ t.dev.mode = s.dev.mode) ∧
  (∀ (s : State) (a e raw n i : Nat), a < 2 → e < 20 → s.dev.adc.table[20 * a + e]? = some n → frameInput n = some i → socUp s.dev = true →
      (i ∉ s.dev.adc.sink ∨ i ∈ s.dev.adc.tested) →
      ∃ t, exec (.adcConversionEnd a e raw) s = .next t ∧ t.pending = s.pending ∧
        getF t.dev F.adcData_CODE i = wrapI 14 (corrected s.dev a i raw) ∧
        getF t.dev F.adcData_FILT i = wrapI 16 (sext 16 (getF s.dev F.adcData_FILT i) +
          (corrected s.dev a i raw * 2 - sext 16 (getF s.dev F.adcData_FILT i)) / 2 ^ getF s.dev F.adcCfg_FSHIFT i) ∧
        i ∉ t.dev.adc.sink ∧ i ∉ t.dev.adc.tested ∧ t.dev.adc.table = s.dev.adc.table ∧ (s.dev.cal.refDone = false ∨ i ∉ [36, 38] → t.dev.cal = s.dev.cal) ∧
        t.dev.loops = s.dev.loops ∧ t.dev.thm = s.dev.thm) ∧
  (∀ (s : State) (i raw : Nat), socUp s.dev = true → i ∈ s.dev.adc.sink → i ∉ s.dev.adc.tested → i < 40 →
      ∃ t, exec (.adcOpenTest i raw) s = .next t ∧ t.pending = s.pending ∧ t.dev.adc.tested = s.dev.adc.tested ++ [i] ∧
        (isSet t.dev F.adcData_OPEN i = true ↔ corrected s.dev (s.dev.adc.table.findIdx (· = i) / 20) i raw + 2048 < adcCode s.dev i) ∧
        t.dev.loops = s.dev.loops ∧ t.dev.thm = s.dev.thm) ∧
  (∀ (s : State) (l : Nat) (x : BitVec 8), canPoll s.dev l = true →
      ∃ t, exec (.dieTempPoll l x) s = .next t ∧ t.pending = s.pending ∧ nget none t.dev.thm.temps l = some (dieTemp s.dev l x, s.dev.now) ∧
        nget 0 t.dev.thm.polled l = s.dev.now ∧ nget false t.dev.thm.retry l = false ∧
        (∀ m, m ≠ l → nget none t.dev.thm.temps m = nget none s.dev.thm.temps m) ∧ t.dev.scheds = s.dev.scheds ∧ t.dev.mode = s.dev.mode) ∧
  (∀ (s : State) (l : Nat) (x : BitVec 8), canPoll s.dev l = false → lunUsable s.dev l = true → profFeat s.dev l 8 = true →
      s.dev.mode.mode.flash = true → ∃ t, exec (.dieTempPoll l x) s = .next t ∧ t.pending = s.pending ∧
        t.dev.thm = { s.dev.thm with retry := nset false s.dev.thm.retry l true } ∧ t.dev.rf = s.dev.rf) ∧
  (∀ (s : State) (z : Nat), socUp s.dev = true → z ∈ zones s.dev → zoneByte s.dev z 0x19 ≠ 0xFF → zoneByte s.dev z 0x1A ≠ 0xFF →
      0 < nget 0 s.dev.loops.duty (zoneByte s.dev z 0x19) →
      getF s.dev F.thmTach_RPM (zoneByte s.dev z 0x1A) < 100 * zoneByte s.dev z 0x1F →
      ∃ t, exec (.fanFail z) s = .next t ∧ t.pending = s.pending ∧ isSet t.dev F.thmZstat_FAN_FAIL z = true ∧ t.dev.loops = s.dev.loops ∧
        t.dev.thm = s.dev.thm ∧ t.dev.mode = s.dev.mode)

/-- The control loops (R355 to R371): a sample notes its delay and computes its slot in the slot's state, a dropped one holds the output and
is counted; OPEN, CLOSE and TUNE act from the states that Table LOOP-4 gives them and set REJ elsewhere; a coefficient is written where R363
lets it and W advances; a trace starts or stops; the analog trip drives slot 0 low until its release. -/
def Obligations.LoopCommands : Prop :=
  (∀ (s : State) (i w : Nat), i < 16 → loopsRun s.dev = true →
      exec (.loopSample i w false) s = .next (after s fun d =>
        stateSample i (peak (setF d F.loopDly_DLY_LAST (min 0xFFFF (w + slotCycles (getSlot d i))) i) F.loopDly_DLY_MAX
          (w + slotCycles (getSlot d i)) i)) ∧
      (∃ t, exec (.loopSample i w false) s = .next t ∧ t.pending = s.pending ∧
        getF t.dev F.loopDly_DLY_LAST i = min 0xFFFF (w + slotCycles (getSlot s.dev i)) ∧ getF t.dev F.loopOvr_CONSEC i = 0 ∧
        getF t.dev F.loopIo_PV i = wrapI 16 (q15Sat (sourceVal s.dev i (slotPv (getSlot s.dev i)))).1 ∧ t.dev.mode = s.dev.mode ∧
        t.dev.adc = s.dev.adc) ∧
      ∃ t, exec (.loopSample i w true) s = .next t ∧ t.pending = s.pending ∧ isSet t.dev F.loopStat_OVERRUN i = true ∧
        getF t.dev F.loopOvr_CONSEC i = min 8 (getF s.dev F.loopOvr_CONSEC i + 1) ∧
        (getF s.dev F.loopOvr_CONSEC i < 7 → t.dev.loops = s.dev.loops) ∧
        (7 ≤ getF s.dev F.loopOvr_CONSEC i → (getSlot s.dev i).st = 1 →
          (getSlot t.dev i).st = 4 ∧ (getSlot t.dev i).out = slotOutSafe (getSlot s.dev i))) ∧
  (∀ (s : State) (i : Nat), i < 16 → loopsRun s.dev = true → loopHost s.dev i = true →
      ((getSlot s.dev i).st ≠ 5 → ∃ t, exec (.loopOpen i) s = .next t ∧ t.pending = s.pending ∧ (getSlot t.dev i).st = 0 ∧
        getF t.dev F.loopStat_STATE i = 0 ∧ (getSlot t.dev i).out = slotOutMan (getSlot s.dev i) ∧ (getSlot t.dev i).tune = none ∧
        getF t.dev F.loopIo_OUT i = wrapI 16 (slotOutMan (getSlot s.dev i)) ∧ (∀ j, j ≠ i → getSlot t.dev j = getSlot s.dev j)) ∧
      ((getSlot s.dev i).st = 5 → ∃ t, exec (.loopOpen i) s = .next t ∧ isSet t.dev F.loopStat_REJ i = true ∧ t.dev.loops = s.dev.loops) ∧
      ((getSlot s.dev i).sect = true → (getSlot s.dev i).st = 0 →
        lossCause s.dev i (getSlot s.dev i) (q15Sat (sourceVal s.dev i (slotPv (getSlot s.dev i)))).1 = none →
        ∃ t, exec (.loopClose i) s = .next t ∧ t.pending = s.pending ∧ (getSlot t.dev i).st = 1 ∧ getF t.dev F.loopStat_STATE i = 1 ∧
          (getSlot t.dev i).bump = some (getSlot s.dev i).out ∧ (getSlot t.dev i).stages = [] ∧ (getSlot t.dev i).out = (getSlot s.dev i).out ∧
          t.dev.loops.duty = s.dev.loops.duty ∧ (∀ j, j ≠ i → getSlot t.dev j = getSlot s.dev j)) ∧
      ((getSlot s.dev i).st ≠ 0 → ∀ c ∈ [Instr.loopClose i, .loopTune i], ∃ t, exec c s = .next t ∧ t.pending = s.pending ∧
        isSet t.dev F.loopStat_REJ i = true ∧ t.dev.loops = s.dev.loops) ∧
      ((getSlot s.dev i).sect = true → (getSlot s.dev i).st = 0 →
        ∃ t, exec (.loopTune i) s = .next t ∧ t.pending = s.pending ∧ (getSlot t.dev i).st = 3 ∧ (getSlot t.dev i).tune = some {} ∧
          (getSlot t.dev i).tracing = true ∧ getF t.dev F.loopTrcfg_NODES i = 0x9280)) ∧
  (∀ (s : State) (i : Nat), i < 3 → loopsRun s.dev = true → s.dev.mode.mode ≠ .factory →
      ∀ c ∈ [Instr.loopOpen i, .loopClose i, .loopTune i], ∃ t, exec c s = .next t ∧ t.pending = s.pending ∧
        isSet t.dev F.loopStat_REJ i = true ∧ t.dev.loops = s.dev.loops) ∧
  (∀ (s : State) (v : Word), socUp s.dev = true → getF s.dev F.loopCsel_W ≠ 12 →
      coeffWritable (getSlot s.dev (getF s.dev F.loopCsel_SLOT)) (getF s.dev F.loopCsel_SLOT) (getF s.dev F.loopCsel_W) = true →
      ∃ t, exec (.loopCoeffWrite v) s = .next t ∧ t.pending = s.pending ∧
        getSlot t.dev (getF s.dev F.loopCsel_SLOT) =
          imgSet (getSlot s.dev (getF s.dev F.loopCsel_SLOT)) (getF s.dev F.loopCsel_W) (nbits v.toNat 15 0) ∧
        getF t.dev F.loopCsel_W = (if 47 ≤ getF s.dev F.loopCsel_W then 0 else getF s.dev F.loopCsel_W + 1) ∧
        getF t.dev F.loopCsel_SLOT = getF s.dev F.loopCsel_SLOT ∧
        (∀ j, j ≠ getF s.dev F.loopCsel_SLOT → getSlot t.dev j = getSlot s.dev j) ∧ t.dev.loops.duty = s.dev.loops.duty) ∧
  (∀ (s : State) (v : Word), socUp s.dev = true →
      coeffWritable (getSlot s.dev (getF s.dev F.loopCsel_SLOT)) (getF s.dev F.loopCsel_SLOT) (getF s.dev F.loopCsel_W) = false →
      ∃ t, exec (.loopCoeffWrite v) s = .next t ∧ isSet t.dev F.loopStat_REJ (getF s.dev F.loopCsel_SLOT) = true ∧ t.dev.loops = s.dev.loops ∧
        getF t.dev F.loopCsel_W = (if 47 ≤ getF s.dev F.loopCsel_W then 0 else getF s.dev F.loopCsel_W + 1)) ∧
  (∀ (s : State) (i : Nat) (v : Word), i < 16 → socUp s.dev = true →
      ∃ t, exec (.loopTraceCfgWrite i v) s = .next t ∧ t.pending = s.pending ∧ getF t.dev F.loopTrcfg_MODE i = nbits v.toNat 25 24 ∧
        getF t.dev F.loopTrcfg_NODES i = nbits v.toNat 15 0 ∧
        ((getSlot t.dev i).tracing = true ↔ nbits v.toNat 25 24 = 1 ∨ nbits v.toNat 25 24 = 2) ∧ t.dev.mode = s.dev.mode) ∧
  (∀ s : State, loopsRun s.dev = true → getF s.dev F.loopTrip_OV_CODE ≠ 0x3FFF → slotDst (getSlot s.dev 0) < 24 →
      ∃ t, exec .analogTrip s = .next t ∧ t.pending = s.pending ∧ t.dev.loops.tripped = true ∧
        nget 0 t.dev.loops.duty (slotDst (getSlot s.dev 0)) = 0 ∧ isSet t.dev F.loopStat_TRIP 0 = true) ∧
  (∀ s : State, s.dev.loops.tripped = true → slotDst (getSlot s.dev 0) < 24 →
      ∃ t, exec .analogTripRelease s = .next t ∧ t.pending = s.pending ∧ t.dev.loops.tripped = false ∧
        nget 0 t.dev.loops.duty (slotDst (getSlot s.dev 0)) = max (getSlot s.dev 0).out 0 ∧ t.dev.rf = s.dev.rf)

/-- R356, R360. What a closed sample puts out lies within OUT_MIN and OUT_MAX of its slot, whatever its stages and feed-forward give, where
OUT_MIN is not above OUT_MAX; and after a closed sample the slot holds that output. -/
def Obligations.LoopOutputsStayWithinLimits : Prop :=
  (∀ (x : Slot) (y a b : Int), slotOutMin x ≤ slotOutMax x → slotOutMin x ≤ (outStep x y a b).1 ∧ (outStep x y a b).1 ≤ slotOutMax x) ∧
  (∀ (s : Nat) (pv sp e : Int) (sat : Bool) (d : Dev), slotOutMin (getSlot d s) ≤ slotOutMax (getSlot d s) →
    slotOutMin (getSlot d s) ≤ (getSlot (closedSample s pv sp e sat d) s).out ∧
      (getSlot (closedSample s pv sp e sat d) s).out ≤ slotOutMax (getSlot d s))
/-! ### Calibration -/

/-- Calibration (R382, R386 to R391): the interval and the requests ask for their channels' calibration, by a message to the channel's group
or, while the group is off, once it is powered; a trigger that may start starts its run and is dropped while a set is pending; a run
whose delay lines fail takes the channel down, one that is implausible leaves the values in force; on premel64 two runs must
agree; a set is applied in a gap, or forced once FORCE_MS has passed and no class-0 work is there. -/
def Obligations.CalibrationCommands : Prop :=
  (∀ (s : State) (c k : Nat) (i : Instr), chanMapped s.dev c = true → linkUp s.dev (groupOf c) = false →
      (i, k) ∈ [(Instr.calIntervalExpiry c, 1), (.calReqRecal c false, 1), (.calReqFull c false, 2), (.calReqCheck c false, 3),
        (.calReqRecal c true, 1), (.calReqFull c true, 2), (.calReqCheck c true, 3)] →
      (i = .calIntervalExpiry c → calIntervalH s.dev ≠ 0 ∧ calIntervalH s.dev * 60 ≤ s.dev.ageMin - (getCal s.dev c).lastMin ∧ s.dev.hk.shed < 2) →
      socUp s.dev = true →
      ∃ t, exec i s = .next t ∧ t.pending = s.pending ∧ (getCal t.dev c).waiting = k ∧ (getCal t.dev c).force = (getCal s.dev c).force ∧
        t.dev.ord = s.dev.ord ∧ t.dev.mode = s.dev.mode) ∧
  (∀ (s : State) (c k : Nat) (i : Instr), chanMapped s.dev c = true → linkUp s.dev (groupOf c) = true →
      (i, k) ∈ [(Instr.calIntervalExpiry c, 1), (.calReqRecal c false, 1), (.calReqFull c false, 2), (.calReqCheck c false, 3)] →
      (i = .calIntervalExpiry c → calIntervalH s.dev ≠ 0 ∧ calIntervalH s.dev * 60 ≤ s.dev.ageMin - (getCal s.dev c).lastMin ∧ s.dev.hk.shed < 2) →
      socUp s.dev = true →
      exec i s = .next (after s fun d => hsend (groupOf c) 0 (.ctrlReq (.cal c k)) d) ∧
      ∃ t, exec i s = .next t ∧ t.pending = s.pending ∧ t.dev.cal = s.dev.cal ∧ t.dev.ord = s.dev.ord) ∧
  (∀ (s : State) (c : Nat), socUp s.dev = true →
      exec (.calReqRecal c true) s = .next (after s fun d => each (List.range d.build.channels) (fun d c => calAsk c 1 d) d) ∧
      exec (.calReqFull c true) s = .next (after s fun d => each (List.range d.build.channels) (fun d c => calAsk c 2 d) d) ∧
      exec (.calReqCheck c true) s = .next (after s fun d => each (List.range d.build.channels) (fun d c => calAsk c 3 d) d)) ∧
  (∀ (d : Dev) (c kind : Nat), chanMapped d c = true → (getCal d c).running = 0 →
      ((getCal d c).pending.isSome = true → calTrigger c kind d = d) ∧
      ((getCal d c).pending = none → calMayStart d c = true →
        (getCal (calTrigger c kind d) c).running = kind ∧ (calTrigger c kind d).rf = d.rf) ∧
      ((getCal d c).pending = none → calMayStart d c = false → (getCal (calTrigger c kind d) c).waiting = kind)) ∧
  (∀ (s : State) (m : RefMeas), socUp s.dev = true → refTol s.dev < (refPick m.diffs).2.2 →
      ∃ t, exec (.calReqRef m) s = .next t ∧ t.pending = s.pending ∧ isSet t.dev F.calRef_REF_FAIL = true ∧
        getF t.dev F.calRef_DIFF = min 0xFFFF (refPick m.diffs).2.2 ∧ t.dev.cal.refDone = s.dev.cal.refDone) ∧
  (∀ (s : State) (m : RefMeas), socUp s.dev = true → (refPick m.diffs).2.2 ≤ refTol s.dev → -64 ≤ m.ofs0 → m.ofs0 ≤ 64 → -64 ≤ m.ofs1 → m.ofs1 ≤ 64 →
      32768 * 95 ≤ m.gain0 * 100 → m.gain0 * 100 ≤ 32768 * 105 → 32768 * 95 ≤ m.gain1 * 100 → m.gain1 * 100 ≤ 32768 * 105 →
      ∃ t, exec (.calReqRef m) s = .next t ∧ t.pending = s.pending ∧ isSet t.dev F.adcStat_CAL_OK = true ∧ t.dev.cal.refDone = true ∧
        getF t.dev F.calAdc_GAIN 0 = m.gain0 ∧ getF t.dev F.calAdc_GAIN 1 = m.gain1 ∧ t.dev.ord = s.dev.ord) ∧
  (∀ (s : State) (c : Nat) (m : CalMeas) (r : CalSet), r = calRunSet s.dev c m → (getCal s.dev c).running ≠ 0 → linkUp s.dev (groupOf c) = true →
      (cellsFail r = true → ∃ t, exec (.calRunComplete c m) s = .next t ∧ t.pending = s.pending ∧ (getCal t.dev c).running = 0 ∧
        (getCal t.dev c).force = (getCal s.dev c).force ∧ (getCal t.dev c).pending = (getCal s.dev c).pending ∧
        (getChan t.dev c).failed = true ∧ (getChan t.dev c).up = false) ∧
      (cellsFail r = false → calPlausible r = false → ∃ t, exec (.calRunComplete c m) s = .next t ∧ t.pending = s.pending ∧
        (getCal t.dev c).running = 0 ∧ (getCal t.dev c).force = (getCal s.dev c).force ∧ (getCal t.dev c).pending = (getCal s.dev c).pending ∧
        t.dev.chans = s.dev.chans) ∧
      (cellsFail r = false → calPlausible r = true → s.dev.build ≠ .premel64 → (getCal s.dev c).running ≠ 3 →
        ∃ t, exec (.calRunComplete c m) s = .next t ∧ t.pending = s.pending ∧ (getCal t.dev c).pending = some (r, (getCal s.dev c).temp) ∧
          (getCal t.dev c).pendingAt = s.dev.now ∧ (getCal t.dev c).running = 0 ∧ (getCal t.dev c).force = (getCal s.dev c).force ∧
          t.dev.rf = s.dev.rf ∧ t.dev.chans = s.dev.chans) ∧
      (cellsFail r = false → calPlausible r = true → (getCal s.dev c).running = 3 →
        ∃ t, exec (.calRunComplete c m) s = .next t ∧ (getCal t.dev c).running = 0 ∧ (getCal t.dev c).pending = (getCal s.dev c).pending ∧
          (getCal t.dev c).force = (getCal s.dev c).force ∧ t.dev.rf = s.dev.rf) ∧
      (cellsFail r = false → calPlausible r = true → s.dev.build = .premel64 → (getCal s.dev c).running ≠ 3 → (getCal s.dev c).run1 = none →
        ∃ t, exec (.calRunComplete c m) s = .next t ∧ t.pending = s.pending ∧ (getCal t.dev c).run1 = some r ∧
          (getCal t.dev c).running = (getCal s.dev c).running ∧ (getCal t.dev c).pending = (getCal s.dev c).pending ∧ t.dev.rf = s.dev.rf) ∧
      (∀ a, cellsFail r = false → calPlausible r = true → s.dev.build = .premel64 → (getCal s.dev c).running ≠ 3 →
        (getCal s.dev c).run1 = some a →
        (calAgree a r = true → ∃ t, exec (.calRunComplete c m) s = .next t ∧ (getCal t.dev c).running = 0 ∧
          (getCal t.dev c).pending = some (calMean a r, (getCal s.dev c).temp) ∧ (getCal t.dev c).pendingAt = s.dev.now) ∧
        (calAgree a r = false → ∃ t, exec (.calRunComplete c m) s = .next t ∧ (getCal t.dev c).run1 = none ∧
          (getCal t.dev c).pending = (getCal s.dev c).pending ∧
          (getCal t.dev c).running = (if (getCal s.dev c).pairs = 0 then (getCal s.dev c).running else 0)))) ∧
  (∀ (s : State) (c : Nat) (r : CalSet) (v : Int), (getCal s.dev c).pending = some (r, v) → linkUp s.dev (groupOf c) = true →
      s.dev.mode.mode.flash = true → busIdle s.dev c = true →
      ∃ t, exec (.calApplyGap c) s = .next t ∧ t.pending = s.pending ∧ (getCal t.dev c).pending = none ∧ (getCal t.dev c).force = some r ∧
        (getCal t.dev c).calibrated = true ∧ (getCal t.dev c).deferFrom = none ∧ t.dev.chans = s.dev.chans ∧ t.dev.mode = s.dev.mode) ∧
  (∀ (s : State) (c : Nat), busIdle s.dev c = false ∨ (getCal s.dev c).pending = none → exec (.calApplyGap c) s = .next s) ∧
  (∀ (s : State) (c : Nat) (r : CalSet) (v : Int), (getCal s.dev c).pending = some (r, v) → (getCal s.dev c).forcing = false →
      linkUp s.dev (groupOf c) = true → s.dev.mode.mode.flash = true → s.dev.mode.mode ≠ .holdup →
      (getCal s.dev c).pendingAt + ms (max 1 (getF s.dev F.calCfg_FORCE_MS)) ≤ s.dev.now →
      (class0Present s.dev c = true → ∃ t, exec (.calForceExpiry c) s = .next t ∧ t.pending = s.pending ∧
        (getCal t.dev c).deferFrom = some ((getCal s.dev c).deferFrom.getD s.dev.now) ∧ (getCal t.dev c).pending = some (r, v) ∧
        (getCal t.dev c).forcing = false ∧ (getCal t.dev c).force = (getCal s.dev c).force ∧ t.dev.rf = s.dev.rf) ∧
      (class0Present s.dev c = false → (getChan s.dev c).running.isSome = true → ∃ t, exec (.calForceExpiry c) s = .next t ∧ t.pending = s.pending ∧
        (getCal t.dev c).forcing = true ∧ (getCal t.dev c).gapAt = none ∧ (getCal t.dev c).pending = some (r, v) ∧
        (getCal t.dev c).force = (getCal s.dev c).force ∧ t.dev.chans = s.dev.chans) ∧
      (class0Present s.dev c = false → busIdle s.dev c = true → ∃ t, exec (.calForceExpiry c) s = .next t ∧ t.pending = s.pending ∧
        (getCal t.dev c).forcing = true ∧ (getCal t.dev c).gapAt = some s.dev.now ∧ (getCal t.dev c).pending = none ∧
        (getCal t.dev c).force = some r ∧ (getCal t.dev c).calibrated = true ∧ t.dev.chans = s.dev.chans)) ∧
  (∀ (s : State) (c : Nat), (getCal s.dev c).pending = none → exec (.calForceExpiry c) s = .next s)

/-! ### Internal memories, fault injection and the trace -/

/-- Scrubbing, the error log, fault injection and the trace (R397, R400 to R402, R431, R433): a scrub step goes to the next line of its
memory, or ends the lap, and a word found uncorrectable is marked; emptying the log empties it; a write of PRM_FIJ_CTL loads every
generator and leaves ARM; setting EN of the trace empties its buffer. -/
def Obligations.IntegrityAndDebug : Prop :=
  (∀ (s : State) (m i w k : Nat), i < memInsts s.dev m → scrubRuns s.dev m i = true → nget 0 s.dev.mem.scrubAt (64 * m + i) + 1 < lapSteps m →
      ∃ t, exec (.scrubRead m i w k) s = .next t ∧ t.pending = s.pending ∧
        nget 0 t.dev.mem.scrubAt (64 * m + i) = nget 0 s.dev.mem.scrubAt (64 * m + i) + 1 ∧
        (∀ j, j ≠ 64 * m + i → nget 0 t.dev.mem.scrubAt j = nget 0 s.dev.mem.scrubAt j) ∧
        (k = 0 → t.dev.mem.poison = s.dev.mem.poison ∧ t.dev.mem.log = s.dev.mem.log ∧ t.dev.rf = s.dev.rf ∧ t.dev.links = s.dev.links) ∧
        (k = 3 → w < lineWords m → poisoned t.dev m i (nget 0 s.dev.mem.scrubAt (64 * m + i) * lineWords m + w) = true) ∧
        (k < 3 → t.dev.mem.poison = s.dev.mem.poison) ∧
        (1 ≤ k → k ≤ 3 → w < lineWords m → memMedia m = false → m ≠ 0xB → s.dev.mem.log = [] →
          t.dev.mem.log = [⟨m, i, nget 0 s.dev.mem.scrubAt (64 * m + i) * lineWords m + w, k, 1⟩] ∧ (k = 3 → isSet t.dev F.memEvt_UE = true)) ∧
        t.dev.ord = s.dev.ord ∧ t.dev.mode = s.dev.mode) ∧
  (∀ (s : State) (m i w : Nat), i < memInsts s.dev m → scrubRuns s.dev m i = true → lapSteps m ≤ nget 0 s.dev.mem.scrubAt (64 * m + i) + 1 →
      ∃ t, exec (.scrubRead m i w 0) s = .next t ∧ t.pending = s.pending ∧ nget 0 t.dev.mem.scrubAt (64 * m + i) = 0 ∧
        nget 0 t.dev.mem.lapFrom (64 * m + i) = s.dev.now ∧
        (memMedia m = false → m < 12 → (nfind s.dev.mem.lapFrom (64 * m + i)).isSome = true →
          getF t.dev F.memLap_LAP_LAST m = min 0xFFFF ((s.dev.now - nget 0 s.dev.mem.lapFrom (64 * m + i)) / 4))) ∧
  (∀ (s : State) (m i w k : Nat), memInsts s.dev m ≤ i ∨ scrubRuns s.dev m i = false → exec (.scrubRead m i w k) s = .next s) ∧
  (∀ s : State, socUp s.dev = true →
      ∃ t, exec .memLogClear s = .next t ∧ t.pending = s.pending ∧ t.dev.mem = { s.dev.mem with log := [] } ∧ t.dev.rf = s.dev.rf) ∧
  (∀ (s : State) (v : Word), socUp s.dev = true →
      ∃ t, exec (.fijCtlWrite v) s = .next t ∧ t.pending = s.pending ∧ getF t.dev F.fijCtl_SEED = nbits v.toNat 15 0 ∧
        getF t.dev F.fijCtl_ARM = getF s.dev F.fijCtl_ARM ∧ t.dev.ord = s.dev.ord ∧ t.dev.mode = s.dev.mode) ∧
  (∀ (s : State) (v : Word), socUp s.dev = true → isSet s.dev F.dbgTrcfg_EN = false → nbit v.toNat 31 = true →
      ∃ t, exec (.dbgTraceEnable v) s = .next t ∧ t.pending = s.pending ∧ isSet t.dev F.dbgTrcfg_EN = true ∧
        getF t.dev F.dbgTrcfg_CH = nbits v.toNat 5 0 ∧ t.dev.fij.trace = [] ∧ isSet t.dev F.dbgTrcfg_FULL = false ∧ t.dev.ord = s.dev.ord) ∧
  (∀ (s : State) (v : Word), socUp s.dev = true → isSet s.dev F.dbgTrcfg_EN = true →
      ∃ t, exec (.dbgTraceEnable v) s = .next t ∧ getF t.dev F.dbgTrcfg_CH = getF s.dev F.dbgTrcfg_CH ∧ t.dev.fij = s.dev.fij)

/-! ### Protection -/

/-- The command sequence (R410, R411, R412): LKEY takes the lower key's two words, KEY the two key words, CMD an operation of Table SEC-2 and
the operands follow; any other write of the sequence and its timeout relock it; while BUSY every write is ignored.

The secured operations (R404 to R409, R412, R413, Table SEC-2, Table SEC-4): GO of the operation that was named, where its mode allows it,
starts an OTP write or takes effect at once; where the mode does not allow it the result is 3; GO of another operation relocks. -/
def Obligations.SecuredOperationsAndTheirSequence : Prop :=
  (∀ (s : State) (v : Word), socUp s.dev = true → s.dev.sec.st = 0 →
      ∃ t, exec (.secLkeyWrite v) s = .next t ∧ t.pending = s.pending ∧ t.dev.sec = { s.dev.sec with st := 1, lkA := v, since := s.dev.now } ∧
        t.dev.rf = s.dev.rf ∧ t.dev.otp = s.dev.otp) ∧
  (∀ (s : State) (v : Word), socUp s.dev = true → s.dev.sec.st = 1 → secLate s.dev = false →
      ∃ t, exec (.secLkeyWrite v) s = .next t ∧ t.pending = s.pending ∧ t.dev.sec = { s.dev.sec with st := 2, lkB := v, lkGiven := true } ∧
        t.dev.rf = s.dev.rf ∧ t.dev.otp = s.dev.otp) ∧
  (∀ s : State, socUp s.dev = true → s.dev.sec.st = 0 →
      ∃ t, exec (.secKeyWrite 0x53454B41#32) s = .next t ∧ t.pending = s.pending ∧ t.dev.sec = { s.dev.sec with st := 3, since := s.dev.now } ∧
        t.dev.rf = s.dev.rf) ∧
  (∀ s : State, socUp s.dev = true → secLate s.dev = false →
      (s.dev.sec.st = 2 → ∃ t, exec (.secKeyWrite 0x53454B41#32) s = .next t ∧ t.pending = s.pending ∧
        t.dev.sec = { s.dev.sec with st := 3 } ∧ t.dev.rf = s.dev.rf) ∧
      (s.dev.sec.st = 3 → ∃ t, exec (.secKeyWrite 0x53454B42#32) s = .next t ∧ t.pending = s.pending ∧
        t.dev.sec = { s.dev.sec with st := 4 } ∧ t.dev.rf = s.dev.rf)) ∧
  (∀ (s : State) (v : Word), socUp s.dev = true → s.dev.sec.st = 4 → secLate s.dev = false → 1 ≤ nbits v.toNat 7 0 → nbits v.toNat 7 0 ≤ 0x0A →
      ∃ t, exec (.secCmdWrite v) s = .next t ∧ t.pending = s.pending ∧ t.dev.sec = { s.dev.sec with st := 5, op := nbits v.toNat 7 0 } ∧
        t.dev.rf = s.dev.rf) ∧
  (∀ (s : State) (v : Word), socUp s.dev = true → s.dev.sec.st = 5 → secLate s.dev = false →
      (∃ t, exec (.secOperandWrite 0 v) s = .next t ∧ t.pending = s.pending ∧ t.dev.sec = { s.dev.sec with addr := v } ∧ t.dev.rf = s.dev.rf) ∧
      (∃ t, exec (.secOperandWrite 1 v) s = .next t ∧ t.pending = s.pending ∧ t.dev.sec = { s.dev.sec with data0 := v } ∧ t.dev.rf = s.dev.rf) ∧
      ∃ t, exec (.secOperandWrite 2 v) s = .next t ∧ t.pending = s.pending ∧ t.dev.sec = { s.dev.sec with data1 := v } ∧ t.dev.rf = s.dev.rf) ∧
  (∀ (s : State) (v : Word) (w : Nat), socUp s.dev = true → secLate s.dev = false →
      ∀ c : Instr, ((c = .secLkeyWrite v ∧ s.dev.sec.st ∈ [2, 3, 4, 5]) ∨
        (c = .secKeyWrite v ∧ (s.dev.sec.st ∈ [1, 4, 5] ∨ (s.dev.sec.st ∈ [0, 2] ∧ v ≠ 0x53454B41#32) ∨ (s.dev.sec.st = 3 ∧ v ≠ 0x53454B42#32))) ∨
        (c = .secCmdWrite v ∧ (s.dev.sec.st ∈ [0, 1, 2, 3, 5] ∨ (s.dev.sec.st = 4 ∧ (nbits v.toNat 7 0 = 0 ∨ 0x0A < nbits v.toNat 7 0)))) ∨
        (c = .secOperandWrite w v ∧ s.dev.sec.st ∈ [0, 1, 2, 3, 4])) →
      ∃ t, exec c s = .next t ∧ t.pending = s.pending ∧ t.dev.sec.st = 0 ∧ t.dev.sec.lkGiven = false ∧ getF t.dev F.secStat_RESULT = 1 ∧
        t.dev.otp = s.dev.otp ∧ t.dev.mode = s.dev.mode) ∧
  (∀ s : State, socUp s.dev = true → 1 ≤ s.dev.sec.st → s.dev.sec.st ≤ 5 →
      ∃ t, exec .secSequenceTimeout s = .next t ∧ t.pending = s.pending ∧ t.dev.sec.st = 0 ∧ t.dev.sec.lkGiven = false ∧
        getF t.dev F.secStat_RESULT = 1 ∧ t.dev.otp = s.dev.otp ∧ t.dev.mode = s.dev.mode) ∧
  (∀ (s : State) (v : Word) (w : Nat), socUp s.dev = true → secLate s.dev = true →
      ∀ c ∈ [Instr.secLkeyWrite v, .secKeyWrite v, .secCmdWrite v, .secOperandWrite w v, .raise, .lower, .nsSetkey, .nsUnlock, .nsLock, .otpKeyhash,
        .otpCapkey, .otpSigreq, .otpFloor, .regWrite],
      ∃ t, exec c s = .next t ∧ t.pending = s.pending ∧ t.dev.sec.st = 0 ∧ getF t.dev F.secStat_RESULT = 1 ∧ t.dev.otp = s.dev.otp) ∧
  (∀ (s : State) (v : Word) (w : Nat), s.dev.sec.st = 6 →
      ∀ c ∈ [Instr.secLkeyWrite v, .secKeyWrite v, .secCmdWrite v, .secOperandWrite w v, .raise, .lower, .nsSetkey, .nsUnlock, .nsLock, .otpKeyhash,
        .otpCapkey, .otpSigreq, .otpFloor, .regWrite], exec c s = .next s) ∧
  (∀ (s : State) (op : Nat) (c : Instr), (op, c) ∈ [(1, Instr.raise), (2, .lower), (3, .nsSetkey), (4, .nsUnlock), (5, .nsLock), (6, .otpKeyhash),
      (7, .otpCapkey), (8, .otpSigreq), (9, .otpFloor), (10, .regWrite)] → socUp s.dev = true → secLate s.dev = false → s.dev.sec.st ≠ 6 →
      (s.dev.sec.st = 5 → s.dev.sec.op = op → secAllowed s.dev op = false →
        ∃ t, exec c s = .next t ∧ t.pending = s.pending ∧ t.dev.sec.st = 0 ∧ getF t.dev F.secStat_RESULT = 3 ∧ t.dev.otp = s.dev.otp) ∧
      (s.dev.sec.st ≠ 5 ∨ s.dev.sec.op ≠ op →
        ∃ t, exec c s = .next t ∧ t.pending = s.pending ∧ t.dev.sec.st = 0 ∧ getF t.dev F.secStat_RESULT = 1 ∧ t.dev.otp = s.dev.otp)) ∧
  (∀ (s : State) (op : Nat) (c : Instr), (op, c) ∈ [(1, Instr.raise), (2, .lower), (3, .nsSetkey), (4, .nsUnlock), (5, .nsLock), (6, .otpKeyhash),
      (7, .otpCapkey), (8, .otpSigreq), (9, .otpFloor), (10, .regWrite)] → socUp s.dev = true → secLate s.dev = false → s.dev.sec.st = 5 →
      s.dev.sec.op = op → secAllowed s.dev op = true →
      ((op = 1 ∧ level s.dev < s.dev.sec.addr.toNat ∧ s.dev.sec.addr.toNat ≤ 3 ∧ s.dev.otp.log.length < 32 ∧
          (s.dev.sec.addr.toNat = 3 → s.dev.otp.pl3.length < 4)) ∨
        (op = 2 ∧ s.dev.sec.lkLock = false ∧ s.dev.sec.addr.toNat < level s.dev ∧ level s.dev < 3 ∧ s.dev.otp.log.length ≤ 30 ∧
          s.dev.mode.restored = true) ∨
        (op = 6 ∧ otpWithheld s.dev = false ∧ s.dev.sec.addr.toNat < 12 ∧ nget 0 s.dev.otp.keyHash s.dev.sec.addr.toNat = 0) ∨
        (op = 7 ∧ otpWithheld s.dev = false ∧ s.dev.sec.addr.toNat < 8 ∧ nget 0 s.dev.otp.capKey s.dev.sec.addr.toNat = 0) ∨
        op = 8 ∨ (op = 9 ∧ s.dev.otp.floor ≤ s.dev.sec.data0.toNat % 65536) →
        ∃ t, exec c s = .next t ∧ t.pending = s.pending ∧ t.dev.sec = { s.dev.sec with st := 6, busy := some op } ∧ t.dev.otp = s.dev.otp ∧
          t.dev.rf = s.dev.rf ∧ t.dev.mode = s.dev.mode) ∧
      (op = 1 → s.dev.sec.addr.toNat ≤ level s.dev ∨ 3 < s.dev.sec.addr.toNat → ∃ t, exec c s = .next t ∧ t.dev.sec.st = 0 ∧
        getF t.dev F.secStat_RESULT = 4 ∧ t.dev.otp = s.dev.otp) ∧
      (op = 2 → s.dev.sec.lkLock = true → ∃ t, exec c s = .next t ∧ t.dev.sec.st = 0 ∧ getF t.dev F.secStat_RESULT = 7 ∧ t.dev.otp = s.dev.otp) ∧
      (op = 3 → nsProtected s.dev s.dev.sec.addr.toNat = true → nfind s.dev.sec.creds s.dev.sec.addr.toNat = none →
        ∃ t, exec c s = .next t ∧ t.pending = s.pending ∧ t.dev.sec.st = 0 ∧ getF t.dev F.secStat_RESULT = 0 ∧
          nfind t.dev.sec.creds s.dev.sec.addr.toNat = some (credHash s.dev s.dev.sec.addr.toNat s.dev.sec.data0 s.dev.sec.data1)) ∧
      (op = 4 → nsProtected s.dev s.dev.sec.addr.toNat = true → s.dev.sec.addr.toNat < 16 → nget 0 s.dev.sec.badCred s.dev.sec.addr.toNat < 8 →
        nfind s.dev.sec.creds s.dev.sec.addr.toNat = some (credHash s.dev s.dev.sec.addr.toNat s.dev.sec.data0 s.dev.sec.data1) →
        ∃ t, exec c s = .next t ∧ t.pending = s.pending ∧ t.dev.sec.st = 0 ∧ getF t.dev F.secStat_RESULT = 0 ∧
          nbit (getF t.dev F.secNslock_LOCKED) s.dev.sec.addr.toNat = false ∧ nget 0 t.dev.sec.badCred s.dev.sec.addr.toNat = 0) ∧
      (op = 5 → s.dev.sec.addr = 0xFF#32 → ∃ t, exec c s = .next t ∧ t.pending = s.pending ∧ t.dev.sec.st = 0 ∧ getF t.dev F.secStat_RESULT = 0 ∧
        getF t.dev F.secNslock_LOCKED = 0xFFFF ∧ t.dev.otp = s.dev.otp) ∧
      (op = 10 → (∀ r i, regAt s.dev.sec.addr.toNat = some (r, i) → r ≠ .secSancfg ∧ r ≠ .fijCtl) →
        ∃ t, exec c s = .next t ∧ t.dev.sec.st = 0 ∧ getF t.dev F.secStat_RESULT = 0x0B) ∧
      (op = 10 → (∃ i, regAt s.dev.sec.addr.toNat = some (Reg.secSancfg, i)) →
        ∃ t, exec c s = .next t ∧ t.pending = s.pending ∧ getF t.dev F.secSancfg_PAR = nbits s.dev.sec.data0.toNat 5 0 ∧
          getF t.dev F.secStat_RESULT = 0 ∧ t.dev.sec.st = 0) ∧
      (op = 10 → (∃ i, regAt s.dev.sec.addr.toNat = some (Reg.fijCtl, i)) →
        ∃ t, exec c s = .next t ∧ t.pending = s.pending ∧ getF t.dev F.fijCtl_ARM = nbits s.dev.sec.data0.toNat 31 31 ∧
          getF t.dev F.secStat_RESULT = 0 ∧ t.dev.sec.st = 0))

/-- What an OTP write leaves, and a LOWER (R405, R406, R412, R415): at its end a RAISE adds its entry to the level log and locks every
namespace, a LOWER's PENDING entry stands and SANITIZE is due; SANITIZE is entered once no command runs, and when its steps are done the
level is the one asked for; the other operations program their item. -/
def Obligations.OtpWritesAndSanitize : Prop :=
  (∀ s : State, s.dev.sec.busy = some 1 →
      ∃ t, exec .otpProgramDone s = .next t ∧ t.pending = s.pending ∧ t.dev.otp.log = s.dev.otp.log ++ [(false, s.dev.sec.addr.toNat)] ∧
        t.dev.sec.st = 0 ∧ t.dev.sec.busy = none ∧ getF t.dev F.secStat_RESULT = 0 ∧ isSet t.dev F.fijCtl_ARM = false ∧
        (1 ≤ s.dev.sec.addr.toNat → getF t.dev F.secNslock_LOCKED = 0xFFFF)) ∧
  (∀ s : State, s.dev.sec.busy = some 2 →
      ∃ t, exec .otpProgramDone s = .next t ∧ t.dev.otp = { s.dev.otp with log := s.dev.otp.log ++ [(true, s.dev.sec.addr.toNat)] } ∧
        t.dev.sec.sanitize = true ∧ t.dev.sec.sanTarget = s.dev.sec.addr.toNat ∧ t.dev.sec.st = 0 ∧ t.dev.mode = s.dev.mode) ∧
  (∀ s : State, s.dev.sec.busy = some 6 → ∃ t, exec .otpProgramDone s = .next t ∧
      t.dev.otp = { s.dev.otp with keyHash := nset 0 s.dev.otp.keyHash s.dev.sec.addr.toNat s.dev.sec.data0 }) ∧
  (∀ s : State, s.dev.sec.busy = some 7 → ∃ t, exec .otpProgramDone s = .next t ∧
      t.dev.otp = { s.dev.otp with capKey := nset 0 s.dev.otp.capKey s.dev.sec.addr.toNat s.dev.sec.data0 }) ∧
  (∀ s : State, s.dev.sec.busy = some 8 → ∃ t, exec .otpProgramDone s = .next t ∧ t.dev.otp = { s.dev.otp with sigReq := true }) ∧
  (∀ s : State, s.dev.sec.busy = some 9 → ∃ t, exec .otpProgramDone s = .next t ∧
      t.dev.otp = { s.dev.otp with floor := s.dev.sec.data0.toNat % 65536 }) ∧
  (∀ s : State, s.dev.sec.busy = none → s.dev.hup.saving = false → exec .otpProgramDone s = .next s) ∧
  (∀ s : State, s.dev.sec.busy ≠ some 2 → s.dev.sec.sanitize = true → (s.dev.mode.mode = .warm ∨ s.dev.mode.mode = .safe ∨ s.dev.mode.mode.run = true) →
      ((lowerStop s.dev).ord.cmds.any fun c => decide (c.2.st = .running)) = false →
      ∃ t, exec .lowerAccepted s = .next t ∧ t.pending = s.pending ∧ t.dev.mode.mode = .sanitize ∧ t.dev.mode.cause = 8 ∧
        t.dev.sec.sanTarget = s.dev.sec.sanTarget ∧ t.dev.cq.regions = [] ∧ t.dev.otp = s.dev.otp ∧ t.dev.rrc.table = []) ∧
  (∀ s : State, s.dev.sec.busy ≠ some 2 → s.dev.sec.sanitize = true → (s.dev.mode.mode = .warm ∨ s.dev.mode.mode = .safe ∨ s.dev.mode.mode.run = true) →
      ((lowerStop s.dev).ord.cmds.any fun c => decide (c.2.st = .running)) = true →
      exec .lowerAccepted s = .next (after s lowerStop) ∧
      ∃ t, exec .lowerAccepted s = .next t ∧ t.pending = s.pending ∧ t.dev.mode = s.dev.mode ∧ t.dev.cq.regions = [] ∧ t.dev.sec = s.dev.sec) ∧
  (∀ s : State, running s.dev = true → sanAllDone s.dev = true →
      ∃ t, exec .sanitizeComplete s = .next t ∧ t.pending = s.pending ∧ t.dev.otp = { s.dev.otp with log := s.dev.otp.log ++ [(false, s.dev.sec.sanTarget)] } ∧
        t.dev.mode.mode = .loading ∧ t.dev.mode.cause = 0xA ∧ t.dev.ord.cmds = [] ∧ t.dev.sec.sanitize = false ∧ t.dev.xlt.indet = [] ∧
        t.dev.ret.jrnlValid = false ∧ t.dev.ret.epoch = 0 ∧ isSet t.dev F.memStat_BIST_OK = true) ∧
  (∀ s : State, sanAllDone s.dev = false → exec .sanitizeComplete s = .next s)

/-! ### The housekeeper -/

/-- The housekeeper (R65, R77, R421, R423, R424): its load, a step of shedding or of its end, a watchdog expiry that answers what is posted
with 6, counts, and at the third in a row enters SAFE, a posted slot, a slot set free, and the end of a step at the configuration flash.

Each service of Table HK-3 whose turn it is, in a mode that serves it, is what the housekeeper does with its slot, and then requests for
services that do not exist are answered; in a mode that does not serve it the answer is 4, out of its turn nothing happens; an answer
sets the slot DONE (R423 to R426). The results of each service are those of Table HK-3. -/
def Obligations.HousekeeperAndServices : Prop :=
  (∀ (s : State) (n : Nat), running s.dev = true → s.dev.mode.mode ≠ .dormant →
      ∃ t, exec (.hkLoadUpdate n) s = .next t ∧ t.pending = s.pending ∧ t.dev.hk = { s.dev.hk with load := min 100 n } ∧
        getF t.dev F.hkLoad_PEAK = max (getF s.dev F.hkLoad_PEAK) (min 100 n) ∧ t.dev.ord = s.dev.ord ∧ t.dev.mode = s.dev.mode) ∧
  (∀ s : State, running s.dev = true → s.dev.mode.mode ≠ .dormant →
      ∃ t, exec .hkShedStep s = .next t ∧ t.pending = s.pending ∧ t.dev.rf = s.dev.rf ∧ t.dev.ord = s.dev.ord ∧
        (getF s.dev F.hkCfg_SHED_HI ≤ s.dev.hk.load → t.dev.hk.shed = min 5 (s.dev.hk.shed + 1)) ∧
        (s.dev.hk.load < getF s.dev F.hkCfg_SHED_HI → s.dev.hk.load ≤ shedLo s.dev → t.dev.hk.shed = s.dev.hk.shed - 1) ∧
        (s.dev.hk.load < getF s.dev F.hkCfg_SHED_HI → shedLo s.dev < s.dev.hk.load → t.dev.hk.shed = s.dev.hk.shed)) ∧
  (∀ (s : State) (p : Bool), running s.dev = true → s.dev.mode.mode ≠ .dormant → s.dev.ret.hkResets < 2 →
      ∃ t, exec (.hkWatchdogExpiry p) s = .next t ∧ t.pending = s.pending ∧ t.dev.hk.shed = 0 ∧ t.dev.hk.serving = none ∧
        t.dev.ret.hkResets = s.dev.ret.hkResets + 1 ∧ t.dev.mode = s.dev.mode) ∧
  (∀ (s : State) (v : Word), socUp s.dev = true → mbState s.dev (v.toNat % 16) = 1 →
      ∃ t, exec (.mailboxDoorbell v) s = .next t ∧ t.pending = s.pending ∧ t.dev.hk = s.dev.hk ∧ t.dev.mode = s.dev.mode ∧
        getF t.dev F.hkMbdone_DB_IGN = min 0xFF (getF s.dev F.hkMbdone_DB_IGN + 1)) ∧
  (∀ (s : State) (v : Word), socUp s.dev = true → mbState s.dev (v.toNat % 16) ≠ 1 → svcKnown (mbSvc s.dev (v.toNat % 16)) = true →
      ∃ t, exec (.mailboxDoorbell v) s = .next t ∧ t.pending = s.pending ∧ mbState t.dev (v.toNat % 16) = 1 ∧ v.toNat % 16 ∈ t.dev.hk.order ∧
        nbit (getF t.dev F.hkMbdone_DONE) (v.toNat % 16) = false ∧ t.dev.ord = s.dev.ord) ∧
  (∀ (s : State) (mask : Word), socUp s.dev = true →
      ∃ t, exec (.mailboxSlotFree mask) s = .next t ∧ t.pending = s.pending ∧ t.dev.hk.order = s.dev.hk.order ∧ t.dev.ord = s.dev.ord ∧
        (∀ i, i < 16 → nbit mask.toNat i = true → nbit (getF s.dev F.hkMbdone_DONE) i = true → mbState s.dev i = 2 →
          mbState t.dev i = 0 ∧ nbit (getF t.dev F.hkMbdone_DONE) i = false) ∧ t.dev.mode = s.dev.mode) ∧
  (∀ (s : State) (mb n : Nat), running s.dev = true → s.dev.hk.spi = some (.erase mb n) → 1 < n →
      ∃ t, exec (.spiSequencerDone true) s = .next t ∧ t.pending = s.pending ∧ t.dev.hk = { s.dev.hk with spi := some (.erase mb (n - 1)) } ∧
        t.dev.rf = s.dev.rf) ∧
  (∀ (s : State) (mb n : Nat), running s.dev = true → s.dev.hk.spi = some (.erase mb n) →
      exec (.spiSequencerDone false) s = .next (after s fun d => spiFailed mb d)) ∧
  (∀ s : State, running s.dev = true → s.dev.hk.spi = none → ∀ ok, exec (.spiSequencerDone ok) s = .next s) ∧
  (∀ (s : State) (i : Nat) (x : List (Nat × Byte)),
    ∀ y ∈ ([(1, Instr.echo i, fun q d => mbAnswer i 0 0 0 (q.drop 8) d), (2, .hkInfo i, goInfo i), (0x10, .cfgUpdateBegin i, goBegin i),
        (0x11, .cfgUpdateData i, goData i), (0x12, .cfgUpdateCommit ⟨i, x⟩, goCommit i x), (0x13, .cfgUpdateAbort i, goAbort i),
        (0x14, .cfgReadSection i, goSection i), (0x20, .statErase i, goStatErase i), (0x21, .statWear i, goStatWear i),
        (0x22, .statThreshold i, goStatThr i), (0x23, .statDieTemps i, goStatTemps i), (0x24, .statZone i, goStatZone i),
        (0x25, .statLife i, goStatLife i), (0x30, .bbList i, goBbList i), (0x31, .bbRetire i, goBbRetire i),
        (0x40, .refreshReq i, goRefresh i)] : List (Nat × Instr × (List Byte → Dev → Dev))),
      (Serves s.dev y.1 i → exec y.2.1 s = .next (after s fun d => mbSkip 16 (y.2.2 (mbBytes d i) d))) ∧
      (running s.dev = true → s.dev.mode.mode ≠ .dormant → i < 16 → mbTurn s.dev y.1 i = true → svcMode s.dev y.1 = false →
        ∃ t, exec y.2.1 s = .next t ∧ t.pending = s.pending ∧ Answered t.dev i 4 0 []) ∧
      (mbTurn s.dev y.1 i = false → exec y.2.1 s = .next s)) ∧
  (∀ (s : State) (i : Nat),
    (Serves s.dev 1 i → ∃ t, exec (.echo i) s = .next t ∧ t.pending = s.pending ∧ Answered t.dev i 0 0 ((mbBytes s.dev i).drop 8)) ∧
    (Serves s.dev 2 i → ∃ t, exec (.hkInfo i) s = .next t ∧ t.pending = s.pending ∧
      Answered t.dev i 0 0 (natLe 4 Config.hkRomVersion.toNat ++ natLe 4 s.dev.cfg.hkVersion ++ natLe 1 s.dev.hk.load ++ natLe 1 s.dev.hk.shed)) ∧
    (Serves s.dev 0x10 i → s.dev.hk.update = none → s.dev.hk.spi = none → leAt (mbBytes s.dev i) 8 4 ≠ 0 →
      leAt (mbBytes s.dev i) 8 4 ≤ s.dev.cfg.slotBytes - 4096 →
      ∃ t, exec (.cfgUpdateBegin i) s = .next t ∧ t.pending = s.pending ∧ t.dev.hk.update = some { len := leAt (mbBytes s.dev i) 8 4 } ∧
        t.dev.hk.serving = some i ∧ t.dev.hk.spi = some (.erase i (slotErases s.dev (leAt (mbBytes s.dev i) 8 4))) ∧ mbState t.dev i = 1) ∧
    (Serves s.dev 0x11 i → s.dev.hk.update = none → ∃ t, exec (.cfgUpdateData i) s = .next t ∧ Answered t.dev i 6 0 []) ∧
    (∀ u, Serves s.dev 0x11 i → s.dev.hk.update = some u → leAt (mbBytes s.dev i) 0x14 4 % 256 = 0 → leAt (mbBytes s.dev i) 0x10 4 ≠ 0 →
      leAt (mbBytes s.dev i) 0x14 4 + leAt (mbBytes s.dev i) 0x10 4 ≤ u.len → leAt (mbBytes s.dev i) 8 8 < 2 ^ 48 →
      ∃ t, exec (.cfgUpdateData i) s = .next t ∧ t.pending = s.pending ∧ t.dev.hk.serving = some i ∧ t.dev.hk.update = some u ∧
        mbState t.dev i = 1 ∧ t.dev.mode = s.dev.mode) ∧
    (∀ x, Serves s.dev 0x12 i → s.dev.hk.update = none → ∃ t, exec (.cfgUpdateCommit ⟨i, x⟩) s = .next t ∧ Answered t.dev i 6 0 []) ∧
    (∀ x u img r g, Serves s.dev 0x12 i → s.dev.hk.update = some u → s.dev.hk.spi = none → higherGen s.dev = some g → g < 0xFFFFFFFE →
      img = ((List.range u.len).map fun j => nget 0xFF (x.foldl (fun m p => nput m p.1 p.2) u.img) j) →
      imageCheck s.dev s.dev.cfg.slotBytes none [img] = .inr r →
      ∃ t, exec (.cfgUpdateCommit ⟨i, x⟩) s = .next t ∧ t.pending = s.pending ∧ t.dev.hk.spi = some (.commit i (g + 1)) ∧
        t.dev.hk.serving = some i ∧ t.dev.hk.update = some u) ∧
    (∀ x u img cause, Serves s.dev 0x12 i → s.dev.hk.update = some u →
      img = ((List.range u.len).map fun j => nget 0xFF (x.foldl (fun m p => nput m p.1 p.2) u.img) j) →
      imageCheck s.dev s.dev.cfg.slotBytes none [img] = .inl cause →
      ∃ t, exec (.cfgUpdateCommit ⟨i, x⟩) s = .next t ∧ t.pending = s.pending ∧ Answered t.dev i 7 cause [] ∧ t.dev.hk.update = some u) ∧
    (Serves s.dev 0x13 i → s.dev.hk.update = none → ∃ t, exec (.cfgUpdateAbort i) s = .next t ∧ Answered t.dev i 6 0 []) ∧
    (∀ u, Serves s.dev 0x13 i → s.dev.hk.update = some u → s.dev.hk.serving = none →
      ∃ t, exec (.cfgUpdateAbort i) s = .next t ∧ t.pending = s.pending ∧ t.dev.hk.update = none ∧ Answered t.dev i 0 0 []) ∧
    (Serves s.dev 0x14 i → userType (leAt (mbBytes s.dev i) 0x14 2) = false → ∃ t, exec (.cfgReadSection i) s = .next t ∧ Answered t.dev i 3 0 []) ∧
    (∀ u, Serves s.dev 0x14 i → userType (leAt (mbBytes s.dev i) 0x14 2) = true → leAt (mbBytes s.dev i) 8 8 < 2 ^ 48 →
      (s.dev.cfg.user.filter fun x => decide (x.1 = leAt (mbBytes s.dev i) 0x14 2))[leAt (mbBytes s.dev i) 0x16 2]? = some u → u.2 ≠ [] →
      (leAt (mbBytes s.dev i) 0x10 4 = 0 → ∃ t, exec (.cfgReadSection i) s = .next t ∧ t.pending = s.pending ∧
        Answered t.dev i 3 0 (natLe 4 u.2.length)) ∧
      (u.2.length ≤ leAt (mbBytes s.dev i) 0x10 4 → ∃ t, exec (.cfgReadSection i) s = .next t ∧ t.pending = s.pending ∧
        t.dev.hk.serving = some i ∧ t.dev.hk.resp = some (0, natLe 4 u.2.length) ∧ mbState t.dev i = 1)) ∧
    (Serves s.dev 0x20 i → leAt (mbBytes s.dev i) 0x14 2 + leAt (mbBytes s.dev i) 0x16 2 ≤ s.dev.build.luns → leAt (mbBytes s.dev i) 0x10 4 = 0 →
      leAt (mbBytes s.dev i) 8 8 < 2 ^ 48 →
      ∃ t, exec (.statErase i) s = .next t ∧ t.pending = s.pending ∧
        Answered t.dev i (if ((rangeFrom (leAt (mbBytes s.dev i) 0x14 2) (leAt (mbBytes s.dev i) 0x16 2)).flatMap (eraseBytes s.dev)) = [] then 0 else 3) 0
          (natLe 4 0)) ∧
    (Serves s.dev 0x20 i → s.dev.build.luns < leAt (mbBytes s.dev i) 0x14 2 + leAt (mbBytes s.dev i) 0x16 2 →
      ∃ t, exec (.statErase i) s = .next t ∧ Answered t.dev i 3 0 []) ∧
    (∀ bs, Serves s.dev 0x20 i → leAt (mbBytes s.dev i) 0x14 2 + leAt (mbBytes s.dev i) 0x16 2 ≤ s.dev.build.luns → leAt (mbBytes s.dev i) 8 8 < 2 ^ 48 →
      bs = ((rangeFrom (leAt (mbBytes s.dev i) 0x14 2) (leAt (mbBytes s.dev i) 0x16 2)).flatMap (eraseBytes s.dev)) → bs ≠ [] →
      bs.length ≤ leAt (mbBytes s.dev i) 0x10 4 →
      ∃ t, exec (.statErase i) s = .next t ∧ t.pending = s.pending ∧ t.dev.hk.serving = some i ∧ t.dev.hk.resp = some (0, natLe 4 bs.length)) ∧
    (Serves s.dev 0x21 i → ∃ (t : State) (mean : Nat) (cs : List Nat), exec (.statWear i) s = .next t ∧ t.pending = s.pending ∧
      cs = (((allLuns s.dev).filter (lunPresent s.dev)).flatMap fun l => (List.range (mpBlocks s.dev l)).map fun b => eraseCnt s.dev l b) ∧
      cs.sum ≤ mean * max 1 cs.length + (max 1 cs.length - 1) ∧ mean * max 1 cs.length ≤ cs.sum + (max 1 cs.length - 1) ∧
      Answered t.dev i 0 0 (natLe 4 (cs.foldl min (cs.headD 0)) ++ natLe 4 (cs.foldl max 0) ++ natLe 4 mean ++
        natLe 4 s.dev.pgm.retired.length ++ natLe 2 s.dev.xlt.minSpares)) ∧
    (Serves s.dev 0x22 i →
      (16 ≤ leAt (mbBytes s.dev i) 0xA 1 ∨ 4 ≤ leAt (mbBytes s.dev i) 0xB 1 → ∃ t, exec (.statThreshold i) s = .next t ∧ Answered t.dev i 3 0 []) ∧
      (leAt (mbBytes s.dev i) 0xA 1 < 16 → leAt (mbBytes s.dev i) 0xB 1 < 4 → lunMapped s.dev (leAt (mbBytes s.dev i) 8 2) = true →
        ∃ t, exec (.statThreshold i) s = .next t ∧ t.pending = s.pending ∧ t.dev.hk.serving = some i ∧
          t.dev.hk.thrAsk = some (i, leAt (mbBytes s.dev i) 8 2, leAt (mbBytes s.dev i) 0xA 1, leAt (mbBytes s.dev i) 0xB 1) ∧ t.dev.ord = s.dev.ord)) ∧
    (Serves s.dev 0x23 i → leAt (mbBytes s.dev i) 8 1 < s.dev.build.channels →
      ∃ t, exec (.statDieTemps i) s = .next t ∧ t.pending = s.pending ∧ Answered t.dev i 0 0
        ((((List.range 32).map fun j => nget none s.dev.thm.temps (32 * leAt (mbBytes s.dev i) 8 1 + j)).map fun x =>
            match x with | some (x, _) => BitVec.ofNat 8 (wrapI 8 x) | none => 0x80#8) ++
          ((List.range 32).map fun j => nget none s.dev.thm.temps (32 * leAt (mbBytes s.dev i) 8 1 + j)).map fun x =>
            match x with | some (_, w) => BitVec.ofNat 8 (min 255 ((s.dev.now - w) / ms 100)) | none => 0xFF#8)) ∧
    (∀ ns n z b, n = leAt (mbBytes s.dev i) 8 1 → z = leAt (mbBytes s.dev i) 0xC 4 → ns = getNs s.dev n → b = getSb s.dev (zoneSb s.dev ns z) →
      Serves s.dev 0x24 i →
      (n < 16 → ns.present = true → ns.random = false → z < zoneCount ns → ∃ t, exec (.statZone i) s = .next t ∧ t.pending = s.pending ∧
        Answered t.dev i 0 0 (natLe 4 (zoneSb s.dev ns z) ++ natLe 2 (zonePos s.dev ns z) ++ natLe 2 (min 0xFFFF b.ew) ++
          natLe 4 (b.closeStamp.getD 0) ++ natLe 1 (wrapI 8 (b.progTemp.getD (-128))))) ∧
      (16 ≤ n ∨ ns.present = false ∨ ns.random = true ∨ zoneCount ns ≤ z → ∃ t, exec (.statZone i) s = .next t ∧ Answered t.dev i 9 0 [])) ∧
    (Serves s.dev 0x25 i → ∃ t, exec (.statLife i) s = .next t ∧ t.pending = s.pending ∧
      Answered t.dev i 0 0 (natLe 8 s.dev.xlt.hostSecs ++ natLe 8 s.dev.xlt.progSecs ++ natLe 4 s.dev.hup.count ++ natLe 4 s.dev.ageMin)) ∧
    (Serves s.dev 0x30 i → lunMapped s.dev (leAt (mbBytes s.dev i) 0x14 2) = true → leAt (mbBytes s.dev i) 8 8 < 2 ^ 48 →
      nget [] s.dev.xlt.remap (leAt (mbBytes s.dev i) 0x14 2) = [] →
      ∃ t, exec (.bbList i) s = .next t ∧ t.pending = s.pending ∧ Answered t.dev i 0 0 (natLe 4 0)) ∧
    (∀ bs, Serves s.dev 0x30 i → lunMapped s.dev (leAt (mbBytes s.dev i) 0x14 2) = true → leAt (mbBytes s.dev i) 8 8 < 2 ^ 48 →
      bs = ((nget [] s.dev.xlt.remap (leAt (mbBytes s.dev i) 0x14 2)).flatMap fun p => natLe 4 p.1 ++ natLe 4 p.2) → bs ≠ [] →
      bs.length ≤ leAt (mbBytes s.dev i) 0x10 4 →
      ∃ t, exec (.bbList i) s = .next t ∧ t.pending = s.pending ∧ t.dev.hk.serving = some i ∧ t.dev.hk.resp = some (0, natLe 4 (bs.length / 8))) ∧
    (Serves s.dev 0x31 i → lunUsable s.dev (leAt (mbBytes s.dev i) 8 2) = false → ∃ t, exec (.bbRetire i) s = .next t ∧ Answered t.dev i 9 0 []) ∧
    (Serves s.dev 0x31 i → lunUsable s.dev (leAt (mbBytes s.dev i) 8 2) = true → leAt (mbBytes s.dev i) 0xC 4 < mpBlocks s.dev (leAt (mbBytes s.dev i) 8 2) →
      (leAt (mbBytes s.dev i) 8 2, leAt (mbBytes s.dev i) 0xC 4) ∉ s.dev.pgm.retired →
      ∃ t, exec (.bbRetire i) s = .next t ∧ t.pending = s.pending ∧ mbState t.dev i = 2 ∧ i ∉ t.dev.hk.order) ∧
    (∀ ns n z, n = leAt (mbBytes s.dev i) 8 1 → z = leAt (mbBytes s.dev i) 0xC 4 → ns = getNs s.dev n → Serves s.dev 0x40 i → n < 16 →
      ns.present = true → 1 ≤ leAt (mbBytes s.dev i) 0x10 1 → leAt (mbBytes s.dev i) 0x10 1 ≤ 3 →
      (ns.random = false → z < zoneCount ns → ∃ t, exec (.refreshReq i) s = .next t ∧ t.pending = s.pending ∧ Answered t.dev i 0 0 []) ∧
      (ns.random = true → z ∈ poolSbs ns → ∃ t, exec (.refreshReq i) s = .next t ∧ t.pending = s.pending ∧ Answered t.dev i 0 0 []) ∧
      ((ns.random = false ∧ zoneCount ns ≤ z) ∨ (ns.random = true ∧ z ∉ poolSbs ns) →
        ∃ t, exec (.refreshReq i) s = .next t ∧ t.pending = s.pending ∧ Answered t.dev i 9 0 []))) ∧
  (∀ (d : Dev) (i status detail retry : Nat) (res : List Byte), mbState d i = 1 → i < 16 →
      mbState (mbAnswer i status detail retry res d) i = 2 ∧ i ∉ (mbAnswer i status detail retry res d).hk.order)
end

