-- ==== Sys2Proof/Laws/Maps.lean ====
section
/-! SUPPORT. Laws/Maps.lean: what reading, writing and erasing one entry of a sparse map does, and that writing keeps its form. -/

namespace Sys2Proof.Machine

open Sys2Proof

variable {α : Type}

@[simp] theorem nfind_nil (k : Nat) : nfind ([] : NMap α) k = none := rfl

theorem nfind_nput (m : NMap α) (k j : Nat) (v : α) : nfind (nput m k v) j = if j = k then some v else nfind m j := by
  induction m with
  | nil => simp only [nput, nfind, eq_comm]
  | cons p m ih =>
    obtain ⟨i, w⟩ := p
    simp only [nput]
    split
    · simp only [nfind, eq_comm]
    · split
      · subst_vars; simp only [nfind, eq_comm]; split <;> rfl
      · simp only [nfind, ih]; grind

theorem nfind_nerase (m : NMap α) (k j : Nat) : nfind (nerase m k) j = if j = k then none else nfind m j := by
  induction m with
  | nil => simp [nerase, nfind]
  | cons p m ih =>
    obtain ⟨i, w⟩ := p
    simp only [nerase]
    split <;> simp only [nfind, ih] <;> grind

@[simp] theorem nget_nil (b : α) (k : Nat) : nget b [] k = b := rfl

variable [DecidableEq α]

theorem nfind_nset (b : α) (m : NMap α) (k j : Nat) (v : α) :
    nfind (nset b m k v) j = if j = k then (if v = b then none else some v) else nfind m j := by
  unfold nset
  split
  · rw [nfind_nerase]
  · rw [nfind_nput]

/-- The entry written is what is read. -/
@[simp] theorem nget_nset_self (b : α) (m : NMap α) (k : Nat) (v : α) : nget b (nset b m k v) k = v := by
  simp only [nget, nfind_nset, if_pos]
  split <;> simp_all

/-- Every other entry reads as before. -/
theorem nget_nset_ne (b c : α) (m : NMap α) {k j : Nat} (v : α) (h : j ≠ k) : nget b (nset c m k v) j = nget b m j := by
  simp only [nget, nfind_nset, if_neg h]

@[simp] theorem nget_nmod_self (b : α) (m : NMap α) (k : Nat) (f : α → α) : nget b (nmod b m k f) k = f (nget b m k) :=
  nget_nset_self ..

theorem nget_nmod_ne (b c : α) (m : NMap α) {k j : Nat} (f : α → α) (h : j ≠ k) : nget b (nmod c m k f) j = nget b m j :=
  nget_nset_ne _ _ _ _ h

theorem nwfFrom_mono (b : α) (m : NMap α) {i j : Nat} (h : i ≤ j) (hw : nwfFrom b j m = true) : nwfFrom b i m = true := by
  cases m with
  | nil => rfl
  | cons p m => obtain ⟨k, w⟩ := p; simp only [nwfFrom, Bool.and_eq_true, decide_eq_true_eq] at *; grind

theorem nwfFrom_nput (b : α) (m : NMap α) (i k : Nat) (v : α) (hv : v ≠ b) (hk : i ≤ k) (h : nwfFrom b i m = true) :
    nwfFrom b i (nput m k v) = true := by
  induction m generalizing i with
  | nil => simp [nput, nwfFrom, hv, hk]
  | cons p m ih =>
    obtain ⟨j, w⟩ := p
    simp only [nput]
    simp only [nwfFrom, Bool.and_eq_true, decide_eq_true_eq] at h
    split
    · simp only [nwfFrom, Bool.and_eq_true, decide_eq_true_eq]; grind
    · split
      · simp only [nwfFrom, Bool.and_eq_true, decide_eq_true_eq]; grind
      · simp only [nwfFrom, Bool.and_eq_true, decide_eq_true_eq]
        exact ⟨h.1, ih (j + 1) (by omega) h.2⟩

theorem nwfFrom_nerase (b : α) (m : NMap α) (i k : Nat) (h : nwfFrom b i m = true) : nwfFrom b i (nerase m k) = true := by
  induction m generalizing i with
  | nil => rfl
  | cons p m ih =>
    obtain ⟨j, w⟩ := p
    simp only [nwfFrom, Bool.and_eq_true, decide_eq_true_eq] at h
    simp only [nerase]
    split
    · exact nwfFrom_mono b _ (by omega) (ih (j + 1) h.2)
    · simp only [nwfFrom, Bool.and_eq_true, decide_eq_true_eq]; exact ⟨h.1, ih (j + 1) h.2⟩

end Sys2Proof.Machine
end

