-- ==== Sys2Proof/Laws/PerInstr.lean ====
section
/-! SUPPORT. Laws/PerInstr.lean: for each command, the ranges that the manual gives its operands, written out as plain inequalities;
well-formedness is exactly that. -/

namespace Sys2Proof.Laws.Operands

open Sys2Proof

/-- The operands of a command lie where the manual says they do. -/
def InRange : Instr → Prop
  | .tachEdge j => j < 8
  | .inputStuckTimeout i => i < 13
  | .inputRearmElapsed i => i < 13
  | .inputFilterWrite i _ => i < 13
  | .registerWrite k _ _ => k < 2 ^ 21
  | .registerRead k _ => k < 2 ^ 21
  | .mpCreditReturn p => p < 8
  | .mpPdreqRise p => p < 8
  | .mpWithdrawComplete p => p < 8
  | .mpPdreqFall p => p < 8
  | .mpWithdrawTimeout p => p < 8
  | .mpReadResponse p t g b s _ _ => p < 4 ∧ t < 256 ∧ g < 4 ∧ b < 32 ∧ s < 4
  | .mpWriteAck p t g s => p < 4 ∧ t < 256 ∧ g < 4 ∧ s < 4
  | .mpResponseTimeout p t => p < 8 ∧ t < 256
  | .mpReissue p t => p < 8 ∧ t < 256
  | .drqEdge k => k < 64
  | .ctxPause k => k < 64
  | .pauseComplete k => k < 64
  | .ctxResume k => k < 64
  | .ctxDisable k => k < 64
  | .ctxEnable k => k < 64
  | .packerDraw k => k < 64
  | .sqDoorbell q _ => q < 64
  | .cqDoorbell q _ => q < 64
  | .cqAggTimer q => q < 64
  | .sqEnable q => q < 64
  | .cqEnable q => q < 64
  | .sqReset q _ => q < 64
  | .sqResetComplete q => q < 64
  | .cqReset q _ => q < 64
  | .link g s k q => g < 8 ∧ s < 4 ∧ k < 3 ∧ q < 65536
  | .linkReset g s => g < 8 ∧ s < 4
  | .opReq g q _ => g < 8 ∧ q < 65536
  | .opResult g q _ => g < 8 ∧ q < 65536
  | .wdata g q _ => g < 8 ∧ q < 65536
  | .rdata g q _ => g < 8 ∧ q < 65536
  | .fifoState g q _ => g < 8 ∧ q < 65536
  | .release g q _ => g < 8 ∧ q < 65536
  | .event g q _ => g < 8 ∧ q < 65536
  | .ctrlReq g q _ => g < 8 ∧ q < 65536
  | .ctrlResp g q _ => g < 8 ∧ q < 65536
  | .patch g q _ => g < 8 ∧ q < 65536
  | .stats g q _ => g < 8 ∧ q < 65536
  | .credit g _ q _ => g < 8 ∧ q < 65536
  | .quiesce g _ q _ => g < 8 ∧ q < 65536
  | .holdupMessage g _ q _ => g < 8 ∧ q < 65536
  | .fault g _ q _ => g < 8 ∧ q < 65536
  | .gateRequest g => g < 8
  | .gateHandshakeComplete g => g < 8
  | .gateClear g _ => g < 8
  | .gateForce g => g < 8
  | .gateTimeout g => g < 8
  | .ungateComplete g _ _ => g < 8
  | .rbRise c e => c < 64 ∧ e < 4
  | .uNop c => c < 64
  | .uCmd c => c < 64
  | .uAdr c => c < 64
  | .uDout c => c < 64
  | .uWait c => c < 64
  | .uBr c => c < 64
  | .uBrc c => c < 64
  | .uLdi c => c < 64
  | .uLdp c => c < 64
  | .uAdd c => c < 64
  | .uAnd c => c < 64
  | .uShl c => c < 64
  | .uSetf c => c < 64
  | .uSel c => c < 64
  | .uEvt c => c < 64
  | .uYield c => c < 64
  | .uCommit c => c < 64
  | .uEnd c => c < 64
  | .uPhy c _ => c < 64
  | .noYield c => c < 64
  | .busTransferDone c _ => c < 64
  | .encodeDone c => c < 64
  | .calIntervalExpiry c => c < 64
  | .calReqRecal c _ => c < 64
  | .calReqFull c _ => c < 64
  | .calReqCheck c _ => c < 64
  | .calRunComplete c _ => c < 64
  | .calApplyGap c => c < 64
  | .calForceExpiry c => c < 64
  | .yieldWake c l => l < 2048 ∧ l / 32 = c
  | .abortRequest c l => l < 2048 ∧ l / 32 = c
  | .copReadPage c l => l < 2048 ∧ l / 32 = c
  | .copReadMulti c l => l < 2048 ∧ l / 32 = c
  | .copCacheRead c l => l < 2048 ∧ l / 32 = c
  | .copSoftRead c l => l < 2048 ∧ l / 32 = c
  | .copProgram c l => l < 2048 ∧ l / 32 = c
  | .copProgramSlc c l => l < 2048 ∧ l / 32 = c
  | .copProgramStep c l => l < 2048 ∧ l / 32 = c
  | .copErase c l => l < 2048 ∧ l / 32 = c
  | .copSuspend c l => l < 2048 ∧ l / 32 = c
  | .copResume c l => l < 2048 ∧ l / 32 = c
  | .copReadStatus c l => l < 2048 ∧ l / 32 = c
  | .copGetFeat c l => l < 2048 ∧ l / 32 = c
  | .copSetFeat c l => l < 2048 ∧ l / 32 = c
  | .copResetLun c l => l < 2048 ∧ l / 32 = c
  | .copReadId c l => l < 2048 ∧ l / 32 = c
  | .copReadParam c l => l < 2048 ∧ l / 32 = c
  | .copZqCal c l => l < 2048 ∧ l / 32 = c
  | .copTrain c l => l < 2048 ∧ l / 32 = c
  | .uDin c l => l < 2048 ∧ l / 32 = c
  | .uPoll c l => l < 2048 ∧ l / 32 = c
  | .copRecover c l => l < 2048 ∧ l / 32 = c
  | .archBandPoll l _ => l < 2048
  | .dieTempPoll l _ => l < 2048
  | .thresholdSweep l _ _ => l < 2048
  | .relocationStart g => g < 256
  | .relocationPhaseEnd g => g < 256
  | .gcStart n => n < 16
  | .mapCheckpoint n => n < 16
  | .dmaBurstIssue p => p < 8
  | .loopSample s _ _ => s < 16
  | .loopOpen s => s < 16
  | .loopClose s => s < 16
  | .loopTune s => s < 16
  | .loopTraceCfgWrite s _ => s < 16
  | .echo s => s < 16
  | .hkInfo s => s < 16
  | .cfgUpdateBegin s => s < 16
  | .cfgUpdateData s => s < 16
  | .cfgUpdateAbort s => s < 16
  | .cfgReadSection s => s < 16
  | .statErase s => s < 16
  | .statWear s => s < 16
  | .statThreshold s => s < 16
  | .statDieTemps s => s < 16
  | .statZone s => s < 16
  | .statLife s => s < 16
  | .bbList s => s < 16
  | .bbRetire s => s < 16
  | .refreshReq s => s < 16
  | .cfgUpdateCommit b => b.slot < 16
  | .adcConversionEnd a e r => a < 2 ∧ e < 20 ∧ r < 16384
  | .adcOpenTest i r => i < 40 ∧ r < 16384
  | .fanFail z => z < 12
  | .scrubRead m i _ _ => m < 12 ∧ i < 64
  | .secOperandWrite w _ => w < 3
  | .hkLoadUpdate n => n ≤ 100
  | .cfgLoadComplete a => (∀ x ∈ a, 1048576 ≤ x.density) ∧ (∀ x ∈ a, x.density ≤ 67108864)
  | .poRstAssert => True
  | .poRstRelease _ _ _ => True
  | .sysRstAssert => True
  | .sysRstRelease _ => True
  | .sysRstDeferredEffect => True
  | .pfailLatch => True
  | .pfSnsTrip => True
  | .burstWarnAssert => True
  | .burstWarnDeassert => True
  | .epochSyncEdge => True
  | .stageFaultAssert => True
  | .stageFaultDeassert => True
  | .mpPurposeFailEnd _ => True
  | .splStatusWord _ => True
  | .splStatusTimeout => True
  | .brakeRefresh => True
  | .modeReqNone _ => True
  | .modeReqDormant _ => True
  | .modeReqStandby _ => True
  | .modeReqWarm _ => True
  | .modeReqServe _ => True
  | .modeReqIngest _ => True
  | .modeReqDrain _ => True
  | .modeReqMaintain _ => True
  | .modeReqSafe _ => True
  | .modeReqFactory _ => True
  | .warmIdleExpiry => True
  | .stbyIdleExpiry => True
  | .runDrainComplete => True
  | .descentComplete => True
  | .wakeComplete _ _ _ => True
  | .mediaRestoreComplete => True
  | .cfgWipPollTimeout => True
  | .patchGo _ => True
  | .capsuleCheckComplete => True
  | .patchDone => True
  | .patchWaitExpiry => True
  | .hkResetCountClear => True
  | .hardDecodeDone _ _ => True
  | .softDecodeDone _ _ => True
  | .softPassIssue => True
  | .recoveryEntryFree => True
  | .archWaitExpiry _ => True
  | .archStallExpiry _ => True
  | .errorEntryResolve _ => True
  | .eqAck _ => True
  | .jrnlIntExpiry => True
  | .refreshScan => True
  | .zoneCheckpointTimer => True
  | .ageClockMinute => True
  | .offtimeWrite _ => True
  | .thresholdSave => True
  | .mcInvalidateLine => True
  | .mcInvalidateAll => True
  | .mcWriteBackAll => True
  | .mcEnableClear => True
  | .mcEnableSet => True
  | .sqFetch => True
  | .read _ => True
  | .write _ => True
  | .append _ => True
  | .flush _ => True
  | .trim _ => True
  | .verify _ => True
  | .zoneOpen _ => True
  | .zoneFinish _ => True
  | .zoneReset _ => True
  | .zoneReport _ => True
  | .epochMark _ => True
  | .epochCommit _ => True
  | .custodyRegister _ => True
  | .custodyRelease _ => True
  | .completionRelease _ => True
  | .cqPendClear _ _ => True
  | .quiesceRequest => True
  | .quiesceComplete => True
  | .quiesceClear => True
  | .epochSetWrite _ => True
  | .dmaKick _ => True
  | .energyEstimate => True
  | .kettleHealthCheck => True
  | .healthGo => True
  | .healthPhaseEnd _ _ _ => True
  | .holdupEnergyCheck _ _ => True
  | .holdupSaveComplete _ _ => True
  | .holdupDone => True
  | .restoreGo => True
  | .restoreSkip => True
  | .adcFrameStart => True
  | .loopCoeffWrite _ => True
  | .analogTrip => True
  | .analogTripRelease => True
  | .calReqRef _ => True
  | .memLogClear => True
  | .secLkeyWrite _ => True
  | .secKeyWrite _ => True
  | .secCmdWrite _ => True
  | .secSequenceTimeout => True
  | .raise => True
  | .lower => True
  | .lowerAccepted => True
  | .sanitizeComplete => True
  | .nsSetkey => True
  | .nsUnlock => True
  | .nsLock => True
  | .otpKeyhash => True
  | .otpCapkey => True
  | .otpSigreq => True
  | .otpFloor => True
  | .regWrite => True
  | .hkShedStep => True
  | .hkWatchdogExpiry _ => True
  | .mailboxDoorbell _ => True
  | .mailboxSlotFree _ => True
  | .fijCtlWrite _ => True
  | .dbgTraceEnable _ => True
  | .spiSequencerDone _ => True
  | .otpProgramDone => True

/-- Well-formed means in range. -/
def Statement (i : Instr) : Prop := i.wf = true ↔ InRange i

theorem tachEdge : ∀ a0, Statement (.tachEdge a0) := fun a0 => by
  show (decide (a0 < 8)) = true ↔ a0 < 8
  simp

theorem inputStuckTimeout : ∀ a0, Statement (.inputStuckTimeout a0) := fun a0 => by
  show (decide (a0 < 13)) = true ↔ a0 < 13
  simp

theorem inputRearmElapsed : ∀ a0, Statement (.inputRearmElapsed a0) := fun a0 => by
  show (decide (a0 < 13)) = true ↔ a0 < 13
  simp

theorem inputFilterWrite : ∀ a0 a1, Statement (.inputFilterWrite a0 a1) := fun a0 a1 => by
  show (decide (a0 < 13)) = true ↔ a0 < 13
  simp

theorem registerWrite : ∀ a0 a1 a2, Statement (.registerWrite a0 a1 a2) := fun a0 a1 a2 => by
  show (decide (a0 < 2 ^ 21)) = true ↔ a0 < 2 ^ 21
  simp

theorem registerRead : ∀ a0 a1, Statement (.registerRead a0 a1) := fun a0 a1 => by
  show (decide (a0 < 2 ^ 21)) = true ↔ a0 < 2 ^ 21
  simp

theorem mpCreditReturn : ∀ a0, Statement (.mpCreditReturn a0) := fun a0 => by
  show (decide (a0 < 8)) = true ↔ a0 < 8
  simp

theorem mpPdreqRise : ∀ a0, Statement (.mpPdreqRise a0) := fun a0 => by
  show (decide (a0 < 8)) = true ↔ a0 < 8
  simp

theorem mpWithdrawComplete : ∀ a0, Statement (.mpWithdrawComplete a0) := fun a0 => by
  show (decide (a0 < 8)) = true ↔ a0 < 8
  simp

theorem mpPdreqFall : ∀ a0, Statement (.mpPdreqFall a0) := fun a0 => by
  show (decide (a0 < 8)) = true ↔ a0 < 8
  simp

theorem mpWithdrawTimeout : ∀ a0, Statement (.mpWithdrawTimeout a0) := fun a0 => by
  show (decide (a0 < 8)) = true ↔ a0 < 8
  simp

theorem mpReadResponse : ∀ a0 a1 a2 a3 a4 a5 a6, Statement (.mpReadResponse a0 a1 a2 a3 a4 a5 a6) := fun a0 a1 a2 a3 a4 a5 a6 => by
  show (decide (a0 < 4) && decide (a1 < 256) && decide (a2 < 4) && decide (a3 < 32) && decide (a4 < 4)) = true ↔ a0 < 4 ∧ a1 < 256 ∧ a2 < 4 ∧ a3 < 32 ∧ a4 < 4
  simp [and_assoc]

theorem mpWriteAck : ∀ a0 a1 a2 a3, Statement (.mpWriteAck a0 a1 a2 a3) := fun a0 a1 a2 a3 => by
  show (decide (a0 < 4) && decide (a1 < 256) && decide (a2 < 4) && decide (a3 < 4)) = true ↔ a0 < 4 ∧ a1 < 256 ∧ a2 < 4 ∧ a3 < 4
  simp [and_assoc]

theorem mpResponseTimeout : ∀ a0 a1, Statement (.mpResponseTimeout a0 a1) := fun a0 a1 => by
  show (decide (a0 < 8) && decide (a1 < 256)) = true ↔ a0 < 8 ∧ a1 < 256
  simp

theorem mpReissue : ∀ a0 a1, Statement (.mpReissue a0 a1) := fun a0 a1 => by
  show (decide (a0 < 8) && decide (a1 < 256)) = true ↔ a0 < 8 ∧ a1 < 256
  simp

theorem drqEdge : ∀ a0, Statement (.drqEdge a0) := fun a0 => by
  show (decide (a0 < 64)) = true ↔ a0 < 64
  simp

theorem ctxPause : ∀ a0, Statement (.ctxPause a0) := fun a0 => by
  show (decide (a0 < 64)) = true ↔ a0 < 64
  simp

theorem pauseComplete : ∀ a0, Statement (.pauseComplete a0) := fun a0 => by
  show (decide (a0 < 64)) = true ↔ a0 < 64
  simp

theorem ctxResume : ∀ a0, Statement (.ctxResume a0) := fun a0 => by
  show (decide (a0 < 64)) = true ↔ a0 < 64
  simp

theorem ctxDisable : ∀ a0, Statement (.ctxDisable a0) := fun a0 => by
  show (decide (a0 < 64)) = true ↔ a0 < 64
  simp

theorem ctxEnable : ∀ a0, Statement (.ctxEnable a0) := fun a0 => by
  show (decide (a0 < 64)) = true ↔ a0 < 64
  simp

theorem packerDraw : ∀ a0, Statement (.packerDraw a0) := fun a0 => by
  show (decide (a0 < 64)) = true ↔ a0 < 64
  simp

theorem sqDoorbell : ∀ a0 a1, Statement (.sqDoorbell a0 a1) := fun a0 a1 => by
  show (decide (a0 < 64)) = true ↔ a0 < 64
  simp

theorem cqDoorbell : ∀ a0 a1, Statement (.cqDoorbell a0 a1) := fun a0 a1 => by
  show (decide (a0 < 64)) = true ↔ a0 < 64
  simp

theorem cqAggTimer : ∀ a0, Statement (.cqAggTimer a0) := fun a0 => by
  show (decide (a0 < 64)) = true ↔ a0 < 64
  simp

theorem sqEnable : ∀ a0, Statement (.sqEnable a0) := fun a0 => by
  show (decide (a0 < 64)) = true ↔ a0 < 64
  simp

theorem cqEnable : ∀ a0, Statement (.cqEnable a0) := fun a0 => by
  show (decide (a0 < 64)) = true ↔ a0 < 64
  simp

theorem sqReset : ∀ a0 a1, Statement (.sqReset a0 a1) := fun a0 a1 => by
  show (decide (a0 < 64)) = true ↔ a0 < 64
  simp

theorem sqResetComplete : ∀ a0, Statement (.sqResetComplete a0) := fun a0 => by
  show (decide (a0 < 64)) = true ↔ a0 < 64
  simp

theorem cqReset : ∀ a0 a1, Statement (.cqReset a0 a1) := fun a0 a1 => by
  show (decide (a0 < 64)) = true ↔ a0 < 64
  simp

theorem link : ∀ a0 a1 a2 a3, Statement (.link a0 a1 a2 a3) := fun a0 a1 a2 a3 => by
  show (decide (a0 < 8) && decide (a1 < 4) && decide (a2 < 3) && decide (a3 < 65536)) = true ↔ a0 < 8 ∧ a1 < 4 ∧ a2 < 3 ∧ a3 < 65536
  simp [and_assoc]

theorem linkReset : ∀ a0 a1, Statement (.linkReset a0 a1) := fun a0 a1 => by
  show (decide (a0 < 8) && decide (a1 < 4)) = true ↔ a0 < 8 ∧ a1 < 4
  simp

theorem opReq : ∀ a0 a1 a2, Statement (.opReq a0 a1 a2) := fun a0 a1 a2 => by
  show (decide (a0 < 8) && decide (a1 < 65536)) = true ↔ a0 < 8 ∧ a1 < 65536
  simp

theorem opResult : ∀ a0 a1 a2, Statement (.opResult a0 a1 a2) := fun a0 a1 a2 => by
  show (decide (a0 < 8) && decide (a1 < 65536)) = true ↔ a0 < 8 ∧ a1 < 65536
  simp

theorem wdata : ∀ a0 a1 a2, Statement (.wdata a0 a1 a2) := fun a0 a1 a2 => by
  show (decide (a0 < 8) && decide (a1 < 65536)) = true ↔ a0 < 8 ∧ a1 < 65536
  simp

theorem rdata : ∀ a0 a1 a2, Statement (.rdata a0 a1 a2) := fun a0 a1 a2 => by
  show (decide (a0 < 8) && decide (a1 < 65536)) = true ↔ a0 < 8 ∧ a1 < 65536
  simp

theorem fifoState : ∀ a0 a1 a2, Statement (.fifoState a0 a1 a2) := fun a0 a1 a2 => by
  show (decide (a0 < 8) && decide (a1 < 65536)) = true ↔ a0 < 8 ∧ a1 < 65536
  simp

theorem release : ∀ a0 a1 a2, Statement (.release a0 a1 a2) := fun a0 a1 a2 => by
  show (decide (a0 < 8) && decide (a1 < 65536)) = true ↔ a0 < 8 ∧ a1 < 65536
  simp

theorem event : ∀ a0 a1 a2, Statement (.event a0 a1 a2) := fun a0 a1 a2 => by
  show (decide (a0 < 8) && decide (a1 < 65536)) = true ↔ a0 < 8 ∧ a1 < 65536
  simp

theorem ctrlReq : ∀ a0 a1 a2, Statement (.ctrlReq a0 a1 a2) := fun a0 a1 a2 => by
  show (decide (a0 < 8) && decide (a1 < 65536)) = true ↔ a0 < 8 ∧ a1 < 65536
  simp

theorem ctrlResp : ∀ a0 a1 a2, Statement (.ctrlResp a0 a1 a2) := fun a0 a1 a2 => by
  show (decide (a0 < 8) && decide (a1 < 65536)) = true ↔ a0 < 8 ∧ a1 < 65536
  simp

theorem patch : ∀ a0 a1 a2, Statement (.patch a0 a1 a2) := fun a0 a1 a2 => by
  show (decide (a0 < 8) && decide (a1 < 65536)) = true ↔ a0 < 8 ∧ a1 < 65536
  simp

theorem stats : ∀ a0 a1 a2, Statement (.stats a0 a1 a2) := fun a0 a1 a2 => by
  show (decide (a0 < 8) && decide (a1 < 65536)) = true ↔ a0 < 8 ∧ a1 < 65536
  simp

theorem credit : ∀ a0 a1 a2 a3, Statement (.credit a0 a1 a2 a3) := fun a0 a1 a2 a3 => by
  show (decide (a0 < 8) && decide (a2 < 65536)) = true ↔ a0 < 8 ∧ a2 < 65536
  simp

theorem quiesce : ∀ a0 a1 a2 a3, Statement (.quiesce a0 a1 a2 a3) := fun a0 a1 a2 a3 => by
  show (decide (a0 < 8) && decide (a2 < 65536)) = true ↔ a0 < 8 ∧ a2 < 65536
  simp

theorem holdupMessage : ∀ a0 a1 a2 a3, Statement (.holdupMessage a0 a1 a2 a3) := fun a0 a1 a2 a3 => by
  show (decide (a0 < 8) && decide (a2 < 65536)) = true ↔ a0 < 8 ∧ a2 < 65536
  simp

theorem fault : ∀ a0 a1 a2 a3, Statement (.fault a0 a1 a2 a3) := fun a0 a1 a2 a3 => by
  show (decide (a0 < 8) && decide (a2 < 65536)) = true ↔ a0 < 8 ∧ a2 < 65536
  simp

theorem gateRequest : ∀ a0, Statement (.gateRequest a0) := fun a0 => by
  show (decide (a0 < 8)) = true ↔ a0 < 8
  simp

theorem gateHandshakeComplete : ∀ a0, Statement (.gateHandshakeComplete a0) := fun a0 => by
  show (decide (a0 < 8)) = true ↔ a0 < 8
  simp

theorem gateClear : ∀ a0 a1, Statement (.gateClear a0 a1) := fun a0 a1 => by
  show (decide (a0 < 8)) = true ↔ a0 < 8
  simp

theorem gateForce : ∀ a0, Statement (.gateForce a0) := fun a0 => by
  show (decide (a0 < 8)) = true ↔ a0 < 8
  simp

theorem gateTimeout : ∀ a0, Statement (.gateTimeout a0) := fun a0 => by
  show (decide (a0 < 8)) = true ↔ a0 < 8
  simp

theorem ungateComplete : ∀ a0 a1 a2, Statement (.ungateComplete a0 a1 a2) := fun a0 a1 a2 => by
  show (decide (a0 < 8)) = true ↔ a0 < 8
  simp

theorem rbRise : ∀ a0 a1, Statement (.rbRise a0 a1) := fun a0 a1 => by
  show (decide (a0 < 64) && decide (a1 < 4)) = true ↔ a0 < 64 ∧ a1 < 4
  simp

theorem uNop : ∀ a0, Statement (.uNop a0) := fun a0 => by
  show (decide (a0 < 64)) = true ↔ a0 < 64
  simp

theorem uCmd : ∀ a0, Statement (.uCmd a0) := fun a0 => by
  show (decide (a0 < 64)) = true ↔ a0 < 64
  simp

theorem uAdr : ∀ a0, Statement (.uAdr a0) := fun a0 => by
  show (decide (a0 < 64)) = true ↔ a0 < 64
  simp

theorem uDout : ∀ a0, Statement (.uDout a0) := fun a0 => by
  show (decide (a0 < 64)) = true ↔ a0 < 64
  simp

theorem uWait : ∀ a0, Statement (.uWait a0) := fun a0 => by
  show (decide (a0 < 64)) = true ↔ a0 < 64
  simp

theorem uBr : ∀ a0, Statement (.uBr a0) := fun a0 => by
  show (decide (a0 < 64)) = true ↔ a0 < 64
  simp

theorem uBrc : ∀ a0, Statement (.uBrc a0) := fun a0 => by
  show (decide (a0 < 64)) = true ↔ a0 < 64
  simp

theorem uLdi : ∀ a0, Statement (.uLdi a0) := fun a0 => by
  show (decide (a0 < 64)) = true ↔ a0 < 64
  simp

theorem uLdp : ∀ a0, Statement (.uLdp a0) := fun a0 => by
  show (decide (a0 < 64)) = true ↔ a0 < 64
  simp

theorem uAdd : ∀ a0, Statement (.uAdd a0) := fun a0 => by
  show (decide (a0 < 64)) = true ↔ a0 < 64
  simp

theorem uAnd : ∀ a0, Statement (.uAnd a0) := fun a0 => by
  show (decide (a0 < 64)) = true ↔ a0 < 64
  simp

theorem uShl : ∀ a0, Statement (.uShl a0) := fun a0 => by
  show (decide (a0 < 64)) = true ↔ a0 < 64
  simp

theorem uSetf : ∀ a0, Statement (.uSetf a0) := fun a0 => by
  show (decide (a0 < 64)) = true ↔ a0 < 64
  simp

theorem uSel : ∀ a0, Statement (.uSel a0) := fun a0 => by
  show (decide (a0 < 64)) = true ↔ a0 < 64
  simp

theorem uEvt : ∀ a0, Statement (.uEvt a0) := fun a0 => by
  show (decide (a0 < 64)) = true ↔ a0 < 64
  simp

theorem uYield : ∀ a0, Statement (.uYield a0) := fun a0 => by
  show (decide (a0 < 64)) = true ↔ a0 < 64
  simp

theorem uCommit : ∀ a0, Statement (.uCommit a0) := fun a0 => by
  show (decide (a0 < 64)) = true ↔ a0 < 64
  simp

theorem uEnd : ∀ a0, Statement (.uEnd a0) := fun a0 => by
  show (decide (a0 < 64)) = true ↔ a0 < 64
  simp

theorem uPhy : ∀ a0 a1, Statement (.uPhy a0 a1) := fun a0 a1 => by
  show (decide (a0 < 64)) = true ↔ a0 < 64
  simp

theorem noYield : ∀ a0, Statement (.noYield a0) := fun a0 => by
  show (decide (a0 < 64)) = true ↔ a0 < 64
  simp

theorem busTransferDone : ∀ a0 a1, Statement (.busTransferDone a0 a1) := fun a0 a1 => by
  show (decide (a0 < 64)) = true ↔ a0 < 64
  simp

theorem encodeDone : ∀ a0, Statement (.encodeDone a0) := fun a0 => by
  show (decide (a0 < 64)) = true ↔ a0 < 64
  simp

theorem calIntervalExpiry : ∀ a0, Statement (.calIntervalExpiry a0) := fun a0 => by
  show (decide (a0 < 64)) = true ↔ a0 < 64
  simp

theorem calReqRecal : ∀ a0 a1, Statement (.calReqRecal a0 a1) := fun a0 a1 => by
  show (decide (a0 < 64)) = true ↔ a0 < 64
  simp

theorem calReqFull : ∀ a0 a1, Statement (.calReqFull a0 a1) := fun a0 a1 => by
  show (decide (a0 < 64)) = true ↔ a0 < 64
  simp

theorem calReqCheck : ∀ a0 a1, Statement (.calReqCheck a0 a1) := fun a0 a1 => by
  show (decide (a0 < 64)) = true ↔ a0 < 64
  simp

theorem calRunComplete : ∀ a0 a1, Statement (.calRunComplete a0 a1) := fun a0 a1 => by
  show (decide (a0 < 64)) = true ↔ a0 < 64
  simp

theorem calApplyGap : ∀ a0, Statement (.calApplyGap a0) := fun a0 => by
  show (decide (a0 < 64)) = true ↔ a0 < 64
  simp

theorem calForceExpiry : ∀ a0, Statement (.calForceExpiry a0) := fun a0 => by
  show (decide (a0 < 64)) = true ↔ a0 < 64
  simp

theorem yieldWake : ∀ a0 a1, Statement (.yieldWake a0 a1) := fun a0 a1 => by
  show (decide (a1 < 2048) && decide (a1 / 32 = a0)) = true ↔ a1 < 2048 ∧ a1 / 32 = a0
  simp

theorem abortRequest : ∀ a0 a1, Statement (.abortRequest a0 a1) := fun a0 a1 => by
  show (decide (a1 < 2048) && decide (a1 / 32 = a0)) = true ↔ a1 < 2048 ∧ a1 / 32 = a0
  simp

theorem copReadPage : ∀ a0 a1, Statement (.copReadPage a0 a1) := fun a0 a1 => by
  show (decide (a1 < 2048) && decide (a1 / 32 = a0)) = true ↔ a1 < 2048 ∧ a1 / 32 = a0
  simp

theorem copReadMulti : ∀ a0 a1, Statement (.copReadMulti a0 a1) := fun a0 a1 => by
  show (decide (a1 < 2048) && decide (a1 / 32 = a0)) = true ↔ a1 < 2048 ∧ a1 / 32 = a0
  simp

theorem copCacheRead : ∀ a0 a1, Statement (.copCacheRead a0 a1) := fun a0 a1 => by
  show (decide (a1 < 2048) && decide (a1 / 32 = a0)) = true ↔ a1 < 2048 ∧ a1 / 32 = a0
  simp

theorem copSoftRead : ∀ a0 a1, Statement (.copSoftRead a0 a1) := fun a0 a1 => by
  show (decide (a1 < 2048) && decide (a1 / 32 = a0)) = true ↔ a1 < 2048 ∧ a1 / 32 = a0
  simp

theorem copProgram : ∀ a0 a1, Statement (.copProgram a0 a1) := fun a0 a1 => by
  show (decide (a1 < 2048) && decide (a1 / 32 = a0)) = true ↔ a1 < 2048 ∧ a1 / 32 = a0
  simp

theorem copProgramSlc : ∀ a0 a1, Statement (.copProgramSlc a0 a1) := fun a0 a1 => by
  show (decide (a1 < 2048) && decide (a1 / 32 = a0)) = true ↔ a1 < 2048 ∧ a1 / 32 = a0
  simp

theorem copProgramStep : ∀ a0 a1, Statement (.copProgramStep a0 a1) := fun a0 a1 => by
  show (decide (a1 < 2048) && decide (a1 / 32 = a0)) = true ↔ a1 < 2048 ∧ a1 / 32 = a0
  simp

theorem copErase : ∀ a0 a1, Statement (.copErase a0 a1) := fun a0 a1 => by
  show (decide (a1 < 2048) && decide (a1 / 32 = a0)) = true ↔ a1 < 2048 ∧ a1 / 32 = a0
  simp

theorem copSuspend : ∀ a0 a1, Statement (.copSuspend a0 a1) := fun a0 a1 => by
  show (decide (a1 < 2048) && decide (a1 / 32 = a0)) = true ↔ a1 < 2048 ∧ a1 / 32 = a0
  simp

theorem copResume : ∀ a0 a1, Statement (.copResume a0 a1) := fun a0 a1 => by
  show (decide (a1 < 2048) && decide (a1 / 32 = a0)) = true ↔ a1 < 2048 ∧ a1 / 32 = a0
  simp

theorem copReadStatus : ∀ a0 a1, Statement (.copReadStatus a0 a1) := fun a0 a1 => by
  show (decide (a1 < 2048) && decide (a1 / 32 = a0)) = true ↔ a1 < 2048 ∧ a1 / 32 = a0
  simp

theorem copGetFeat : ∀ a0 a1, Statement (.copGetFeat a0 a1) := fun a0 a1 => by
  show (decide (a1 < 2048) && decide (a1 / 32 = a0)) = true ↔ a1 < 2048 ∧ a1 / 32 = a0
  simp

theorem copSetFeat : ∀ a0 a1, Statement (.copSetFeat a0 a1) := fun a0 a1 => by
  show (decide (a1 < 2048) && decide (a1 / 32 = a0)) = true ↔ a1 < 2048 ∧ a1 / 32 = a0
  simp

theorem copResetLun : ∀ a0 a1, Statement (.copResetLun a0 a1) := fun a0 a1 => by
  show (decide (a1 < 2048) && decide (a1 / 32 = a0)) = true ↔ a1 < 2048 ∧ a1 / 32 = a0
  simp

theorem copReadId : ∀ a0 a1, Statement (.copReadId a0 a1) := fun a0 a1 => by
  show (decide (a1 < 2048) && decide (a1 / 32 = a0)) = true ↔ a1 < 2048 ∧ a1 / 32 = a0
  simp

theorem copReadParam : ∀ a0 a1, Statement (.copReadParam a0 a1) := fun a0 a1 => by
  show (decide (a1 < 2048) && decide (a1 / 32 = a0)) = true ↔ a1 < 2048 ∧ a1 / 32 = a0
  simp

theorem copZqCal : ∀ a0 a1, Statement (.copZqCal a0 a1) := fun a0 a1 => by
  show (decide (a1 < 2048) && decide (a1 / 32 = a0)) = true ↔ a1 < 2048 ∧ a1 / 32 = a0
  simp

theorem copTrain : ∀ a0 a1, Statement (.copTrain a0 a1) := fun a0 a1 => by
  show (decide (a1 < 2048) && decide (a1 / 32 = a0)) = true ↔ a1 < 2048 ∧ a1 / 32 = a0
  simp

theorem uDin : ∀ a0 a1, Statement (.uDin a0 a1) := fun a0 a1 => by
  show (decide (a1 < 2048) && decide (a1 / 32 = a0)) = true ↔ a1 < 2048 ∧ a1 / 32 = a0
  simp

theorem uPoll : ∀ a0 a1, Statement (.uPoll a0 a1) := fun a0 a1 => by
  show (decide (a1 < 2048) && decide (a1 / 32 = a0)) = true ↔ a1 < 2048 ∧ a1 / 32 = a0
  simp

theorem copRecover : ∀ a0 a1, Statement (.copRecover a0 a1) := fun a0 a1 => by
  show (decide (a1 < 2048) && decide (a1 / 32 = a0)) = true ↔ a1 < 2048 ∧ a1 / 32 = a0
  simp

theorem archBandPoll : ∀ a0 a1, Statement (.archBandPoll a0 a1) := fun a0 a1 => by
  show (decide (a0 < 2048)) = true ↔ a0 < 2048
  simp

theorem dieTempPoll : ∀ a0 a1, Statement (.dieTempPoll a0 a1) := fun a0 a1 => by
  show (decide (a0 < 2048)) = true ↔ a0 < 2048
  simp

theorem thresholdSweep : ∀ a0 a1 a2, Statement (.thresholdSweep a0 a1 a2) := fun a0 a1 a2 => by
  show (decide (a0 < 2048)) = true ↔ a0 < 2048
  simp

theorem relocationStart : ∀ a0, Statement (.relocationStart a0) := fun a0 => by
  show (decide (a0 < 256)) = true ↔ a0 < 256
  simp

theorem relocationPhaseEnd : ∀ a0, Statement (.relocationPhaseEnd a0) := fun a0 => by
  show (decide (a0 < 256)) = true ↔ a0 < 256
  simp

theorem gcStart : ∀ a0, Statement (.gcStart a0) := fun a0 => by
  show (decide (a0 < 16)) = true ↔ a0 < 16
  simp

theorem mapCheckpoint : ∀ a0, Statement (.mapCheckpoint a0) := fun a0 => by
  show (decide (a0 < 16)) = true ↔ a0 < 16
  simp

theorem dmaBurstIssue : ∀ a0, Statement (.dmaBurstIssue a0) := fun a0 => by
  show (decide (a0 < 8)) = true ↔ a0 < 8
  simp

theorem loopSample : ∀ a0 a1 a2, Statement (.loopSample a0 a1 a2) := fun a0 a1 a2 => by
  show (decide (a0 < 16)) = true ↔ a0 < 16
  simp

theorem loopOpen : ∀ a0, Statement (.loopOpen a0) := fun a0 => by
  show (decide (a0 < 16)) = true ↔ a0 < 16
  simp

theorem loopClose : ∀ a0, Statement (.loopClose a0) := fun a0 => by
  show (decide (a0 < 16)) = true ↔ a0 < 16
  simp

theorem loopTune : ∀ a0, Statement (.loopTune a0) := fun a0 => by
  show (decide (a0 < 16)) = true ↔ a0 < 16
  simp

theorem loopTraceCfgWrite : ∀ a0 a1, Statement (.loopTraceCfgWrite a0 a1) := fun a0 a1 => by
  show (decide (a0 < 16)) = true ↔ a0 < 16
  simp

theorem echo : ∀ a0, Statement (.echo a0) := fun a0 => by
  show (decide (a0 < 16)) = true ↔ a0 < 16
  simp

theorem hkInfo : ∀ a0, Statement (.hkInfo a0) := fun a0 => by
  show (decide (a0 < 16)) = true ↔ a0 < 16
  simp

theorem cfgUpdateBegin : ∀ a0, Statement (.cfgUpdateBegin a0) := fun a0 => by
  show (decide (a0 < 16)) = true ↔ a0 < 16
  simp

theorem cfgUpdateData : ∀ a0, Statement (.cfgUpdateData a0) := fun a0 => by
  show (decide (a0 < 16)) = true ↔ a0 < 16
  simp

theorem cfgUpdateAbort : ∀ a0, Statement (.cfgUpdateAbort a0) := fun a0 => by
  show (decide (a0 < 16)) = true ↔ a0 < 16
  simp

theorem cfgReadSection : ∀ a0, Statement (.cfgReadSection a0) := fun a0 => by
  show (decide (a0 < 16)) = true ↔ a0 < 16
  simp

theorem statErase : ∀ a0, Statement (.statErase a0) := fun a0 => by
  show (decide (a0 < 16)) = true ↔ a0 < 16
  simp

theorem statWear : ∀ a0, Statement (.statWear a0) := fun a0 => by
  show (decide (a0 < 16)) = true ↔ a0 < 16
  simp

theorem statThreshold : ∀ a0, Statement (.statThreshold a0) := fun a0 => by
  show (decide (a0 < 16)) = true ↔ a0 < 16
  simp

theorem statDieTemps : ∀ a0, Statement (.statDieTemps a0) := fun a0 => by
  show (decide (a0 < 16)) = true ↔ a0 < 16
  simp

theorem statZone : ∀ a0, Statement (.statZone a0) := fun a0 => by
  show (decide (a0 < 16)) = true ↔ a0 < 16
  simp

theorem statLife : ∀ a0, Statement (.statLife a0) := fun a0 => by
  show (decide (a0 < 16)) = true ↔ a0 < 16
  simp

theorem bbList : ∀ a0, Statement (.bbList a0) := fun a0 => by
  show (decide (a0 < 16)) = true ↔ a0 < 16
  simp

theorem bbRetire : ∀ a0, Statement (.bbRetire a0) := fun a0 => by
  show (decide (a0 < 16)) = true ↔ a0 < 16
  simp

theorem refreshReq : ∀ a0, Statement (.refreshReq a0) := fun a0 => by
  show (decide (a0 < 16)) = true ↔ a0 < 16
  simp

theorem cfgUpdateCommit : ∀ a0, Statement (.cfgUpdateCommit a0) := fun a0 => by
  show (decide (a0.slot < 16)) = true ↔ a0.slot < 16
  simp

theorem adcConversionEnd : ∀ a0 a1 a2, Statement (.adcConversionEnd a0 a1 a2) := fun a0 a1 a2 => by
  show (decide (a0 < 2) && decide (a1 < 20) && decide (a2 < 16384)) = true ↔ a0 < 2 ∧ a1 < 20 ∧ a2 < 16384
  simp [and_assoc]

theorem adcOpenTest : ∀ a0 a1, Statement (.adcOpenTest a0 a1) := fun a0 a1 => by
  show (decide (a0 < 40) && decide (a1 < 16384)) = true ↔ a0 < 40 ∧ a1 < 16384
  simp

theorem fanFail : ∀ a0, Statement (.fanFail a0) := fun a0 => by
  show (decide (a0 < 12)) = true ↔ a0 < 12
  simp

theorem scrubRead : ∀ a0 a1 a2 a3, Statement (.scrubRead a0 a1 a2 a3) := fun a0 a1 a2 a3 => by
  show (decide (a0 < 12) && decide (a1 < 64)) = true ↔ a0 < 12 ∧ a1 < 64
  simp

theorem secOperandWrite : ∀ a0 a1, Statement (.secOperandWrite a0 a1) := fun a0 a1 => by
  show (decide (a0 < 3)) = true ↔ a0 < 3
  simp

theorem hkLoadUpdate : ∀ a0, Statement (.hkLoadUpdate a0) := fun a0 => by
  show (decide (a0 ≤ 100)) = true ↔ a0 ≤ 100
  simp

theorem cfgLoadComplete : ∀ a0, Statement (.cfgLoadComplete a0) := fun a0 => by
  show (decide ((∀ x ∈ a0, 1048576 ≤ x.density)) && decide ((∀ x ∈ a0, x.density ≤ 67108864))) = true ↔ (∀ x ∈ a0, 1048576 ≤ x.density) ∧ (∀ x ∈ a0, x.density ≤ 67108864)
  simp

theorem poRstAssert : Statement .poRstAssert := by
  show (true) = true ↔ True
  simp

theorem poRstRelease : ∀ a0 a1 a2, Statement (.poRstRelease a0 a1 a2) := fun a0 a1 a2 => by
  show (true) = true ↔ True
  simp

theorem sysRstAssert : Statement .sysRstAssert := by
  show (true) = true ↔ True
  simp

theorem sysRstRelease : ∀ a0, Statement (.sysRstRelease a0) := fun a0 => by
  show (true) = true ↔ True
  simp

theorem sysRstDeferredEffect : Statement .sysRstDeferredEffect := by
  show (true) = true ↔ True
  simp

theorem pfailLatch : Statement .pfailLatch := by
  show (true) = true ↔ True
  simp

theorem pfSnsTrip : Statement .pfSnsTrip := by
  show (true) = true ↔ True
  simp

theorem burstWarnAssert : Statement .burstWarnAssert := by
  show (true) = true ↔ True
  simp

theorem burstWarnDeassert : Statement .burstWarnDeassert := by
  show (true) = true ↔ True
  simp

theorem epochSyncEdge : Statement .epochSyncEdge := by
  show (true) = true ↔ True
  simp

theorem stageFaultAssert : Statement .stageFaultAssert := by
  show (true) = true ↔ True
  simp

theorem stageFaultDeassert : Statement .stageFaultDeassert := by
  show (true) = true ↔ True
  simp

theorem mpPurposeFailEnd : ∀ a0, Statement (.mpPurposeFailEnd a0) := fun a0 => by
  show (true) = true ↔ True
  simp

theorem splStatusWord : ∀ a0, Statement (.splStatusWord a0) := fun a0 => by
  show (true) = true ↔ True
  simp

theorem splStatusTimeout : Statement .splStatusTimeout := by
  show (true) = true ↔ True
  simp

theorem brakeRefresh : Statement .brakeRefresh := by
  show (true) = true ↔ True
  simp

theorem modeReqNone : ∀ a0, Statement (.modeReqNone a0) := fun a0 => by
  show (true) = true ↔ True
  simp

theorem modeReqDormant : ∀ a0, Statement (.modeReqDormant a0) := fun a0 => by
  show (true) = true ↔ True
  simp

theorem modeReqStandby : ∀ a0, Statement (.modeReqStandby a0) := fun a0 => by
  show (true) = true ↔ True
  simp

theorem modeReqWarm : ∀ a0, Statement (.modeReqWarm a0) := fun a0 => by
  show (true) = true ↔ True
  simp

theorem modeReqServe : ∀ a0, Statement (.modeReqServe a0) := fun a0 => by
  show (true) = true ↔ True
  simp

theorem modeReqIngest : ∀ a0, Statement (.modeReqIngest a0) := fun a0 => by
  show (true) = true ↔ True
  simp

theorem modeReqDrain : ∀ a0, Statement (.modeReqDrain a0) := fun a0 => by
  show (true) = true ↔ True
  simp

theorem modeReqMaintain : ∀ a0, Statement (.modeReqMaintain a0) := fun a0 => by
  show (true) = true ↔ True
  simp

theorem modeReqSafe : ∀ a0, Statement (.modeReqSafe a0) := fun a0 => by
  show (true) = true ↔ True
  simp

theorem modeReqFactory : ∀ a0, Statement (.modeReqFactory a0) := fun a0 => by
  show (true) = true ↔ True
  simp

theorem warmIdleExpiry : Statement .warmIdleExpiry := by
  show (true) = true ↔ True
  simp

theorem stbyIdleExpiry : Statement .stbyIdleExpiry := by
  show (true) = true ↔ True
  simp

theorem runDrainComplete : Statement .runDrainComplete := by
  show (true) = true ↔ True
  simp

theorem descentComplete : Statement .descentComplete := by
  show (true) = true ↔ True
  simp

theorem wakeComplete : ∀ a0 a1 a2, Statement (.wakeComplete a0 a1 a2) := fun a0 a1 a2 => by
  show (true) = true ↔ True
  simp

theorem mediaRestoreComplete : Statement .mediaRestoreComplete := by
  show (true) = true ↔ True
  simp

theorem cfgWipPollTimeout : Statement .cfgWipPollTimeout := by
  show (true) = true ↔ True
  simp

theorem patchGo : ∀ a0, Statement (.patchGo a0) := fun a0 => by
  show (true) = true ↔ True
  simp

theorem capsuleCheckComplete : Statement .capsuleCheckComplete := by
  show (true) = true ↔ True
  simp

theorem patchDone : Statement .patchDone := by
  show (true) = true ↔ True
  simp

theorem patchWaitExpiry : Statement .patchWaitExpiry := by
  show (true) = true ↔ True
  simp

theorem hkResetCountClear : Statement .hkResetCountClear := by
  show (true) = true ↔ True
  simp

theorem hardDecodeDone : ∀ a0 a1, Statement (.hardDecodeDone a0 a1) := fun a0 a1 => by
  show (true) = true ↔ True
  simp

theorem softDecodeDone : ∀ a0 a1, Statement (.softDecodeDone a0 a1) := fun a0 a1 => by
  show (true) = true ↔ True
  simp

theorem softPassIssue : Statement .softPassIssue := by
  show (true) = true ↔ True
  simp

theorem recoveryEntryFree : Statement .recoveryEntryFree := by
  show (true) = true ↔ True
  simp

theorem archWaitExpiry : ∀ a0, Statement (.archWaitExpiry a0) := fun a0 => by
  show (true) = true ↔ True
  simp

theorem archStallExpiry : ∀ a0, Statement (.archStallExpiry a0) := fun a0 => by
  show (true) = true ↔ True
  simp

theorem errorEntryResolve : ∀ a0, Statement (.errorEntryResolve a0) := fun a0 => by
  show (true) = true ↔ True
  simp

theorem eqAck : ∀ a0, Statement (.eqAck a0) := fun a0 => by
  show (true) = true ↔ True
  simp

theorem jrnlIntExpiry : Statement .jrnlIntExpiry := by
  show (true) = true ↔ True
  simp

theorem refreshScan : Statement .refreshScan := by
  show (true) = true ↔ True
  simp

theorem zoneCheckpointTimer : Statement .zoneCheckpointTimer := by
  show (true) = true ↔ True
  simp

theorem ageClockMinute : Statement .ageClockMinute := by
  show (true) = true ↔ True
  simp

theorem offtimeWrite : ∀ a0, Statement (.offtimeWrite a0) := fun a0 => by
  show (true) = true ↔ True
  simp

theorem thresholdSave : Statement .thresholdSave := by
  show (true) = true ↔ True
  simp

theorem mcInvalidateLine : Statement .mcInvalidateLine := by
  show (true) = true ↔ True
  simp

theorem mcInvalidateAll : Statement .mcInvalidateAll := by
  show (true) = true ↔ True
  simp

theorem mcWriteBackAll : Statement .mcWriteBackAll := by
  show (true) = true ↔ True
  simp

theorem mcEnableClear : Statement .mcEnableClear := by
  show (true) = true ↔ True
  simp

theorem mcEnableSet : Statement .mcEnableSet := by
  show (true) = true ↔ True
  simp

theorem sqFetch : Statement .sqFetch := by
  show (true) = true ↔ True
  simp

theorem read : ∀ a0, Statement (.read a0) := fun a0 => by
  show (true) = true ↔ True
  simp

theorem write : ∀ a0, Statement (.write a0) := fun a0 => by
  show (true) = true ↔ True
  simp

theorem append : ∀ a0, Statement (.append a0) := fun a0 => by
  show (true) = true ↔ True
  simp

theorem flush : ∀ a0, Statement (.flush a0) := fun a0 => by
  show (true) = true ↔ True
  simp

theorem trim : ∀ a0, Statement (.trim a0) := fun a0 => by
  show (true) = true ↔ True
  simp

theorem verify : ∀ a0, Statement (.verify a0) := fun a0 => by
  show (true) = true ↔ True
  simp

theorem zoneOpen : ∀ a0, Statement (.zoneOpen a0) := fun a0 => by
  show (true) = true ↔ True
  simp

theorem zoneFinish : ∀ a0, Statement (.zoneFinish a0) := fun a0 => by
  show (true) = true ↔ True
  simp

theorem zoneReset : ∀ a0, Statement (.zoneReset a0) := fun a0 => by
  show (true) = true ↔ True
  simp

theorem zoneReport : ∀ a0, Statement (.zoneReport a0) := fun a0 => by
  show (true) = true ↔ True
  simp

theorem epochMark : ∀ a0, Statement (.epochMark a0) := fun a0 => by
  show (true) = true ↔ True
  simp

theorem epochCommit : ∀ a0, Statement (.epochCommit a0) := fun a0 => by
  show (true) = true ↔ True
  simp

theorem custodyRegister : ∀ a0, Statement (.custodyRegister a0) := fun a0 => by
  show (true) = true ↔ True
  simp

theorem custodyRelease : ∀ a0, Statement (.custodyRelease a0) := fun a0 => by
  show (true) = true ↔ True
  simp

theorem completionRelease : ∀ a0, Statement (.completionRelease a0) := fun a0 => by
  show (true) = true ↔ True
  simp

theorem cqPendClear : ∀ a0 a1, Statement (.cqPendClear a0 a1) := fun a0 a1 => by
  show (true) = true ↔ True
  simp

theorem quiesceRequest : Statement .quiesceRequest := by
  show (true) = true ↔ True
  simp

theorem quiesceComplete : Statement .quiesceComplete := by
  show (true) = true ↔ True
  simp

theorem quiesceClear : Statement .quiesceClear := by
  show (true) = true ↔ True
  simp

theorem epochSetWrite : ∀ a0, Statement (.epochSetWrite a0) := fun a0 => by
  show (true) = true ↔ True
  simp

theorem dmaKick : ∀ a0, Statement (.dmaKick a0) := fun a0 => by
  show (true) = true ↔ True
  simp

theorem energyEstimate : Statement .energyEstimate := by
  show (true) = true ↔ True
  simp

theorem kettleHealthCheck : Statement .kettleHealthCheck := by
  show (true) = true ↔ True
  simp

theorem healthGo : Statement .healthGo := by
  show (true) = true ↔ True
  simp

theorem healthPhaseEnd : ∀ a0 a1 a2, Statement (.healthPhaseEnd a0 a1 a2) := fun a0 a1 a2 => by
  show (true) = true ↔ True
  simp

theorem holdupEnergyCheck : ∀ a0 a1, Statement (.holdupEnergyCheck a0 a1) := fun a0 a1 => by
  show (true) = true ↔ True
  simp

theorem holdupSaveComplete : ∀ a0 a1, Statement (.holdupSaveComplete a0 a1) := fun a0 a1 => by
  show (true) = true ↔ True
  simp

theorem holdupDone : Statement .holdupDone := by
  show (true) = true ↔ True
  simp

theorem restoreGo : Statement .restoreGo := by
  show (true) = true ↔ True
  simp

theorem restoreSkip : Statement .restoreSkip := by
  show (true) = true ↔ True
  simp

theorem adcFrameStart : Statement .adcFrameStart := by
  show (true) = true ↔ True
  simp

theorem loopCoeffWrite : ∀ a0, Statement (.loopCoeffWrite a0) := fun a0 => by
  show (true) = true ↔ True
  simp

theorem analogTrip : Statement .analogTrip := by
  show (true) = true ↔ True
  simp

theorem analogTripRelease : Statement .analogTripRelease := by
  show (true) = true ↔ True
  simp

theorem calReqRef : ∀ a0, Statement (.calReqRef a0) := fun a0 => by
  show (true) = true ↔ True
  simp

theorem memLogClear : Statement .memLogClear := by
  show (true) = true ↔ True
  simp

theorem secLkeyWrite : ∀ a0, Statement (.secLkeyWrite a0) := fun a0 => by
  show (true) = true ↔ True
  simp

theorem secKeyWrite : ∀ a0, Statement (.secKeyWrite a0) := fun a0 => by
  show (true) = true ↔ True
  simp

theorem secCmdWrite : ∀ a0, Statement (.secCmdWrite a0) := fun a0 => by
  show (true) = true ↔ True
  simp

theorem secSequenceTimeout : Statement .secSequenceTimeout := by
  show (true) = true ↔ True
  simp

theorem raise : Statement .raise := by
  show (true) = true ↔ True
  simp

theorem lower : Statement .lower := by
  show (true) = true ↔ True
  simp

theorem lowerAccepted : Statement .lowerAccepted := by
  show (true) = true ↔ True
  simp

theorem sanitizeComplete : Statement .sanitizeComplete := by
  show (true) = true ↔ True
  simp

theorem nsSetkey : Statement .nsSetkey := by
  show (true) = true ↔ True
  simp

theorem nsUnlock : Statement .nsUnlock := by
  show (true) = true ↔ True
  simp

theorem nsLock : Statement .nsLock := by
  show (true) = true ↔ True
  simp

theorem otpKeyhash : Statement .otpKeyhash := by
  show (true) = true ↔ True
  simp

theorem otpCapkey : Statement .otpCapkey := by
  show (true) = true ↔ True
  simp

theorem otpSigreq : Statement .otpSigreq := by
  show (true) = true ↔ True
  simp

theorem otpFloor : Statement .otpFloor := by
  show (true) = true ↔ True
  simp

theorem regWrite : Statement .regWrite := by
  show (true) = true ↔ True
  simp

theorem hkShedStep : Statement .hkShedStep := by
  show (true) = true ↔ True
  simp

theorem hkWatchdogExpiry : ∀ a0, Statement (.hkWatchdogExpiry a0) := fun a0 => by
  show (true) = true ↔ True
  simp

theorem mailboxDoorbell : ∀ a0, Statement (.mailboxDoorbell a0) := fun a0 => by
  show (true) = true ↔ True
  simp

theorem mailboxSlotFree : ∀ a0, Statement (.mailboxSlotFree a0) := fun a0 => by
  show (true) = true ↔ True
  simp

theorem fijCtlWrite : ∀ a0, Statement (.fijCtlWrite a0) := fun a0 => by
  show (true) = true ↔ True
  simp

theorem dbgTraceEnable : ∀ a0, Statement (.dbgTraceEnable a0) := fun a0 => by
  show (true) = true ↔ True
  simp

theorem spiSequencerDone : ∀ a0, Statement (.spiSequencerDone a0) := fun a0 => by
  show (true) = true ↔ True
  simp

theorem otpProgramDone : Statement .otpProgramDone := by
  show (true) = true ↔ True
  simp

end Sys2Proof.Laws.Operands
end

