-- ==== Sys2Proof/Laws/State.lean ====
section
/-! SUPPORT. Laws/State.lean: for each update of a part of the state, what that part is afterwards and that every other part is as it
was. Each frame is one lemma, a conjunction with one equation per field, that simp takes as as many rules. -/

namespace Sys2Proof.Machine

open Sys2Proof

@[simp] theorem modMode_mode (d : Dev) (f : ModeSt → ModeSt) : (modMode d f).mode = f d.mode := rfl

@[simp] theorem modMode_frame (d : Dev) (f : ModeSt → ModeSt) :
    (modMode d f).build = d.build ∧ (modMode d f).now = d.now ∧ (modMode d f).fresh = d.fresh ∧ (modMode d f).pins = d.pins ∧ (modMode d f).inputs = d.inputs ∧ (modMode d f).ret = d.ret ∧
    (modMode d f).rf = d.rf ∧ (modMode d f).rp = d.rp ∧ (modMode d f).mp = d.mp ∧ (modMode d f).spl = d.spl ∧ (modMode d f).links = d.links ∧ (modMode d f).statsHeld = d.statsHeld ∧ (modMode d f).mirrorSent = d.mirrorSent ∧ (modMode d f).groups = d.groups ∧
    (modMode d f).cfg = d.cfg ∧ (modMode d f).chans = d.chans ∧ (modMode d f).scheds = d.scheds ∧ (modMode d f).codec = d.codec ∧ (modMode d f).rrc = d.rrc ∧ (modMode d f).pgm = d.pgm ∧
    (modMode d f).xlt = d.xlt ∧ (modMode d f).cq = d.cq ∧ (modMode d f).ord = d.ord ∧ (modMode d f).dma = d.dma ∧ (modMode d f).hup = d.hup ∧ (modMode d f).loops = d.loops ∧
    (modMode d f).adc = d.adc ∧ (modMode d f).thm = d.thm ∧ (modMode d f).cal = d.cal ∧ (modMode d f).mem = d.mem ∧ (modMode d f).sec = d.sec ∧ (modMode d f).otp = d.otp ∧
    (modMode d f).hk = d.hk ∧ (modMode d f).fij = d.fij ∧ (modMode d f).ageMin = d.ageMin :=
  ⟨rfl, rfl, rfl, rfl, rfl, rfl, rfl, rfl, rfl, rfl, rfl, rfl, rfl, rfl, rfl, rfl, rfl, rfl, rfl, rfl, rfl, rfl, rfl, rfl, rfl, rfl, rfl, rfl, rfl, rfl, rfl, rfl, rfl, rfl, rfl⟩

@[simp] theorem modPins_pins (d : Dev) (f : Pins → Pins) : (modPins d f).pins = f d.pins := rfl

@[simp] theorem modPins_frame (d : Dev) (f : Pins → Pins) :
    (modPins d f).build = d.build ∧ (modPins d f).now = d.now ∧ (modPins d f).fresh = d.fresh ∧ (modPins d f).mode = d.mode ∧ (modPins d f).inputs = d.inputs ∧ (modPins d f).ret = d.ret ∧
    (modPins d f).rf = d.rf ∧ (modPins d f).rp = d.rp ∧ (modPins d f).mp = d.mp ∧ (modPins d f).spl = d.spl ∧ (modPins d f).links = d.links ∧ (modPins d f).statsHeld = d.statsHeld ∧ (modPins d f).mirrorSent = d.mirrorSent ∧ (modPins d f).groups = d.groups ∧
    (modPins d f).cfg = d.cfg ∧ (modPins d f).chans = d.chans ∧ (modPins d f).scheds = d.scheds ∧ (modPins d f).codec = d.codec ∧ (modPins d f).rrc = d.rrc ∧ (modPins d f).pgm = d.pgm ∧
    (modPins d f).xlt = d.xlt ∧ (modPins d f).cq = d.cq ∧ (modPins d f).ord = d.ord ∧ (modPins d f).dma = d.dma ∧ (modPins d f).hup = d.hup ∧ (modPins d f).loops = d.loops ∧
    (modPins d f).adc = d.adc ∧ (modPins d f).thm = d.thm ∧ (modPins d f).cal = d.cal ∧ (modPins d f).mem = d.mem ∧ (modPins d f).sec = d.sec ∧ (modPins d f).otp = d.otp ∧
    (modPins d f).hk = d.hk ∧ (modPins d f).fij = d.fij ∧ (modPins d f).ageMin = d.ageMin :=
  ⟨rfl, rfl, rfl, rfl, rfl, rfl, rfl, rfl, rfl, rfl, rfl, rfl, rfl, rfl, rfl, rfl, rfl, rfl, rfl, rfl, rfl, rfl, rfl, rfl, rfl, rfl, rfl, rfl, rfl, rfl, rfl, rfl, rfl, rfl, rfl⟩

@[simp] theorem modRet_ret (d : Dev) (f : Retained → Retained) : (modRet d f).ret = f d.ret := rfl

@[simp] theorem modRet_frame (d : Dev) (f : Retained → Retained) :
    (modRet d f).build = d.build ∧ (modRet d f).now = d.now ∧ (modRet d f).fresh = d.fresh ∧ (modRet d f).mode = d.mode ∧ (modRet d f).pins = d.pins ∧ (modRet d f).inputs = d.inputs ∧
    (modRet d f).rf = d.rf ∧ (modRet d f).rp = d.rp ∧ (modRet d f).mp = d.mp ∧ (modRet d f).spl = d.spl ∧ (modRet d f).links = d.links ∧ (modRet d f).statsHeld = d.statsHeld ∧ (modRet d f).mirrorSent = d.mirrorSent ∧ (modRet d f).groups = d.groups ∧
    (modRet d f).cfg = d.cfg ∧ (modRet d f).chans = d.chans ∧ (modRet d f).scheds = d.scheds ∧ (modRet d f).codec = d.codec ∧ (modRet d f).rrc = d.rrc ∧ (modRet d f).pgm = d.pgm ∧
    (modRet d f).xlt = d.xlt ∧ (modRet d f).cq = d.cq ∧ (modRet d f).ord = d.ord ∧ (modRet d f).dma = d.dma ∧ (modRet d f).hup = d.hup ∧ (modRet d f).loops = d.loops ∧
    (modRet d f).adc = d.adc ∧ (modRet d f).thm = d.thm ∧ (modRet d f).cal = d.cal ∧ (modRet d f).mem = d.mem ∧ (modRet d f).sec = d.sec ∧ (modRet d f).otp = d.otp ∧
    (modRet d f).hk = d.hk ∧ (modRet d f).fij = d.fij ∧ (modRet d f).ageMin = d.ageMin :=
  ⟨rfl, rfl, rfl, rfl, rfl, rfl, rfl, rfl, rfl, rfl, rfl, rfl, rfl, rfl, rfl, rfl, rfl, rfl, rfl, rfl, rfl, rfl, rfl, rfl, rfl, rfl, rfl, rfl, rfl, rfl, rfl, rfl, rfl, rfl, rfl⟩

@[simp] theorem modMp_mp (d : Dev) (f : Mp → Mp) : (modMp d f).mp = f d.mp := rfl

@[simp] theorem modMp_frame (d : Dev) (f : Mp → Mp) :
    (modMp d f).build = d.build ∧ (modMp d f).now = d.now ∧ (modMp d f).fresh = d.fresh ∧ (modMp d f).mode = d.mode ∧ (modMp d f).pins = d.pins ∧ (modMp d f).inputs = d.inputs ∧
    (modMp d f).ret = d.ret ∧ (modMp d f).rf = d.rf ∧ (modMp d f).rp = d.rp ∧ (modMp d f).spl = d.spl ∧ (modMp d f).links = d.links ∧ (modMp d f).statsHeld = d.statsHeld ∧ (modMp d f).mirrorSent = d.mirrorSent ∧ (modMp d f).groups = d.groups ∧
    (modMp d f).cfg = d.cfg ∧ (modMp d f).chans = d.chans ∧ (modMp d f).scheds = d.scheds ∧ (modMp d f).codec = d.codec ∧ (modMp d f).rrc = d.rrc ∧ (modMp d f).pgm = d.pgm ∧
    (modMp d f).xlt = d.xlt ∧ (modMp d f).cq = d.cq ∧ (modMp d f).ord = d.ord ∧ (modMp d f).dma = d.dma ∧ (modMp d f).hup = d.hup ∧ (modMp d f).loops = d.loops ∧
    (modMp d f).adc = d.adc ∧ (modMp d f).thm = d.thm ∧ (modMp d f).cal = d.cal ∧ (modMp d f).mem = d.mem ∧ (modMp d f).sec = d.sec ∧ (modMp d f).otp = d.otp ∧
    (modMp d f).hk = d.hk ∧ (modMp d f).fij = d.fij ∧ (modMp d f).ageMin = d.ageMin :=
  ⟨rfl, rfl, rfl, rfl, rfl, rfl, rfl, rfl, rfl, rfl, rfl, rfl, rfl, rfl, rfl, rfl, rfl, rfl, rfl, rfl, rfl, rfl, rfl, rfl, rfl, rfl, rfl, rfl, rfl, rfl, rfl, rfl, rfl, rfl, rfl⟩

@[simp] theorem modSpl_spl (d : Dev) (f : Spl → Spl) : (modSpl d f).spl = f d.spl := rfl

@[simp] theorem modSpl_frame (d : Dev) (f : Spl → Spl) :
    (modSpl d f).build = d.build ∧ (modSpl d f).now = d.now ∧ (modSpl d f).fresh = d.fresh ∧ (modSpl d f).mode = d.mode ∧ (modSpl d f).pins = d.pins ∧ (modSpl d f).inputs = d.inputs ∧
    (modSpl d f).ret = d.ret ∧ (modSpl d f).rf = d.rf ∧ (modSpl d f).rp = d.rp ∧ (modSpl d f).mp = d.mp ∧ (modSpl d f).links = d.links ∧ (modSpl d f).statsHeld = d.statsHeld ∧ (modSpl d f).mirrorSent = d.mirrorSent ∧ (modSpl d f).groups = d.groups ∧
    (modSpl d f).cfg = d.cfg ∧ (modSpl d f).chans = d.chans ∧ (modSpl d f).scheds = d.scheds ∧ (modSpl d f).codec = d.codec ∧ (modSpl d f).rrc = d.rrc ∧ (modSpl d f).pgm = d.pgm ∧
    (modSpl d f).xlt = d.xlt ∧ (modSpl d f).cq = d.cq ∧ (modSpl d f).ord = d.ord ∧ (modSpl d f).dma = d.dma ∧ (modSpl d f).hup = d.hup ∧ (modSpl d f).loops = d.loops ∧
    (modSpl d f).adc = d.adc ∧ (modSpl d f).thm = d.thm ∧ (modSpl d f).cal = d.cal ∧ (modSpl d f).mem = d.mem ∧ (modSpl d f).sec = d.sec ∧ (modSpl d f).otp = d.otp ∧
    (modSpl d f).hk = d.hk ∧ (modSpl d f).fij = d.fij ∧ (modSpl d f).ageMin = d.ageMin :=
  ⟨rfl, rfl, rfl, rfl, rfl, rfl, rfl, rfl, rfl, rfl, rfl, rfl, rfl, rfl, rfl, rfl, rfl, rfl, rfl, rfl, rfl, rfl, rfl, rfl, rfl, rfl, rfl, rfl, rfl, rfl, rfl, rfl, rfl, rfl, rfl⟩

@[simp] theorem modCfg_cfg (d : Dev) (f : Cfg → Cfg) : (modCfg d f).cfg = f d.cfg := rfl

@[simp] theorem modCfg_frame (d : Dev) (f : Cfg → Cfg) :
    (modCfg d f).build = d.build ∧ (modCfg d f).now = d.now ∧ (modCfg d f).fresh = d.fresh ∧ (modCfg d f).mode = d.mode ∧ (modCfg d f).pins = d.pins ∧ (modCfg d f).inputs = d.inputs ∧
    (modCfg d f).ret = d.ret ∧ (modCfg d f).rf = d.rf ∧ (modCfg d f).rp = d.rp ∧ (modCfg d f).mp = d.mp ∧ (modCfg d f).spl = d.spl ∧ (modCfg d f).links = d.links ∧ (modCfg d f).statsHeld = d.statsHeld ∧ (modCfg d f).mirrorSent = d.mirrorSent ∧
    (modCfg d f).groups = d.groups ∧ (modCfg d f).chans = d.chans ∧ (modCfg d f).scheds = d.scheds ∧ (modCfg d f).codec = d.codec ∧ (modCfg d f).rrc = d.rrc ∧ (modCfg d f).pgm = d.pgm ∧
    (modCfg d f).xlt = d.xlt ∧ (modCfg d f).cq = d.cq ∧ (modCfg d f).ord = d.ord ∧ (modCfg d f).dma = d.dma ∧ (modCfg d f).hup = d.hup ∧ (modCfg d f).loops = d.loops ∧
    (modCfg d f).adc = d.adc ∧ (modCfg d f).thm = d.thm ∧ (modCfg d f).cal = d.cal ∧ (modCfg d f).mem = d.mem ∧ (modCfg d f).sec = d.sec ∧ (modCfg d f).otp = d.otp ∧
    (modCfg d f).hk = d.hk ∧ (modCfg d f).fij = d.fij ∧ (modCfg d f).ageMin = d.ageMin :=
  ⟨rfl, rfl, rfl, rfl, rfl, rfl, rfl, rfl, rfl, rfl, rfl, rfl, rfl, rfl, rfl, rfl, rfl, rfl, rfl, rfl, rfl, rfl, rfl, rfl, rfl, rfl, rfl, rfl, rfl, rfl, rfl, rfl, rfl, rfl, rfl⟩

@[simp] theorem modCodec_codec (d : Dev) (f : Codec → Codec) : (modCodec d f).codec = f d.codec := rfl

@[simp] theorem modCodec_frame (d : Dev) (f : Codec → Codec) :
    (modCodec d f).build = d.build ∧ (modCodec d f).now = d.now ∧ (modCodec d f).fresh = d.fresh ∧ (modCodec d f).mode = d.mode ∧ (modCodec d f).pins = d.pins ∧ (modCodec d f).inputs = d.inputs ∧
    (modCodec d f).ret = d.ret ∧ (modCodec d f).rf = d.rf ∧ (modCodec d f).rp = d.rp ∧ (modCodec d f).mp = d.mp ∧ (modCodec d f).spl = d.spl ∧ (modCodec d f).links = d.links ∧ (modCodec d f).statsHeld = d.statsHeld ∧ (modCodec d f).mirrorSent = d.mirrorSent ∧
    (modCodec d f).groups = d.groups ∧ (modCodec d f).cfg = d.cfg ∧ (modCodec d f).chans = d.chans ∧ (modCodec d f).scheds = d.scheds ∧ (modCodec d f).rrc = d.rrc ∧ (modCodec d f).pgm = d.pgm ∧
    (modCodec d f).xlt = d.xlt ∧ (modCodec d f).cq = d.cq ∧ (modCodec d f).ord = d.ord ∧ (modCodec d f).dma = d.dma ∧ (modCodec d f).hup = d.hup ∧ (modCodec d f).loops = d.loops ∧
    (modCodec d f).adc = d.adc ∧ (modCodec d f).thm = d.thm ∧ (modCodec d f).cal = d.cal ∧ (modCodec d f).mem = d.mem ∧ (modCodec d f).sec = d.sec ∧ (modCodec d f).otp = d.otp ∧
    (modCodec d f).hk = d.hk ∧ (modCodec d f).fij = d.fij ∧ (modCodec d f).ageMin = d.ageMin :=
  ⟨rfl, rfl, rfl, rfl, rfl, rfl, rfl, rfl, rfl, rfl, rfl, rfl, rfl, rfl, rfl, rfl, rfl, rfl, rfl, rfl, rfl, rfl, rfl, rfl, rfl, rfl, rfl, rfl, rfl, rfl, rfl, rfl, rfl, rfl, rfl⟩

@[simp] theorem modRrc_rrc (d : Dev) (f : Rrc → Rrc) : (modRrc d f).rrc = f d.rrc := rfl

@[simp] theorem modRrc_frame (d : Dev) (f : Rrc → Rrc) :
    (modRrc d f).build = d.build ∧ (modRrc d f).now = d.now ∧ (modRrc d f).fresh = d.fresh ∧ (modRrc d f).mode = d.mode ∧ (modRrc d f).pins = d.pins ∧ (modRrc d f).inputs = d.inputs ∧
    (modRrc d f).ret = d.ret ∧ (modRrc d f).rf = d.rf ∧ (modRrc d f).rp = d.rp ∧ (modRrc d f).mp = d.mp ∧ (modRrc d f).spl = d.spl ∧ (modRrc d f).links = d.links ∧ (modRrc d f).statsHeld = d.statsHeld ∧ (modRrc d f).mirrorSent = d.mirrorSent ∧
    (modRrc d f).groups = d.groups ∧ (modRrc d f).cfg = d.cfg ∧ (modRrc d f).chans = d.chans ∧ (modRrc d f).scheds = d.scheds ∧ (modRrc d f).codec = d.codec ∧ (modRrc d f).pgm = d.pgm ∧
    (modRrc d f).xlt = d.xlt ∧ (modRrc d f).cq = d.cq ∧ (modRrc d f).ord = d.ord ∧ (modRrc d f).dma = d.dma ∧ (modRrc d f).hup = d.hup ∧ (modRrc d f).loops = d.loops ∧
    (modRrc d f).adc = d.adc ∧ (modRrc d f).thm = d.thm ∧ (modRrc d f).cal = d.cal ∧ (modRrc d f).mem = d.mem ∧ (modRrc d f).sec = d.sec ∧ (modRrc d f).otp = d.otp ∧
    (modRrc d f).hk = d.hk ∧ (modRrc d f).fij = d.fij ∧ (modRrc d f).ageMin = d.ageMin :=
  ⟨rfl, rfl, rfl, rfl, rfl, rfl, rfl, rfl, rfl, rfl, rfl, rfl, rfl, rfl, rfl, rfl, rfl, rfl, rfl, rfl, rfl, rfl, rfl, rfl, rfl, rfl, rfl, rfl, rfl, rfl, rfl, rfl, rfl, rfl, rfl⟩

@[simp] theorem modPgm_pgm (d : Dev) (f : Pgm → Pgm) : (modPgm d f).pgm = f d.pgm := rfl

@[simp] theorem modPgm_frame (d : Dev) (f : Pgm → Pgm) :
    (modPgm d f).build = d.build ∧ (modPgm d f).now = d.now ∧ (modPgm d f).fresh = d.fresh ∧ (modPgm d f).mode = d.mode ∧ (modPgm d f).pins = d.pins ∧ (modPgm d f).inputs = d.inputs ∧
    (modPgm d f).ret = d.ret ∧ (modPgm d f).rf = d.rf ∧ (modPgm d f).rp = d.rp ∧ (modPgm d f).mp = d.mp ∧ (modPgm d f).spl = d.spl ∧ (modPgm d f).links = d.links ∧ (modPgm d f).statsHeld = d.statsHeld ∧ (modPgm d f).mirrorSent = d.mirrorSent ∧
    (modPgm d f).groups = d.groups ∧ (modPgm d f).cfg = d.cfg ∧ (modPgm d f).chans = d.chans ∧ (modPgm d f).scheds = d.scheds ∧ (modPgm d f).codec = d.codec ∧ (modPgm d f).rrc = d.rrc ∧
    (modPgm d f).xlt = d.xlt ∧ (modPgm d f).cq = d.cq ∧ (modPgm d f).ord = d.ord ∧ (modPgm d f).dma = d.dma ∧ (modPgm d f).hup = d.hup ∧ (modPgm d f).loops = d.loops ∧
    (modPgm d f).adc = d.adc ∧ (modPgm d f).thm = d.thm ∧ (modPgm d f).cal = d.cal ∧ (modPgm d f).mem = d.mem ∧ (modPgm d f).sec = d.sec ∧ (modPgm d f).otp = d.otp ∧
    (modPgm d f).hk = d.hk ∧ (modPgm d f).fij = d.fij ∧ (modPgm d f).ageMin = d.ageMin :=
  ⟨rfl, rfl, rfl, rfl, rfl, rfl, rfl, rfl, rfl, rfl, rfl, rfl, rfl, rfl, rfl, rfl, rfl, rfl, rfl, rfl, rfl, rfl, rfl, rfl, rfl, rfl, rfl, rfl, rfl, rfl, rfl, rfl, rfl, rfl, rfl⟩

@[simp] theorem modXlt_xlt (d : Dev) (f : Xlt → Xlt) : (modXlt d f).xlt = f d.xlt := rfl

@[simp] theorem modXlt_frame (d : Dev) (f : Xlt → Xlt) :
    (modXlt d f).build = d.build ∧ (modXlt d f).now = d.now ∧ (modXlt d f).fresh = d.fresh ∧ (modXlt d f).mode = d.mode ∧ (modXlt d f).pins = d.pins ∧ (modXlt d f).inputs = d.inputs ∧
    (modXlt d f).ret = d.ret ∧ (modXlt d f).rf = d.rf ∧ (modXlt d f).rp = d.rp ∧ (modXlt d f).mp = d.mp ∧ (modXlt d f).spl = d.spl ∧ (modXlt d f).links = d.links ∧ (modXlt d f).statsHeld = d.statsHeld ∧ (modXlt d f).mirrorSent = d.mirrorSent ∧
    (modXlt d f).groups = d.groups ∧ (modXlt d f).cfg = d.cfg ∧ (modXlt d f).chans = d.chans ∧ (modXlt d f).scheds = d.scheds ∧ (modXlt d f).codec = d.codec ∧ (modXlt d f).rrc = d.rrc ∧
    (modXlt d f).pgm = d.pgm ∧ (modXlt d f).cq = d.cq ∧ (modXlt d f).ord = d.ord ∧ (modXlt d f).dma = d.dma ∧ (modXlt d f).hup = d.hup ∧ (modXlt d f).loops = d.loops ∧
    (modXlt d f).adc = d.adc ∧ (modXlt d f).thm = d.thm ∧ (modXlt d f).cal = d.cal ∧ (modXlt d f).mem = d.mem ∧ (modXlt d f).sec = d.sec ∧ (modXlt d f).otp = d.otp ∧
    (modXlt d f).hk = d.hk ∧ (modXlt d f).fij = d.fij ∧ (modXlt d f).ageMin = d.ageMin :=
  ⟨rfl, rfl, rfl, rfl, rfl, rfl, rfl, rfl, rfl, rfl, rfl, rfl, rfl, rfl, rfl, rfl, rfl, rfl, rfl, rfl, rfl, rfl, rfl, rfl, rfl, rfl, rfl, rfl, rfl, rfl, rfl, rfl, rfl, rfl, rfl⟩

@[simp] theorem modCq_cq (d : Dev) (f : Cq → Cq) : (modCq d f).cq = f d.cq := rfl

@[simp] theorem modCq_frame (d : Dev) (f : Cq → Cq) :
    (modCq d f).build = d.build ∧ (modCq d f).now = d.now ∧ (modCq d f).fresh = d.fresh ∧ (modCq d f).mode = d.mode ∧ (modCq d f).pins = d.pins ∧ (modCq d f).inputs = d.inputs ∧
    (modCq d f).ret = d.ret ∧ (modCq d f).rf = d.rf ∧ (modCq d f).rp = d.rp ∧ (modCq d f).mp = d.mp ∧ (modCq d f).spl = d.spl ∧ (modCq d f).links = d.links ∧ (modCq d f).statsHeld = d.statsHeld ∧ (modCq d f).mirrorSent = d.mirrorSent ∧
    (modCq d f).groups = d.groups ∧ (modCq d f).cfg = d.cfg ∧ (modCq d f).chans = d.chans ∧ (modCq d f).scheds = d.scheds ∧ (modCq d f).codec = d.codec ∧ (modCq d f).rrc = d.rrc ∧
    (modCq d f).pgm = d.pgm ∧ (modCq d f).xlt = d.xlt ∧ (modCq d f).ord = d.ord ∧ (modCq d f).dma = d.dma ∧ (modCq d f).hup = d.hup ∧ (modCq d f).loops = d.loops ∧
    (modCq d f).adc = d.adc ∧ (modCq d f).thm = d.thm ∧ (modCq d f).cal = d.cal ∧ (modCq d f).mem = d.mem ∧ (modCq d f).sec = d.sec ∧ (modCq d f).otp = d.otp ∧
    (modCq d f).hk = d.hk ∧ (modCq d f).fij = d.fij ∧ (modCq d f).ageMin = d.ageMin :=
  ⟨rfl, rfl, rfl, rfl, rfl, rfl, rfl, rfl, rfl, rfl, rfl, rfl, rfl, rfl, rfl, rfl, rfl, rfl, rfl, rfl, rfl, rfl, rfl, rfl, rfl, rfl, rfl, rfl, rfl, rfl, rfl, rfl, rfl, rfl, rfl⟩

@[simp] theorem modOrd_ord (d : Dev) (f : Ord → Ord) : (modOrd d f).ord = f d.ord := rfl

@[simp] theorem modOrd_frame (d : Dev) (f : Ord → Ord) :
    (modOrd d f).build = d.build ∧ (modOrd d f).now = d.now ∧ (modOrd d f).fresh = d.fresh ∧ (modOrd d f).mode = d.mode ∧ (modOrd d f).pins = d.pins ∧ (modOrd d f).inputs = d.inputs ∧
    (modOrd d f).ret = d.ret ∧ (modOrd d f).rf = d.rf ∧ (modOrd d f).rp = d.rp ∧ (modOrd d f).mp = d.mp ∧ (modOrd d f).spl = d.spl ∧ (modOrd d f).links = d.links ∧ (modOrd d f).statsHeld = d.statsHeld ∧ (modOrd d f).mirrorSent = d.mirrorSent ∧
    (modOrd d f).groups = d.groups ∧ (modOrd d f).cfg = d.cfg ∧ (modOrd d f).chans = d.chans ∧ (modOrd d f).scheds = d.scheds ∧ (modOrd d f).codec = d.codec ∧ (modOrd d f).rrc = d.rrc ∧
    (modOrd d f).pgm = d.pgm ∧ (modOrd d f).xlt = d.xlt ∧ (modOrd d f).cq = d.cq ∧ (modOrd d f).dma = d.dma ∧ (modOrd d f).hup = d.hup ∧ (modOrd d f).loops = d.loops ∧
    (modOrd d f).adc = d.adc ∧ (modOrd d f).thm = d.thm ∧ (modOrd d f).cal = d.cal ∧ (modOrd d f).mem = d.mem ∧ (modOrd d f).sec = d.sec ∧ (modOrd d f).otp = d.otp ∧
    (modOrd d f).hk = d.hk ∧ (modOrd d f).fij = d.fij ∧ (modOrd d f).ageMin = d.ageMin :=
  ⟨rfl, rfl, rfl, rfl, rfl, rfl, rfl, rfl, rfl, rfl, rfl, rfl, rfl, rfl, rfl, rfl, rfl, rfl, rfl, rfl, rfl, rfl, rfl, rfl, rfl, rfl, rfl, rfl, rfl, rfl, rfl, rfl, rfl, rfl, rfl⟩

@[simp] theorem modDma_dma (d : Dev) (f : Dma → Dma) : (modDma d f).dma = f d.dma := rfl

@[simp] theorem modDma_frame (d : Dev) (f : Dma → Dma) :
    (modDma d f).build = d.build ∧ (modDma d f).now = d.now ∧ (modDma d f).fresh = d.fresh ∧ (modDma d f).mode = d.mode ∧ (modDma d f).pins = d.pins ∧ (modDma d f).inputs = d.inputs ∧
    (modDma d f).ret = d.ret ∧ (modDma d f).rf = d.rf ∧ (modDma d f).rp = d.rp ∧ (modDma d f).mp = d.mp ∧ (modDma d f).spl = d.spl ∧ (modDma d f).links = d.links ∧ (modDma d f).statsHeld = d.statsHeld ∧ (modDma d f).mirrorSent = d.mirrorSent ∧
    (modDma d f).groups = d.groups ∧ (modDma d f).cfg = d.cfg ∧ (modDma d f).chans = d.chans ∧ (modDma d f).scheds = d.scheds ∧ (modDma d f).codec = d.codec ∧ (modDma d f).rrc = d.rrc ∧
    (modDma d f).pgm = d.pgm ∧ (modDma d f).xlt = d.xlt ∧ (modDma d f).cq = d.cq ∧ (modDma d f).ord = d.ord ∧ (modDma d f).hup = d.hup ∧ (modDma d f).loops = d.loops ∧
    (modDma d f).adc = d.adc ∧ (modDma d f).thm = d.thm ∧ (modDma d f).cal = d.cal ∧ (modDma d f).mem = d.mem ∧ (modDma d f).sec = d.sec ∧ (modDma d f).otp = d.otp ∧
    (modDma d f).hk = d.hk ∧ (modDma d f).fij = d.fij ∧ (modDma d f).ageMin = d.ageMin :=
  ⟨rfl, rfl, rfl, rfl, rfl, rfl, rfl, rfl, rfl, rfl, rfl, rfl, rfl, rfl, rfl, rfl, rfl, rfl, rfl, rfl, rfl, rfl, rfl, rfl, rfl, rfl, rfl, rfl, rfl, rfl, rfl, rfl, rfl, rfl, rfl⟩

@[simp] theorem modHup_hup (d : Dev) (f : Hup → Hup) : (modHup d f).hup = f d.hup := rfl

@[simp] theorem modHup_frame (d : Dev) (f : Hup → Hup) :
    (modHup d f).build = d.build ∧ (modHup d f).now = d.now ∧ (modHup d f).fresh = d.fresh ∧ (modHup d f).mode = d.mode ∧ (modHup d f).pins = d.pins ∧ (modHup d f).inputs = d.inputs ∧
    (modHup d f).ret = d.ret ∧ (modHup d f).rf = d.rf ∧ (modHup d f).rp = d.rp ∧ (modHup d f).mp = d.mp ∧ (modHup d f).spl = d.spl ∧ (modHup d f).links = d.links ∧ (modHup d f).statsHeld = d.statsHeld ∧ (modHup d f).mirrorSent = d.mirrorSent ∧
    (modHup d f).groups = d.groups ∧ (modHup d f).cfg = d.cfg ∧ (modHup d f).chans = d.chans ∧ (modHup d f).scheds = d.scheds ∧ (modHup d f).codec = d.codec ∧ (modHup d f).rrc = d.rrc ∧
    (modHup d f).pgm = d.pgm ∧ (modHup d f).xlt = d.xlt ∧ (modHup d f).cq = d.cq ∧ (modHup d f).ord = d.ord ∧ (modHup d f).dma = d.dma ∧ (modHup d f).loops = d.loops ∧
    (modHup d f).adc = d.adc ∧ (modHup d f).thm = d.thm ∧ (modHup d f).cal = d.cal ∧ (modHup d f).mem = d.mem ∧ (modHup d f).sec = d.sec ∧ (modHup d f).otp = d.otp ∧
    (modHup d f).hk = d.hk ∧ (modHup d f).fij = d.fij ∧ (modHup d f).ageMin = d.ageMin :=
  ⟨rfl, rfl, rfl, rfl, rfl, rfl, rfl, rfl, rfl, rfl, rfl, rfl, rfl, rfl, rfl, rfl, rfl, rfl, rfl, rfl, rfl, rfl, rfl, rfl, rfl, rfl, rfl, rfl, rfl, rfl, rfl, rfl, rfl, rfl, rfl⟩

@[simp] theorem modLoops_loops (d : Dev) (f : Loops → Loops) : (modLoops d f).loops = f d.loops := rfl

@[simp] theorem modLoops_frame (d : Dev) (f : Loops → Loops) :
    (modLoops d f).build = d.build ∧ (modLoops d f).now = d.now ∧ (modLoops d f).fresh = d.fresh ∧ (modLoops d f).mode = d.mode ∧ (modLoops d f).pins = d.pins ∧ (modLoops d f).inputs = d.inputs ∧
    (modLoops d f).ret = d.ret ∧ (modLoops d f).rf = d.rf ∧ (modLoops d f).rp = d.rp ∧ (modLoops d f).mp = d.mp ∧ (modLoops d f).spl = d.spl ∧ (modLoops d f).links = d.links ∧ (modLoops d f).statsHeld = d.statsHeld ∧ (modLoops d f).mirrorSent = d.mirrorSent ∧
    (modLoops d f).groups = d.groups ∧ (modLoops d f).cfg = d.cfg ∧ (modLoops d f).chans = d.chans ∧ (modLoops d f).scheds = d.scheds ∧ (modLoops d f).codec = d.codec ∧ (modLoops d f).rrc = d.rrc ∧
    (modLoops d f).pgm = d.pgm ∧ (modLoops d f).xlt = d.xlt ∧ (modLoops d f).cq = d.cq ∧ (modLoops d f).ord = d.ord ∧ (modLoops d f).dma = d.dma ∧ (modLoops d f).hup = d.hup ∧
    (modLoops d f).adc = d.adc ∧ (modLoops d f).thm = d.thm ∧ (modLoops d f).cal = d.cal ∧ (modLoops d f).mem = d.mem ∧ (modLoops d f).sec = d.sec ∧ (modLoops d f).otp = d.otp ∧
    (modLoops d f).hk = d.hk ∧ (modLoops d f).fij = d.fij ∧ (modLoops d f).ageMin = d.ageMin :=
  ⟨rfl, rfl, rfl, rfl, rfl, rfl, rfl, rfl, rfl, rfl, rfl, rfl, rfl, rfl, rfl, rfl, rfl, rfl, rfl, rfl, rfl, rfl, rfl, rfl, rfl, rfl, rfl, rfl, rfl, rfl, rfl, rfl, rfl, rfl, rfl⟩

@[simp] theorem modAdc_adc (d : Dev) (f : Adc → Adc) : (modAdc d f).adc = f d.adc := rfl

@[simp] theorem modAdc_frame (d : Dev) (f : Adc → Adc) :
    (modAdc d f).build = d.build ∧ (modAdc d f).now = d.now ∧ (modAdc d f).fresh = d.fresh ∧ (modAdc d f).mode = d.mode ∧ (modAdc d f).pins = d.pins ∧ (modAdc d f).inputs = d.inputs ∧
    (modAdc d f).ret = d.ret ∧ (modAdc d f).rf = d.rf ∧ (modAdc d f).rp = d.rp ∧ (modAdc d f).mp = d.mp ∧ (modAdc d f).spl = d.spl ∧ (modAdc d f).links = d.links ∧ (modAdc d f).statsHeld = d.statsHeld ∧ (modAdc d f).mirrorSent = d.mirrorSent ∧
    (modAdc d f).groups = d.groups ∧ (modAdc d f).cfg = d.cfg ∧ (modAdc d f).chans = d.chans ∧ (modAdc d f).scheds = d.scheds ∧ (modAdc d f).codec = d.codec ∧ (modAdc d f).rrc = d.rrc ∧
    (modAdc d f).pgm = d.pgm ∧ (modAdc d f).xlt = d.xlt ∧ (modAdc d f).cq = d.cq ∧ (modAdc d f).ord = d.ord ∧ (modAdc d f).dma = d.dma ∧ (modAdc d f).hup = d.hup ∧
    (modAdc d f).loops = d.loops ∧ (modAdc d f).thm = d.thm ∧ (modAdc d f).cal = d.cal ∧ (modAdc d f).mem = d.mem ∧ (modAdc d f).sec = d.sec ∧ (modAdc d f).otp = d.otp ∧
    (modAdc d f).hk = d.hk ∧ (modAdc d f).fij = d.fij ∧ (modAdc d f).ageMin = d.ageMin :=
  ⟨rfl, rfl, rfl, rfl, rfl, rfl, rfl, rfl, rfl, rfl, rfl, rfl, rfl, rfl, rfl, rfl, rfl, rfl, rfl, rfl, rfl, rfl, rfl, rfl, rfl, rfl, rfl, rfl, rfl, rfl, rfl, rfl, rfl, rfl, rfl⟩

@[simp] theorem modThm_thm (d : Dev) (f : Thm → Thm) : (modThm d f).thm = f d.thm := rfl

@[simp] theorem modThm_frame (d : Dev) (f : Thm → Thm) :
    (modThm d f).build = d.build ∧ (modThm d f).now = d.now ∧ (modThm d f).fresh = d.fresh ∧ (modThm d f).mode = d.mode ∧ (modThm d f).pins = d.pins ∧ (modThm d f).inputs = d.inputs ∧
    (modThm d f).ret = d.ret ∧ (modThm d f).rf = d.rf ∧ (modThm d f).rp = d.rp ∧ (modThm d f).mp = d.mp ∧ (modThm d f).spl = d.spl ∧ (modThm d f).links = d.links ∧ (modThm d f).statsHeld = d.statsHeld ∧ (modThm d f).mirrorSent = d.mirrorSent ∧
    (modThm d f).groups = d.groups ∧ (modThm d f).cfg = d.cfg ∧ (modThm d f).chans = d.chans ∧ (modThm d f).scheds = d.scheds ∧ (modThm d f).codec = d.codec ∧ (modThm d f).rrc = d.rrc ∧
    (modThm d f).pgm = d.pgm ∧ (modThm d f).xlt = d.xlt ∧ (modThm d f).cq = d.cq ∧ (modThm d f).ord = d.ord ∧ (modThm d f).dma = d.dma ∧ (modThm d f).hup = d.hup ∧
    (modThm d f).loops = d.loops ∧ (modThm d f).adc = d.adc ∧ (modThm d f).cal = d.cal ∧ (modThm d f).mem = d.mem ∧ (modThm d f).sec = d.sec ∧ (modThm d f).otp = d.otp ∧
    (modThm d f).hk = d.hk ∧ (modThm d f).fij = d.fij ∧ (modThm d f).ageMin = d.ageMin :=
  ⟨rfl, rfl, rfl, rfl, rfl, rfl, rfl, rfl, rfl, rfl, rfl, rfl, rfl, rfl, rfl, rfl, rfl, rfl, rfl, rfl, rfl, rfl, rfl, rfl, rfl, rfl, rfl, rfl, rfl, rfl, rfl, rfl, rfl, rfl, rfl⟩

@[simp] theorem modCal_cal (d : Dev) (f : Cal → Cal) : (modCal d f).cal = f d.cal := rfl

@[simp] theorem modCal_frame (d : Dev) (f : Cal → Cal) :
    (modCal d f).build = d.build ∧ (modCal d f).now = d.now ∧ (modCal d f).fresh = d.fresh ∧ (modCal d f).mode = d.mode ∧ (modCal d f).pins = d.pins ∧ (modCal d f).inputs = d.inputs ∧
    (modCal d f).ret = d.ret ∧ (modCal d f).rf = d.rf ∧ (modCal d f).rp = d.rp ∧ (modCal d f).mp = d.mp ∧ (modCal d f).spl = d.spl ∧ (modCal d f).links = d.links ∧ (modCal d f).statsHeld = d.statsHeld ∧ (modCal d f).mirrorSent = d.mirrorSent ∧
    (modCal d f).groups = d.groups ∧ (modCal d f).cfg = d.cfg ∧ (modCal d f).chans = d.chans ∧ (modCal d f).scheds = d.scheds ∧ (modCal d f).codec = d.codec ∧ (modCal d f).rrc = d.rrc ∧
    (modCal d f).pgm = d.pgm ∧ (modCal d f).xlt = d.xlt ∧ (modCal d f).cq = d.cq ∧ (modCal d f).ord = d.ord ∧ (modCal d f).dma = d.dma ∧ (modCal d f).hup = d.hup ∧
    (modCal d f).loops = d.loops ∧ (modCal d f).adc = d.adc ∧ (modCal d f).thm = d.thm ∧ (modCal d f).mem = d.mem ∧ (modCal d f).sec = d.sec ∧ (modCal d f).otp = d.otp ∧
    (modCal d f).hk = d.hk ∧ (modCal d f).fij = d.fij ∧ (modCal d f).ageMin = d.ageMin :=
  ⟨rfl, rfl, rfl, rfl, rfl, rfl, rfl, rfl, rfl, rfl, rfl, rfl, rfl, rfl, rfl, rfl, rfl, rfl, rfl, rfl, rfl, rfl, rfl, rfl, rfl, rfl, rfl, rfl, rfl, rfl, rfl, rfl, rfl, rfl, rfl⟩

@[simp] theorem modMem_mem (d : Dev) (f : Mem → Mem) : (modMem d f).mem = f d.mem := rfl

@[simp] theorem modMem_frame (d : Dev) (f : Mem → Mem) :
    (modMem d f).build = d.build ∧ (modMem d f).now = d.now ∧ (modMem d f).fresh = d.fresh ∧ (modMem d f).mode = d.mode ∧ (modMem d f).pins = d.pins ∧ (modMem d f).inputs = d.inputs ∧
    (modMem d f).ret = d.ret ∧ (modMem d f).rf = d.rf ∧ (modMem d f).rp = d.rp ∧ (modMem d f).mp = d.mp ∧ (modMem d f).spl = d.spl ∧ (modMem d f).links = d.links ∧ (modMem d f).statsHeld = d.statsHeld ∧ (modMem d f).mirrorSent = d.mirrorSent ∧
    (modMem d f).groups = d.groups ∧ (modMem d f).cfg = d.cfg ∧ (modMem d f).chans = d.chans ∧ (modMem d f).scheds = d.scheds ∧ (modMem d f).codec = d.codec ∧ (modMem d f).rrc = d.rrc ∧
    (modMem d f).pgm = d.pgm ∧ (modMem d f).xlt = d.xlt ∧ (modMem d f).cq = d.cq ∧ (modMem d f).ord = d.ord ∧ (modMem d f).dma = d.dma ∧ (modMem d f).hup = d.hup ∧
    (modMem d f).loops = d.loops ∧ (modMem d f).adc = d.adc ∧ (modMem d f).thm = d.thm ∧ (modMem d f).cal = d.cal ∧ (modMem d f).sec = d.sec ∧ (modMem d f).otp = d.otp ∧
    (modMem d f).hk = d.hk ∧ (modMem d f).fij = d.fij ∧ (modMem d f).ageMin = d.ageMin :=
  ⟨rfl, rfl, rfl, rfl, rfl, rfl, rfl, rfl, rfl, rfl, rfl, rfl, rfl, rfl, rfl, rfl, rfl, rfl, rfl, rfl, rfl, rfl, rfl, rfl, rfl, rfl, rfl, rfl, rfl, rfl, rfl, rfl, rfl, rfl, rfl⟩

@[simp] theorem modSec_sec (d : Dev) (f : Sec → Sec) : (modSec d f).sec = f d.sec := rfl

@[simp] theorem modSec_frame (d : Dev) (f : Sec → Sec) :
    (modSec d f).build = d.build ∧ (modSec d f).now = d.now ∧ (modSec d f).fresh = d.fresh ∧ (modSec d f).mode = d.mode ∧ (modSec d f).pins = d.pins ∧ (modSec d f).inputs = d.inputs ∧
    (modSec d f).ret = d.ret ∧ (modSec d f).rf = d.rf ∧ (modSec d f).rp = d.rp ∧ (modSec d f).mp = d.mp ∧ (modSec d f).spl = d.spl ∧ (modSec d f).links = d.links ∧ (modSec d f).statsHeld = d.statsHeld ∧ (modSec d f).mirrorSent = d.mirrorSent ∧
    (modSec d f).groups = d.groups ∧ (modSec d f).cfg = d.cfg ∧ (modSec d f).chans = d.chans ∧ (modSec d f).scheds = d.scheds ∧ (modSec d f).codec = d.codec ∧ (modSec d f).rrc = d.rrc ∧
    (modSec d f).pgm = d.pgm ∧ (modSec d f).xlt = d.xlt ∧ (modSec d f).cq = d.cq ∧ (modSec d f).ord = d.ord ∧ (modSec d f).dma = d.dma ∧ (modSec d f).hup = d.hup ∧
    (modSec d f).loops = d.loops ∧ (modSec d f).adc = d.adc ∧ (modSec d f).thm = d.thm ∧ (modSec d f).cal = d.cal ∧ (modSec d f).mem = d.mem ∧ (modSec d f).otp = d.otp ∧
    (modSec d f).hk = d.hk ∧ (modSec d f).fij = d.fij ∧ (modSec d f).ageMin = d.ageMin :=
  ⟨rfl, rfl, rfl, rfl, rfl, rfl, rfl, rfl, rfl, rfl, rfl, rfl, rfl, rfl, rfl, rfl, rfl, rfl, rfl, rfl, rfl, rfl, rfl, rfl, rfl, rfl, rfl, rfl, rfl, rfl, rfl, rfl, rfl, rfl, rfl⟩

@[simp] theorem modOtp_otp (d : Dev) (f : Otp → Otp) : (modOtp d f).otp = f d.otp := rfl

@[simp] theorem modOtp_frame (d : Dev) (f : Otp → Otp) :
    (modOtp d f).build = d.build ∧ (modOtp d f).now = d.now ∧ (modOtp d f).fresh = d.fresh ∧ (modOtp d f).mode = d.mode ∧ (modOtp d f).pins = d.pins ∧ (modOtp d f).inputs = d.inputs ∧
    (modOtp d f).ret = d.ret ∧ (modOtp d f).rf = d.rf ∧ (modOtp d f).rp = d.rp ∧ (modOtp d f).mp = d.mp ∧ (modOtp d f).spl = d.spl ∧ (modOtp d f).links = d.links ∧ (modOtp d f).statsHeld = d.statsHeld ∧ (modOtp d f).mirrorSent = d.mirrorSent ∧
    (modOtp d f).groups = d.groups ∧ (modOtp d f).cfg = d.cfg ∧ (modOtp d f).chans = d.chans ∧ (modOtp d f).scheds = d.scheds ∧ (modOtp d f).codec = d.codec ∧ (modOtp d f).rrc = d.rrc ∧
    (modOtp d f).pgm = d.pgm ∧ (modOtp d f).xlt = d.xlt ∧ (modOtp d f).cq = d.cq ∧ (modOtp d f).ord = d.ord ∧ (modOtp d f).dma = d.dma ∧ (modOtp d f).hup = d.hup ∧
    (modOtp d f).loops = d.loops ∧ (modOtp d f).adc = d.adc ∧ (modOtp d f).thm = d.thm ∧ (modOtp d f).cal = d.cal ∧ (modOtp d f).mem = d.mem ∧ (modOtp d f).sec = d.sec ∧
    (modOtp d f).hk = d.hk ∧ (modOtp d f).fij = d.fij ∧ (modOtp d f).ageMin = d.ageMin :=
  ⟨rfl, rfl, rfl, rfl, rfl, rfl, rfl, rfl, rfl, rfl, rfl, rfl, rfl, rfl, rfl, rfl, rfl, rfl, rfl, rfl, rfl, rfl, rfl, rfl, rfl, rfl, rfl, rfl, rfl, rfl, rfl, rfl, rfl, rfl, rfl⟩

@[simp] theorem modHk_hk (d : Dev) (f : Hk → Hk) : (modHk d f).hk = f d.hk := rfl

@[simp] theorem modHk_frame (d : Dev) (f : Hk → Hk) :
    (modHk d f).build = d.build ∧ (modHk d f).now = d.now ∧ (modHk d f).fresh = d.fresh ∧ (modHk d f).mode = d.mode ∧ (modHk d f).pins = d.pins ∧ (modHk d f).inputs = d.inputs ∧
    (modHk d f).ret = d.ret ∧ (modHk d f).rf = d.rf ∧ (modHk d f).rp = d.rp ∧ (modHk d f).mp = d.mp ∧ (modHk d f).spl = d.spl ∧ (modHk d f).links = d.links ∧ (modHk d f).statsHeld = d.statsHeld ∧ (modHk d f).mirrorSent = d.mirrorSent ∧
    (modHk d f).groups = d.groups ∧ (modHk d f).cfg = d.cfg ∧ (modHk d f).chans = d.chans ∧ (modHk d f).scheds = d.scheds ∧ (modHk d f).codec = d.codec ∧ (modHk d f).rrc = d.rrc ∧
    (modHk d f).pgm = d.pgm ∧ (modHk d f).xlt = d.xlt ∧ (modHk d f).cq = d.cq ∧ (modHk d f).ord = d.ord ∧ (modHk d f).dma = d.dma ∧ (modHk d f).hup = d.hup ∧
    (modHk d f).loops = d.loops ∧ (modHk d f).adc = d.adc ∧ (modHk d f).thm = d.thm ∧ (modHk d f).cal = d.cal ∧ (modHk d f).mem = d.mem ∧ (modHk d f).sec = d.sec ∧
    (modHk d f).otp = d.otp ∧ (modHk d f).fij = d.fij ∧ (modHk d f).ageMin = d.ageMin :=
  ⟨rfl, rfl, rfl, rfl, rfl, rfl, rfl, rfl, rfl, rfl, rfl, rfl, rfl, rfl, rfl, rfl, rfl, rfl, rfl, rfl, rfl, rfl, rfl, rfl, rfl, rfl, rfl, rfl, rfl, rfl, rfl, rfl, rfl, rfl, rfl⟩

@[simp] theorem modFij_fij (d : Dev) (f : Fij → Fij) : (modFij d f).fij = f d.fij := rfl

@[simp] theorem modFij_frame (d : Dev) (f : Fij → Fij) :
    (modFij d f).build = d.build ∧ (modFij d f).now = d.now ∧ (modFij d f).fresh = d.fresh ∧ (modFij d f).mode = d.mode ∧ (modFij d f).pins = d.pins ∧ (modFij d f).inputs = d.inputs ∧
    (modFij d f).ret = d.ret ∧ (modFij d f).rf = d.rf ∧ (modFij d f).rp = d.rp ∧ (modFij d f).mp = d.mp ∧ (modFij d f).spl = d.spl ∧ (modFij d f).links = d.links ∧ (modFij d f).statsHeld = d.statsHeld ∧ (modFij d f).mirrorSent = d.mirrorSent ∧
    (modFij d f).groups = d.groups ∧ (modFij d f).cfg = d.cfg ∧ (modFij d f).chans = d.chans ∧ (modFij d f).scheds = d.scheds ∧ (modFij d f).codec = d.codec ∧ (modFij d f).rrc = d.rrc ∧
    (modFij d f).pgm = d.pgm ∧ (modFij d f).xlt = d.xlt ∧ (modFij d f).cq = d.cq ∧ (modFij d f).ord = d.ord ∧ (modFij d f).dma = d.dma ∧ (modFij d f).hup = d.hup ∧
    (modFij d f).loops = d.loops ∧ (modFij d f).adc = d.adc ∧ (modFij d f).thm = d.thm ∧ (modFij d f).cal = d.cal ∧ (modFij d f).mem = d.mem ∧ (modFij d f).sec = d.sec ∧
    (modFij d f).otp = d.otp ∧ (modFij d f).hk = d.hk ∧ (modFij d f).ageMin = d.ageMin :=
  ⟨rfl, rfl, rfl, rfl, rfl, rfl, rfl, rfl, rfl, rfl, rfl, rfl, rfl, rfl, rfl, rfl, rfl, rfl, rfl, rfl, rfl, rfl, rfl, rfl, rfl, rfl, rfl, rfl, rfl, rfl, rfl, rfl, rfl, rfl, rfl⟩

@[simp] theorem modChan_frame (d : Dev) (i : Nat) (f : Chan → Chan) :
    (modChan d i f).build = d.build ∧ (modChan d i f).now = d.now ∧ (modChan d i f).fresh = d.fresh ∧ (modChan d i f).mode = d.mode ∧ (modChan d i f).pins = d.pins ∧ (modChan d i f).inputs = d.inputs ∧
    (modChan d i f).ret = d.ret ∧ (modChan d i f).rf = d.rf ∧ (modChan d i f).rp = d.rp ∧ (modChan d i f).mp = d.mp ∧ (modChan d i f).spl = d.spl ∧ (modChan d i f).links = d.links ∧ (modChan d i f).statsHeld = d.statsHeld ∧ (modChan d i f).mirrorSent = d.mirrorSent ∧
    (modChan d i f).groups = d.groups ∧ (modChan d i f).cfg = d.cfg ∧ (modChan d i f).scheds = d.scheds ∧ (modChan d i f).codec = d.codec ∧ (modChan d i f).rrc = d.rrc ∧ (modChan d i f).pgm = d.pgm ∧
    (modChan d i f).xlt = d.xlt ∧ (modChan d i f).cq = d.cq ∧ (modChan d i f).ord = d.ord ∧ (modChan d i f).dma = d.dma ∧ (modChan d i f).hup = d.hup ∧ (modChan d i f).loops = d.loops ∧
    (modChan d i f).adc = d.adc ∧ (modChan d i f).thm = d.thm ∧ (modChan d i f).cal = d.cal ∧ (modChan d i f).mem = d.mem ∧ (modChan d i f).sec = d.sec ∧ (modChan d i f).otp = d.otp ∧
    (modChan d i f).hk = d.hk ∧ (modChan d i f).fij = d.fij ∧ (modChan d i f).ageMin = d.ageMin :=
  ⟨rfl, rfl, rfl, rfl, rfl, rfl, rfl, rfl, rfl, rfl, rfl, rfl, rfl, rfl, rfl, rfl, rfl, rfl, rfl, rfl, rfl, rfl, rfl, rfl, rfl, rfl, rfl, rfl, rfl, rfl, rfl, rfl, rfl, rfl, rfl⟩

@[simp] theorem getChan_modChan (d : Dev) (i : Nat) (f : Chan → Chan) : getChan (modChan d i f) i = f (getChan d i) := nget_nmod_self ..

theorem getChan_modChan_ne (d : Dev) {i j : Nat} (f : Chan → Chan) (h : j ≠ i) : getChan (modChan d i f) j = getChan d j := nget_nmod_ne _ _ _ _ h

@[simp] theorem modSched_frame (d : Dev) (i : Nat) (f : Sched → Sched) :
    (modSched d i f).build = d.build ∧ (modSched d i f).now = d.now ∧ (modSched d i f).fresh = d.fresh ∧ (modSched d i f).mode = d.mode ∧ (modSched d i f).pins = d.pins ∧ (modSched d i f).inputs = d.inputs ∧
    (modSched d i f).ret = d.ret ∧ (modSched d i f).rf = d.rf ∧ (modSched d i f).rp = d.rp ∧ (modSched d i f).mp = d.mp ∧ (modSched d i f).spl = d.spl ∧ (modSched d i f).links = d.links ∧ (modSched d i f).statsHeld = d.statsHeld ∧ (modSched d i f).mirrorSent = d.mirrorSent ∧
    (modSched d i f).groups = d.groups ∧ (modSched d i f).cfg = d.cfg ∧ (modSched d i f).chans = d.chans ∧ (modSched d i f).codec = d.codec ∧ (modSched d i f).rrc = d.rrc ∧ (modSched d i f).pgm = d.pgm ∧
    (modSched d i f).xlt = d.xlt ∧ (modSched d i f).cq = d.cq ∧ (modSched d i f).ord = d.ord ∧ (modSched d i f).dma = d.dma ∧ (modSched d i f).hup = d.hup ∧ (modSched d i f).loops = d.loops ∧
    (modSched d i f).adc = d.adc ∧ (modSched d i f).thm = d.thm ∧ (modSched d i f).cal = d.cal ∧ (modSched d i f).mem = d.mem ∧ (modSched d i f).sec = d.sec ∧ (modSched d i f).otp = d.otp ∧
    (modSched d i f).hk = d.hk ∧ (modSched d i f).fij = d.fij ∧ (modSched d i f).ageMin = d.ageMin :=
  ⟨rfl, rfl, rfl, rfl, rfl, rfl, rfl, rfl, rfl, rfl, rfl, rfl, rfl, rfl, rfl, rfl, rfl, rfl, rfl, rfl, rfl, rfl, rfl, rfl, rfl, rfl, rfl, rfl, rfl, rfl, rfl, rfl, rfl, rfl, rfl⟩

@[simp] theorem getSched_modSched (d : Dev) (i : Nat) (f : Sched → Sched) : getSched (modSched d i f) i = f (getSched d i) := nget_nmod_self ..

theorem getSched_modSched_ne (d : Dev) {i j : Nat} (f : Sched → Sched) (h : j ≠ i) : getSched (modSched d i f) j = getSched d j := nget_nmod_ne _ _ _ _ h

@[simp] theorem modGroup_frame (d : Dev) (i : Nat) (f : Group → Group) :
    (modGroup d i f).build = d.build ∧ (modGroup d i f).now = d.now ∧ (modGroup d i f).fresh = d.fresh ∧ (modGroup d i f).mode = d.mode ∧ (modGroup d i f).pins = d.pins ∧ (modGroup d i f).inputs = d.inputs ∧
    (modGroup d i f).ret = d.ret ∧ (modGroup d i f).rf = d.rf ∧ (modGroup d i f).rp = d.rp ∧ (modGroup d i f).mp = d.mp ∧ (modGroup d i f).spl = d.spl ∧ (modGroup d i f).links = d.links ∧ (modGroup d i f).statsHeld = d.statsHeld ∧ (modGroup d i f).mirrorSent = d.mirrorSent ∧
    (modGroup d i f).cfg = d.cfg ∧ (modGroup d i f).chans = d.chans ∧ (modGroup d i f).scheds = d.scheds ∧ (modGroup d i f).codec = d.codec ∧ (modGroup d i f).rrc = d.rrc ∧ (modGroup d i f).pgm = d.pgm ∧
    (modGroup d i f).xlt = d.xlt ∧ (modGroup d i f).cq = d.cq ∧ (modGroup d i f).ord = d.ord ∧ (modGroup d i f).dma = d.dma ∧ (modGroup d i f).hup = d.hup ∧ (modGroup d i f).loops = d.loops ∧
    (modGroup d i f).adc = d.adc ∧ (modGroup d i f).thm = d.thm ∧ (modGroup d i f).cal = d.cal ∧ (modGroup d i f).mem = d.mem ∧ (modGroup d i f).sec = d.sec ∧ (modGroup d i f).otp = d.otp ∧
    (modGroup d i f).hk = d.hk ∧ (modGroup d i f).fij = d.fij ∧ (modGroup d i f).ageMin = d.ageMin :=
  ⟨rfl, rfl, rfl, rfl, rfl, rfl, rfl, rfl, rfl, rfl, rfl, rfl, rfl, rfl, rfl, rfl, rfl, rfl, rfl, rfl, rfl, rfl, rfl, rfl, rfl, rfl, rfl, rfl, rfl, rfl, rfl, rfl, rfl, rfl, rfl⟩

@[simp] theorem getGroup_modGroup (d : Dev) (i : Nat) (f : Group → Group) : getGroup (modGroup d i f) i = f (getGroup d i) := nget_nmod_self ..

theorem getGroup_modGroup_ne (d : Dev) {i j : Nat} (f : Group → Group) (h : j ≠ i) : getGroup (modGroup d i f) j = getGroup d j := nget_nmod_ne _ _ _ _ h

@[simp] theorem modInput_frame (d : Dev) (i : Nat) (f : InputSt → InputSt) :
    (modInput d i f).build = d.build ∧ (modInput d i f).now = d.now ∧ (modInput d i f).fresh = d.fresh ∧ (modInput d i f).mode = d.mode ∧ (modInput d i f).pins = d.pins ∧ (modInput d i f).ret = d.ret ∧
    (modInput d i f).rf = d.rf ∧ (modInput d i f).rp = d.rp ∧ (modInput d i f).mp = d.mp ∧ (modInput d i f).spl = d.spl ∧ (modInput d i f).links = d.links ∧ (modInput d i f).statsHeld = d.statsHeld ∧ (modInput d i f).mirrorSent = d.mirrorSent ∧ (modInput d i f).groups = d.groups ∧
    (modInput d i f).cfg = d.cfg ∧ (modInput d i f).chans = d.chans ∧ (modInput d i f).scheds = d.scheds ∧ (modInput d i f).codec = d.codec ∧ (modInput d i f).rrc = d.rrc ∧ (modInput d i f).pgm = d.pgm ∧
    (modInput d i f).xlt = d.xlt ∧ (modInput d i f).cq = d.cq ∧ (modInput d i f).ord = d.ord ∧ (modInput d i f).dma = d.dma ∧ (modInput d i f).hup = d.hup ∧ (modInput d i f).loops = d.loops ∧
    (modInput d i f).adc = d.adc ∧ (modInput d i f).thm = d.thm ∧ (modInput d i f).cal = d.cal ∧ (modInput d i f).mem = d.mem ∧ (modInput d i f).sec = d.sec ∧ (modInput d i f).otp = d.otp ∧
    (modInput d i f).hk = d.hk ∧ (modInput d i f).fij = d.fij ∧ (modInput d i f).ageMin = d.ageMin :=
  ⟨rfl, rfl, rfl, rfl, rfl, rfl, rfl, rfl, rfl, rfl, rfl, rfl, rfl, rfl, rfl, rfl, rfl, rfl, rfl, rfl, rfl, rfl, rfl, rfl, rfl, rfl, rfl, rfl, rfl, rfl, rfl, rfl, rfl, rfl, rfl⟩

@[simp] theorem getInput_modInput (d : Dev) (i : Nat) (f : InputSt → InputSt) : getInput (modInput d i f) i = f (getInput d i) := nget_nmod_self ..

theorem getInput_modInput_ne (d : Dev) {i j : Nat} (f : InputSt → InputSt) (h : j ≠ i) : getInput (modInput d i f) j = getInput d j := nget_nmod_ne _ _ _ _ h

@[simp] theorem setReg_frame (d : Dev) (r : Reg) (i v : Nat) :
    (setReg d r i v).build = d.build ∧ (setReg d r i v).now = d.now ∧ (setReg d r i v).fresh = d.fresh ∧ (setReg d r i v).mode = d.mode ∧ (setReg d r i v).pins = d.pins ∧ (setReg d r i v).inputs = d.inputs ∧
    (setReg d r i v).ret = d.ret ∧ (setReg d r i v).rp = d.rp ∧ (setReg d r i v).mp = d.mp ∧ (setReg d r i v).spl = d.spl ∧ (setReg d r i v).links = d.links ∧ (setReg d r i v).statsHeld = d.statsHeld ∧ (setReg d r i v).mirrorSent = d.mirrorSent ∧ (setReg d r i v).groups = d.groups ∧
    (setReg d r i v).cfg = d.cfg ∧ (setReg d r i v).chans = d.chans ∧ (setReg d r i v).scheds = d.scheds ∧ (setReg d r i v).codec = d.codec ∧ (setReg d r i v).rrc = d.rrc ∧ (setReg d r i v).pgm = d.pgm ∧
    (setReg d r i v).xlt = d.xlt ∧ (setReg d r i v).cq = d.cq ∧ (setReg d r i v).ord = d.ord ∧ (setReg d r i v).dma = d.dma ∧ (setReg d r i v).hup = d.hup ∧ (setReg d r i v).loops = d.loops ∧
    (setReg d r i v).adc = d.adc ∧ (setReg d r i v).thm = d.thm ∧ (setReg d r i v).cal = d.cal ∧ (setReg d r i v).mem = d.mem ∧ (setReg d r i v).sec = d.sec ∧ (setReg d r i v).otp = d.otp ∧
    (setReg d r i v).hk = d.hk ∧ (setReg d r i v).fij = d.fij ∧ (setReg d r i v).ageMin = d.ageMin :=
  ⟨rfl, rfl, rfl, rfl, rfl, rfl, rfl, rfl, rfl, rfl, rfl, rfl, rfl, rfl, rfl, rfl, rfl, rfl, rfl, rfl, rfl, rfl, rfl, rfl, rfl, rfl, rfl, rfl, rfl, rfl, rfl, rfl, rfl, rfl, rfl⟩

@[simp] theorem setF_frame (d : Dev) (x : FRef) (v i : Nat) :
    (setF d x v i).build = d.build ∧ (setF d x v i).now = d.now ∧ (setF d x v i).fresh = d.fresh ∧ (setF d x v i).mode = d.mode ∧ (setF d x v i).pins = d.pins ∧ (setF d x v i).inputs = d.inputs ∧
    (setF d x v i).ret = d.ret ∧ (setF d x v i).rp = d.rp ∧ (setF d x v i).mp = d.mp ∧ (setF d x v i).spl = d.spl ∧ (setF d x v i).links = d.links ∧ (setF d x v i).statsHeld = d.statsHeld ∧ (setF d x v i).mirrorSent = d.mirrorSent ∧ (setF d x v i).groups = d.groups ∧
    (setF d x v i).cfg = d.cfg ∧ (setF d x v i).chans = d.chans ∧ (setF d x v i).scheds = d.scheds ∧ (setF d x v i).codec = d.codec ∧ (setF d x v i).rrc = d.rrc ∧ (setF d x v i).pgm = d.pgm ∧
    (setF d x v i).xlt = d.xlt ∧ (setF d x v i).cq = d.cq ∧ (setF d x v i).ord = d.ord ∧ (setF d x v i).dma = d.dma ∧ (setF d x v i).hup = d.hup ∧ (setF d x v i).loops = d.loops ∧
    (setF d x v i).adc = d.adc ∧ (setF d x v i).thm = d.thm ∧ (setF d x v i).cal = d.cal ∧ (setF d x v i).mem = d.mem ∧ (setF d x v i).sec = d.sec ∧ (setF d x v i).otp = d.otp ∧
    (setF d x v i).hk = d.hk ∧ (setF d x v i).fij = d.fij ∧ (setF d x v i).ageMin = d.ageMin :=
  ⟨rfl, rfl, rfl, rfl, rfl, rfl, rfl, rfl, rfl, rfl, rfl, rfl, rfl, rfl, rfl, rfl, rfl, rfl, rfl, rfl, rfl, rfl, rfl, rfl, rfl, rfl, rfl, rfl, rfl, rfl, rfl, rfl, rfl, rfl, rfl⟩

@[simp] theorem bump_frame (d : Dev) (x : FRef) (i n : Nat) :
    (bump d x i n).build = d.build ∧ (bump d x i n).now = d.now ∧ (bump d x i n).fresh = d.fresh ∧ (bump d x i n).mode = d.mode ∧ (bump d x i n).pins = d.pins ∧ (bump d x i n).inputs = d.inputs ∧
    (bump d x i n).ret = d.ret ∧ (bump d x i n).rp = d.rp ∧ (bump d x i n).mp = d.mp ∧ (bump d x i n).spl = d.spl ∧ (bump d x i n).links = d.links ∧ (bump d x i n).statsHeld = d.statsHeld ∧ (bump d x i n).mirrorSent = d.mirrorSent ∧ (bump d x i n).groups = d.groups ∧
    (bump d x i n).cfg = d.cfg ∧ (bump d x i n).chans = d.chans ∧ (bump d x i n).scheds = d.scheds ∧ (bump d x i n).codec = d.codec ∧ (bump d x i n).rrc = d.rrc ∧ (bump d x i n).pgm = d.pgm ∧
    (bump d x i n).xlt = d.xlt ∧ (bump d x i n).cq = d.cq ∧ (bump d x i n).ord = d.ord ∧ (bump d x i n).dma = d.dma ∧ (bump d x i n).hup = d.hup ∧ (bump d x i n).loops = d.loops ∧
    (bump d x i n).adc = d.adc ∧ (bump d x i n).thm = d.thm ∧ (bump d x i n).cal = d.cal ∧ (bump d x i n).mem = d.mem ∧ (bump d x i n).sec = d.sec ∧ (bump d x i n).otp = d.otp ∧
    (bump d x i n).hk = d.hk ∧ (bump d x i n).fij = d.fij ∧ (bump d x i n).ageMin = d.ageMin :=
  ⟨rfl, rfl, rfl, rfl, rfl, rfl, rfl, rfl, rfl, rfl, rfl, rfl, rfl, rfl, rfl, rfl, rfl, rfl, rfl, rfl, rfl, rfl, rfl, rfl, rfl, rfl, rfl, rfl, rfl, rfl, rfl, rfl, rfl, rfl, rfl⟩

@[simp] theorem peak_frame (d : Dev) (x : FRef) (v i : Nat) :
    (peak d x v i).build = d.build ∧ (peak d x v i).now = d.now ∧ (peak d x v i).fresh = d.fresh ∧ (peak d x v i).mode = d.mode ∧ (peak d x v i).pins = d.pins ∧ (peak d x v i).inputs = d.inputs ∧
    (peak d x v i).ret = d.ret ∧ (peak d x v i).rp = d.rp ∧ (peak d x v i).mp = d.mp ∧ (peak d x v i).spl = d.spl ∧ (peak d x v i).links = d.links ∧ (peak d x v i).statsHeld = d.statsHeld ∧ (peak d x v i).mirrorSent = d.mirrorSent ∧ (peak d x v i).groups = d.groups ∧
    (peak d x v i).cfg = d.cfg ∧ (peak d x v i).chans = d.chans ∧ (peak d x v i).scheds = d.scheds ∧ (peak d x v i).codec = d.codec ∧ (peak d x v i).rrc = d.rrc ∧ (peak d x v i).pgm = d.pgm ∧
    (peak d x v i).xlt = d.xlt ∧ (peak d x v i).cq = d.cq ∧ (peak d x v i).ord = d.ord ∧ (peak d x v i).dma = d.dma ∧ (peak d x v i).hup = d.hup ∧ (peak d x v i).loops = d.loops ∧
    (peak d x v i).adc = d.adc ∧ (peak d x v i).thm = d.thm ∧ (peak d x v i).cal = d.cal ∧ (peak d x v i).mem = d.mem ∧ (peak d x v i).sec = d.sec ∧ (peak d x v i).otp = d.otp ∧
    (peak d x v i).hk = d.hk ∧ (peak d x v i).fij = d.fij ∧ (peak d x v i).ageMin = d.ageMin :=
  ⟨rfl, rfl, rfl, rfl, rfl, rfl, rfl, rfl, rfl, rfl, rfl, rfl, rfl, rfl, rfl, rfl, rfl, rfl, rfl, rfl, rfl, rfl, rfl, rfl, rfl, rfl, rfl, rfl, rfl, rfl, rfl, rfl, rfl, rfl, rfl⟩

/-! ### The frame of every command -/

@[simp] theorem commandFrame_build (g : Dev → Dev) (d : Dev) : (commandFrame g d).build = d.build := rfl

@[simp] theorem commandFrame_now (g : Dev → Dev) (d : Dev) : (commandFrame g d).now = d.now := rfl

@[simp] theorem commandFrame_fields (g : Dev → Dev) (d : Dev) :
    (commandFrame g d).fresh = (g d).fresh ∧ (commandFrame g d).mode = (g d).mode ∧ (commandFrame g d).pins = (g d).pins ∧ (commandFrame g d).inputs = (g d).inputs ∧
    (commandFrame g d).ret = (g d).ret ∧ (commandFrame g d).rf = (g d).rf ∧ (commandFrame g d).rp = (g d).rp ∧ (commandFrame g d).mp = (g d).mp ∧
    (commandFrame g d).spl = (g d).spl ∧ (commandFrame g d).links = (g d).links ∧ (commandFrame g d).statsHeld = (g d).statsHeld ∧ (commandFrame g d).mirrorSent = (g d).mirrorSent ∧ (commandFrame g d).groups = (g d).groups ∧ (commandFrame g d).cfg = (g d).cfg ∧
    (commandFrame g d).chans = (g d).chans ∧ (commandFrame g d).scheds = (g d).scheds ∧ (commandFrame g d).codec = (g d).codec ∧ (commandFrame g d).rrc = (g d).rrc ∧
    (commandFrame g d).pgm = (g d).pgm ∧ (commandFrame g d).xlt = (g d).xlt ∧ (commandFrame g d).cq = (g d).cq ∧ (commandFrame g d).ord = (g d).ord ∧
    (commandFrame g d).dma = (g d).dma ∧ (commandFrame g d).hup = (g d).hup ∧ (commandFrame g d).loops = (g d).loops ∧ (commandFrame g d).adc = (g d).adc ∧
    (commandFrame g d).thm = (g d).thm ∧ (commandFrame g d).cal = (g d).cal ∧ (commandFrame g d).mem = (g d).mem ∧ (commandFrame g d).sec = (g d).sec ∧
    (commandFrame g d).otp = (g d).otp ∧ (commandFrame g d).hk = (g d).hk ∧ (commandFrame g d).fij = (g d).fij ∧ (commandFrame g d).ageMin = (g d).ageMin :=
  ⟨rfl, rfl, rfl, rfl, rfl, rfl, rfl, rfl, rfl, rfl, rfl, rfl, rfl, rfl, rfl, rfl, rfl, rfl, rfl, rfl, rfl, rfl, rfl, rfl, rfl, rfl, rfl, rfl, rfl, rfl, rfl, rfl, rfl, rfl⟩

/-- Every meaning is a change of everything but the queue: the machine goes on, and the queue is what it was. -/
theorem onDev_next (f : Dev → Dev) (s : State) : ∃ t, onDev f s = .next t ∧ t.pending = s.pending ∧ t.dev = commandFrame f s.dev :=
  ⟨_, rfl, rfl, rfl⟩

/-- Two changes that agree on the state agree as meanings. -/
theorem onDev_congr (f g : Dev → Dev) (s : State) (h : f s.dev = g s.dev) : onDev f s = onDev g s := by
  simp only [onDev, commandFrame, h]

/-- A meaning that changes nothing. -/
theorem onDev_id (f : Dev → Dev) (s : State) (h : f s.dev = s.dev) : onDev f s = .next s := by
  simp only [onDev, commandFrame, h]

end Sys2Proof.Machine
end

