-- ==== Sys2Proof/Laws/Regs.lean ====
section
/-! SUPPORT. Laws/Regs.lean: reading a register or a field after a register or a field has been written. -/

namespace Sys2Proof.Machine

open Sys2Proof

@[simp] theorem getReg_setReg (d : Dev) (r : Reg) (i v : Nat) : getReg (setReg d r i v) r i = v % 2 ^ 32 := by
  simp [getReg, setReg, BitVec.toNat_ofNat]

theorem getReg_setReg_ne (d : Dev) {r r' : Reg} {i i' : Nat} (v : Nat) (h : regOff r' i' ≠ regOff r i) :
    getReg (setReg d r i v) r' i' = getReg d r' i' := by
  simp only [getReg, setReg, nget_nset_ne _ _ _ _ h]

/-- A register is read from the register file and the build alone. -/
theorem getReg_congr {d e : Dev} (hr : d.rf = e.rf) (hb : d.build = e.build) (r : Reg) (i : Nat) : getReg d r i = getReg e r i := by
  simp only [getReg, hr, hb]

theorem getF_congr {d e : Dev} (hr : d.rf = e.rf) (hb : d.build = e.build) (f : FRef) (i : Nat) : getF d f i = getF e f i := by
  simp only [getF, getReg_congr hr hb]

/-- A number with bits [hi:lo] replaced, part by part. -/
theorem nput_bits_eq (n hi lo v : Nat) :
    nput_bits n hi lo v =
      (n / 2 ^ lo / 2 ^ (hi - lo + 1) * 2 ^ (hi - lo + 1) + v % 2 ^ (hi - lo + 1)) * 2 ^ lo + n % 2 ^ lo := by
  unfold nput_bits nbits
  generalize 2 ^ (hi - lo + 1) = q
  generalize 2 ^ lo = p
  have h1 := Nat.div_add_mod n p
  have h2 := Nat.div_add_mod (n / p) q
  have h3 : n = (n / p / q * q) * p + (n / p % q) * p + n % p := by
    rw [← Nat.add_mul, Nat.mul_comm _ q, h2, Nat.mul_comm _ p, h1]
  rw [Nat.add_mul]
  generalize (n / p / q * q) * p = x at *
  generalize (n / p % q) * p = y at *
  generalize n % p = z at *
  omega

/-- The new value of bits [hi:lo]. -/
@[simp] theorem nbits_nput_bits (n hi lo v : Nat) : nbits (nput_bits n hi lo v) hi lo = v % 2 ^ (hi - lo + 1) := by
  rw [nput_bits_eq, nbits, Nat.mul_comm _ (2 ^ lo), Nat.mul_add_div (Nat.two_pow_pos lo),
    Nat.div_eq_of_lt (Nat.mod_lt _ (Nat.two_pow_pos lo)), Nat.add_zero, Nat.mul_add_mod_self_right, Nat.mod_mod]

/-- Bits above those replaced keep their value. -/
theorem nbits_nput_bits_above (n hi lo hi' lo' v : Nat) (h : lo ≤ hi) (h1 : hi < lo') :
    nbits (nput_bits n hi lo v) hi' lo' = nbits n hi' lo' := by
  have e : ∀ m, m / 2 ^ lo' = m / 2 ^ (hi + 1) / 2 ^ (lo' - (hi + 1)) := fun m => by
    rw [Nat.div_div_eq_div_mul, ← Nat.pow_add]; congr 2; omega
  have f : nput_bits n hi lo v / 2 ^ (hi + 1) = n / 2 ^ (hi + 1) := by
    have hp : 2 ^ (hi + 1) = 2 ^ lo * 2 ^ (hi - lo + 1) := by rw [← Nat.pow_add]; congr 1; omega
    rw [hp, ← Nat.div_div_eq_div_mul, ← Nat.div_div_eq_div_mul, nput_bits_eq, Nat.mul_comm _ (2 ^ lo),
      Nat.mul_add_div (Nat.two_pow_pos lo), Nat.div_eq_of_lt (Nat.mod_lt _ (Nat.two_pow_pos lo)), Nat.add_zero,
      Nat.mul_comm _ (2 ^ (hi - lo + 1)), Nat.mul_add_div (Nat.two_pow_pos _), Nat.div_eq_of_lt (Nat.mod_lt _ (Nat.two_pow_pos _)),
      Nat.add_zero]
  simp only [nbits]
  rw [e, f, ← e]

/-- Bits below those replaced keep their value. -/
theorem nbits_nput_bits_below (n hi lo hi' lo' v : Nat) (h' : lo' ≤ hi') (h1 : hi' < lo) :
    nbits (nput_bits n hi lo v) hi' lo' = nbits n hi' lo' := by
  have e : ∀ m, m / 2 ^ lo' % 2 ^ (hi' - lo' + 1) = m % 2 ^ (hi' + 1) / 2 ^ lo' := fun m => by
    have hp : 2 ^ (hi' + 1) = 2 ^ lo' * 2 ^ (hi' - lo' + 1) := by rw [← Nat.pow_add]; congr 1; omega
    rw [hp, Nat.mod_mul_right_div_self]
  have f : nput_bits n hi lo v % 2 ^ (hi' + 1) = n % 2 ^ (hi' + 1) := by
    have hd : 2 ^ (hi' + 1) ∣ 2 ^ lo := Nat.pow_dvd_pow 2 (by omega)
    rw [nput_bits_eq, Nat.add_mod, Nat.mod_eq_zero_of_dvd (Nat.dvd_trans hd (Nat.dvd_mul_left _ _)), Nat.zero_add, Nat.mod_mod,
      Nat.mod_mod_of_dvd _ hd]
  simp only [nbits, e, f]

theorem nput_bits_lt (n hi lo v : Nat) (h : lo ≤ hi) (hh : hi < 32) (hn : n < 2 ^ 32) : nput_bits n hi lo v < 2 ^ 32 := by
  have f : nput_bits n hi lo v / 2 ^ (hi + 1) = n / 2 ^ (hi + 1) := by
    have hp : 2 ^ (hi + 1) = 2 ^ lo * 2 ^ (hi - lo + 1) := by rw [← Nat.pow_add]; congr 1; omega
    rw [hp, ← Nat.div_div_eq_div_mul, ← Nat.div_div_eq_div_mul, nput_bits_eq, Nat.mul_comm _ (2 ^ lo),
      Nat.mul_add_div (Nat.two_pow_pos lo), Nat.div_eq_of_lt (Nat.mod_lt _ (Nat.two_pow_pos lo)), Nat.add_zero,
      Nat.mul_comm _ (2 ^ (hi - lo + 1)), Nat.mul_add_div (Nat.two_pow_pos _), Nat.div_eq_of_lt (Nat.mod_lt _ (Nat.two_pow_pos _)),
      Nat.add_zero]
  have hp : 2 ^ 32 = 2 ^ (hi + 1) * 2 ^ (32 - (hi + 1)) := by rw [← Nat.pow_add]; congr 1; omega
  rw [hp] at hn ⊢
  have h1 := Nat.div_lt_of_lt_mul hn
  rw [← f] at h1
  rw [Nat.mul_comm]
  exact (Nat.div_lt_iff_lt_mul (Nat.two_pow_pos _)).1 h1

theorem getReg_lt (d : Dev) (r : Reg) (i : Nat) : getReg d r i < 2 ^ 32 := BitVec.isLt _

/-- A field set is what is read, where it lies in the register's 32 bits. -/
theorem getF_setF_self (d : Dev) (f : FRef) (v i : Nat) (h : f.lo ≤ f.hi) (hh : f.hi < 32) :
    getF (setF d f v i) f i = v % 2 ^ (f.hi - f.lo + 1) := by
  simp only [getF, setF, getReg_setReg, Nat.mod_eq_of_lt (nput_bits_lt _ _ _ _ h hh (getReg_lt ..)), nbits_nput_bits]

/-- A field of another register, or of another instance, keeps its value. -/
theorem getF_setF_ne (d : Dev) {f g : FRef} {i j : Nat} (v : Nat) (h : regOff g.reg j ≠ regOff f.reg i) :
    getF (setF d f v i) g j = getF d g j := by
  simp only [getF, setF, getReg_setReg_ne _ _ h]

/-- Another field of the same register keeps its value. -/
theorem getF_setF_field (d : Dev) {f g : FRef} (v i : Nat) (hr : g.reg = f.reg) (h : f.lo ≤ f.hi) (hh : f.hi < 32) (h' : g.lo ≤ g.hi)
    (hd : f.hi < g.lo ∨ g.hi < f.lo) : getF (setF d f v i) g i = getF d g i := by
  obtain ⟨r, hi, lo⟩ := f
  obtain ⟨r', hi', lo'⟩ := g
  simp only at hr h hh h' hd
  subst hr
  simp only [getF, setF, getReg_setReg, Nat.mod_eq_of_lt (nput_bits_lt _ _ _ _ h hh (getReg_lt ..))]
  rcases hd with hd | hd
  · exact nbits_nput_bits_above _ _ _ _ _ _ h hd
  · exact nbits_nput_bits_below _ _ _ _ _ _ h' hd

end Sys2Proof.Machine
end

