-- ==== Sys2Proof/Laws/Steps.lean ====
section
/-! SUPPORT. Laws/Steps.lean: what the operations that many meanings share do on the states that the statements speak of: a message that
arrives in order, a cycle of a sequencer, a step of a record, the start of a command. -/

namespace Sys2Proof.Machine

open Sys2Proof Sys2Proof.Safety

/-- A message that arrives in order is accepted, and then applied (R15). -/
theorem deliver_arrives {d : Dev} {g st : Nat} {m : Msg} {want : MsgBody → Bool} {apply : MsgBody → Dev → Dev}
    (h : Arrives d g st m) (hw : want m.body = true) :
    deliver g st m.seq (msgCrc st m) want apply d = apply m.body (accepted g st m d) := by
  obtain ⟨hl, hf, hs, h1, h2, h3⟩ := h
  simp only [deliver, hf, hl, hw, h1, h2, h3]
  simp [hs, accepted, getStream, modStream]

/-- A cycle of a channel's sequencer runs the microword at the routine's PC where its operation is the one that is asked for. -/
theorem microDev_fetches {d : Dev} {c op r : Nat} {x : Rec} {w : Nat} {f : Nat → Rec → Nat → Dev → Dev} (h : Fetches d c op r x w) :
    microDev c op f d = f r x w (cycleCount c d) := by
  obtain ⟨hl, hr, hx, hp, hb, hg, hc, hw, hs, hi, ho⟩ := h
  have h1 : seqCycle d c = some (r, x) := by simp [seqCycle, hl, hr, hx]
  have h2 : (decide (8192 ≤ x.words) && decide (op ≠ 0x11 ∧ op ≠ 0x13)) = false := by
    rcases hw with h | h | h
    · simp [Nat.not_le.mpr h]
    · simp [h]
    · simp [h]
  simp only [microDev, h1, hp, hb, hg, hc, hs, hi, ho, h2, Bool.not_true, Bool.or_self, Bool.false_eq_true, if_false, if_true]

/-- Everything that a change of one record leaves alone. -/
theorem modRec_other (d : Dev) (c r : Nat) (f : Rec → Rec) : ∃ g : Chan → Chan, modRec d c r f = modChan d c g ∧
    (∀ h, (g h).bus = h.bus ∧ (g h).wire = h.wire ∧ (g h).phy = h.phy ∧ (g h).rbHigh = h.rbHigh ∧ (g h).running = h.running ∧
      (g h).wordCount = h.wordCount ∧ (g h).patchMap = h.patchMap ∧ (g h).patchRam = h.patchRam ∧ (g h).up = h.up ∧
      ∀ q, q ≠ r → nfind (g h).recs q = nfind h.recs q) := by
  refine ⟨_, rfl, fun h => ?_⟩
  split
  · exact ⟨rfl, rfl, rfl, rfl, rfl, rfl, rfl, rfl, rfl, fun q hq => by simp [nfind_nput, hq]⟩
  · exact ⟨rfl, rfl, rfl, rfl, rfl, rfl, rfl, rfl, rfl, fun _ _ => rfl⟩

/-- The record that a change of one record leaves. -/
@[simp] theorem getRec_modRec (d : Dev) (c r : Nat) (f : Rec → Rec) : getRec (modRec d c r f) c r = (getRec d c r).map f := by
  unfold getRec modRec
  rw [getChan_modChan]
  split <;> rename_i h <;> simp [h, nfind_nput]

/-- A change of one record leaves every other record. -/
theorem getRec_modRec_ne (d : Dev) (c : Nat) {r q : Nat} (f : Rec → Rec) (h : q ≠ r) : getRec (modRec d c r f) c q = getRec d c q := by
  obtain ⟨g, hg, hh⟩ := modRec_other d c r f
  unfold getRec
  rw [hg, getChan_modChan]
  exact (hh _).2.2.2.2.2.2.2.2.2 q h

/-- Where the routine's next address can be fetched, a data micro-operation leaves the record changed and at PC + 1, and of the
rest of the block changes its channel's records and the PC that its register shows (R119). -/
theorem setRec_legal {d : Dev} {c r : Nat} {x : Rec} {f : Rec → Rec} (hx : getRec d c r = some x) (hp : x.pc < 0xFFF ∨ 0x1000 ≤ x.pc)
    (hm : x.pc < 0x1400) (hl : pcLegal (getChan d c) (x.pc + 1) = true) :
    (∀ l, { setRec c r x f d with chans := l } = { d with chans := l }) ∧
      getRec (setRec c r x f d) c r = some { f x with words := (f x).words + 1, pc := x.pc + 1, badStep := false } ∧
      (∀ q, q ≠ r → getRec (setRec c r x f d) c q = getRec d c q) ∧
      (getChan (setRec c r x f d) c).bus = (getChan d c).bus ∧ (getChan (setRec c r x f d) c).wire = (getChan d c).wire ∧
      (getChan (setRec c r x f d) c).phy = (getChan d c).phy ∧ (getChan (setRec c r x f d) c).rbHigh = (getChan d c).rbHigh ∧
      (getChan (setRec c r x f d) c).running = (getChan d c).running := by
  have hn : (decide (x.pc = 0xFFF)) = false := by simp; omega
  have h8 : (x.pc + 1) % 8192 = x.pc + 1 := by omega
  have e0 : setRec c r x f d = goTo c r (x.pc + 1) false (modRec (modRec d c r f) c r fun y => { y with words := y.words + 1 }) := by
    simp only [setRec, nextPc, countWord, hn]
  obtain ⟨g1, e1, p1⟩ := modRec_other d c r f
  obtain ⟨g2, e2, p2⟩ := modRec_other (modRec d c r f) c r fun y => { y with words := y.words + 1 }
  have hl2 : pcLegal (getChan (modRec (modRec d c r f) c r fun y => { y with words := y.words + 1 }) c) (x.pc + 1) = true := by
    rw [e2, getChan_modChan, e1, getChan_modChan]
    simpa [pcLegal, (p2 _).2.2.2.2.2.1, (p1 _).2.2.2.2.2.1] using hl
  obtain ⟨g3, e3, p3⟩ := modRec_other (modRec (modRec d c r f) c r fun y => { y with words := y.words + 1 }) c r
    fun y => { y with pc := x.pc + 1, badStep := false }
  have hs : setRec c r x f d = modChan (modRec (modRec (modRec d c r f) c r fun y => { y with words := y.words + 1 }) c r
      fun y => { y with pc := x.pc + 1, badStep := false }) c fun h => { h with pc := x.pc + 1 } := by
    simp [e0, goTo, hl2, h8]
  have hr : ∀ q, getRec (setRec c r x f d) c q = getRec (modRec (modRec (modRec d c r f) c r fun y => { y with words := y.words + 1 }) c r
      fun y => { y with pc := x.pc + 1, badStep := false }) c q := by
    intro q
    rw [hs]
    unfold getRec
    rw [getChan_modChan]
  have hc : getChan (setRec c r x f d) c = { g3 (g2 (g1 (getChan d c))) with pc := x.pc + 1 } := by
    rw [hs, getChan_modChan, e3, getChan_modChan, e2, getChan_modChan, e1, getChan_modChan]
  have hk : ∀ (e : Dev) (g : Chan → Chan) l, { modChan e c g with chans := l } = { e with chans := l } := fun _ _ _ => rfl
  refine ⟨fun l => ?_, ?_, ?_, ?_⟩
  · rw [hs, hk, e3, hk, e2, hk, e1, hk]
  · rw [hr, getRec_modRec, getRec_modRec, getRec_modRec, hx]
    rfl
  · intro q hq
    rw [hr, getRec_modRec_ne _ _ _ hq, getRec_modRec_ne _ _ _ hq, getRec_modRec_ne _ _ _ hq]
  · rw [hc]
    simp [(p1 _).1, (p2 _).1, (p3 _).1, (p1 _).2.1, (p2 _).2.1, (p3 _).2.1, (p1 _).2.2.1, (p2 _).2.2.1, (p3 _).2.2.1, (p1 _).2.2.2.1,
      (p2 _).2.2.2.1, (p3 _).2.2.2.1, (p1 _).2.2.2.2.1, (p2 _).2.2.2.2.1, (p3 _).2.2.2.2.1]

end Sys2Proof.Machine
end

