-- ==== Sys2Proof/Tests/Slice0.lean ====
section
/-! SUPPORT. Tests/Slice0.lean: worked examples of the manual; a term that each check of WellFormed.lean refuses; and for each statement
with hypotheses a concrete state and operands that meet those of each of its clauses. -/

namespace Sys2Proof.Tests

open Sys2Proof Sys2Proof.Machine Sys2Proof.Safety

set_option Elab.async false

/-! ### Small states -/

/-- The state of the block d with no command waiting. -/
def st (d : Dev) : State := { dev := d }

/-- The block in mode m, its media state restored, and group 0 powered. -/
def dev (m : Mode) : Dev := { mode := { mode := m, restored := true }, groups := [(0, { stage := .on })] }

def warm : State := st (dev .warm)
def serve : State := st (dev .serve)
def standby : State := st (dev .standby)
def inHoldup : State := st (dev .holdup)

/-! ### Witnesses: resets, inputs, power failure -/

/-- PO_RST_n low. -/
def poLow : State := st { mode := { mode := .off }, pins := { poHigh := false } }
/-- SYS_RST_n low, in effect. -/
def sysLow : State := st { mode := { mode := .warm }, pins := { sysHigh := false } }
/-- A HOLDUP sequence runs, SYS_RST_n high; and low with the reset noted, the sequence over. -/
def hupRuns : State := st { dev .holdup with hup := { running := true } }
def sysNoted : State := st { dev .holdup with pins := { sysHigh := false, sysPending := true } }

theorem wit_ResetPins :
    (warm.dev.pins.poHigh = true) ∧ (poLow.dev.pins.poHigh = false) ∧
    (warm.dev.pins.sysHigh = true ∧ warm.dev.pins.poHigh = true ∧ warm.dev.pins.sysPending = false ∧ warm.dev.hup.running = false) ∧
    (sysLow.dev.pins.sysHigh = false ∧ sysLow.dev.pins.poHigh = true ∧ sysLow.dev.pins.sysPending = false) := by decide

theorem wit_SysResetIsHeldPendingInHoldup :
    (hupRuns.dev.pins.sysHigh = true ∧ hupRuns.dev.pins.poHigh = true ∧ hupRuns.dev.hup.running = true) ∧
    (sysNoted.dev.pins.poHigh = true ∧ sysNoted.dev.pins.sysPending = true ∧ sysNoted.dev.hup.running = false ∧
      sysNoted.dev.pins.sysHigh = false) := by decide

/-- An input whose FILTER has not yet run out. -/
def unfiltered (i : Nat) : State := st { dev .warm with inputs := [(i, { filterFrom := 100 })] }

/-- An edge of EPOCH_SYNC was counted at time 0; the time is t. -/
def edgeAt (t : Nat) : State := st { dev .warm with now := t, inputs := [(3, { lastAct := some 0 })] }
/-- The same while nothing has been restored, so that the SoC side applies no edges. -/
def edgeEarly (t : Nat) : State := st { dev .loading with now := t, mode := { mode := .loading }, inputs := [(3, { lastAct := some 0 })] }

/-- REARM of EPOCH_SYNC is 10 µs, 40 ticks: the edge counts at tick 40 and is dropped at tick 39. -/
theorem wit_EpochEdgesCountAfterRearm :
    ((edgeAt 40).dev.pins.poHigh = true ∧ filterMay (edgeAt 40).dev 3 = true ∧ (getInput (edgeAt 40).dev 3).masked = false ∧ edgesLive (edgeAt 40).dev = true ∧
      (getInput (edgeAt 40).dev 3).lastAct = some 0 ∧ 0 + rearm (edgeAt 40).dev 3 ≤ (edgeAt 40).dev.now) ∧
    ((edgeEarly 40).dev.pins.poHigh = true ∧ filterMay (edgeEarly 40).dev 3 = true ∧ (getInput (edgeEarly 40).dev 3).masked = false ∧ edgesLive (edgeEarly 40).dev = false ∧
      (getInput (edgeEarly 40).dev 3).lastAct = some 0 ∧ 0 + rearm (edgeEarly 40).dev 3 ≤ (edgeEarly 40).dev.now) ∧
    ((edgeAt 39).dev.pins.poHigh = true ∧ filterMay (edgeAt 39).dev 3 = true ∧ (getInput (edgeAt 39).dev 3).lastAct = some 0 ∧
      (edgeAt 39).dev.now < 0 + rearm (edgeAt 39).dev 3) ∧ filterMay (unfiltered 3).dev 3 = false := by decide

/-- Inputs 2 and 4 deasserted since tick 0 after an assertion; the time is t. -/
def levelAt (t : Nat) : State := st { dev .warm with now := t, inputs := [(2, { lastAct := some 0 }), (4, { lastAct := some 0 })] }

/-- REARM of BURST_WARN and of STAGE_FAULT_n is 100 µs, 400 ticks. -/
theorem wit_LevelInputsActAfterRearm :
    (∀ i ∈ [2, 4], running (levelAt 400).dev = true ∧ (levelAt 400).dev.pins.poHigh = true ∧ filterMay (levelAt 400).dev i = true ∧ (getInput (levelAt 400).dev i).asserted = false ∧
      (getInput (levelAt 400).dev i).masked = false ∧
      (getInput (levelAt 400).dev i).since + rearm (levelAt 400).dev i ≤ (levelAt 400).dev.now) ∧
    (∀ i ∈ [2, 4], filterMay (levelAt 399).dev i = true ∧ (getInput (levelAt 399).dev i).asserted = false ∧ (getInput (levelAt 399).dev i).lastAct = some 0 ∧
      (levelAt 399).dev.now < (getInput (levelAt 399).dev i).since + rearm (levelAt 399).dev i) ∧
    (getInput ({ inputs := [(2, { asserted := true, ignored := true })] } : Dev) 2).ignored = true := by decide

/-- The block in mode m, long enough after its filters began to count. -/
def later (m : Mode) : State := st { dev m with now := 100000 }

/-- Inputs 2 and 4 asserted. -/
def levelOn : State := st { dev .warm with now := 100000, inputs := [(2, { asserted := true }), (4, { asserted := true })] }

theorem wit_ConditionedInputs :
    (∀ i ∈ [2, 4], levelOn.dev.pins.poHigh = true ∧ filterMay levelOn.dev i = true ∧ inputOn levelOn.dev i = true ∧ (getInput levelOn.dev i).asserted = true ∧ (getInput levelOn.dev i).masked = false) ∧
    getF levelOn.dev F.pwrIncfg_STUCK_T 2 ≠ 0 ∧ (getInput warm.dev 2).asserted = false ∧ (getInput warm.dev 4).asserted = false ∧
    (socUp (later .warm).dev = true ∧ filterMay (later .warm).dev (5 + 7) = true ∧
      (later .warm).dev.now < nget 0 (later .warm).dev.thm.countFrom 7 + ms 1000) := by decide

theorem wit_PowerFailureEntersHoldup :
    (∀ i ∈ [0, 1], running (later .warm).dev = true ∧ filterMay (later .warm).dev i = true ∧ (later .warm).dev.mode.mode ≠ .holdup) ∧
    (∀ i ∈ [0, 1], running (later .holdup).dev = true ∧ filterMay (later .holdup).dev i = true ∧ (later .holdup).dev.mode.mode = .holdup) ∧
    (∀ i ∈ [0, 1], filterMay (unfiltered i).dev i = false) := by decide

/-! ### Witnesses: the ports -/

/-- Channel 8's group, 1, is off; PRM_HK_THROTTLE, word 0x26001, has no side effect; the word at
 0x7FFFF of channel 63's window holds no register. -/
theorem wit_RegisterPort :
    (portReady warm.dev = true ∧ inSysReset warm.dev = false ∧ warm.dev.mode.mode ≠ .dormant) ∧
    (windowOf (8 * 0) = .soc ∧ windowOf (8 * 0x2DFFF) = .soc ∧ windowOf (8 * 0x2E000) = .none) ∧
    (windowOf (8 * 0x40000) = .chan 0 ∧ linkUp warm.dev (groupOf 0) = true ∧
      ((pairOffs 0x40000 1#2).all fun p => (regAt p.1).isNone) = false) ∧
    (windowOf (8 * 0x7FFFF) = .chan 63 ∧ ((pairOffs 0x7FFFF 3#2).all fun p => (regAt p.1).isNone) = true) ∧
    (windowOf (8 * 0x7F000) = .chan 63 ∧ 63 < warm.dev.build.channels ∧ linkUp warm.dev (groupOf 63) = false ∧
      ((pairOffs 0x7F000 1#2).all fun p => (regAt p.1).isNone) = false) ∧
    (windowOf (8 * 0x26001) = .soc ∧ regAt (8 * 0x26001) = some (.hkThrottle, 0) ∧ isMirrorRw (8 * 0x26001) = false ∧
      regWrite .hkThrottle 0 1 warm.dev = plainWrite .hkThrottle 0 1 warm.dev) ∧
    (portReady sysLow.dev = true ∧ inSysReset sysLow.dev = true ∧ ((pairOffs 0x40000 1#2).any fun p => !aoReadable p.1) = true) ∧
    portReady poLow.dev = false := by decide

/-- Port 0 holds a read of two beats under tag 3, port 4 a write under tag 5, both of purpose 9. -/
def asked (r : Req) (k : PurpKind := .work) : State :=
  st { dev .warm with mp := { ports := [(0, { out := [(3, { r with purp := 9 })] }), (4, { out := [(5, { r with purp := 9, write := true })] })], purps := [(9, { kind := k, reqs := 1 })] } }

/-- Port 7 with one flit of one request waiting for a credit; and port 7 withdrawn. -/
def sending : State := st { dev .warm with mp := { ports := [(7, { sendq := [{ flits := [{}] }] })] } }
def gone : State := st { dev .warm with mp := { ports := [(7, { withdrawn := true })] } }

theorem wit_MemoryPortAnswers :
    (running warm.dev = true ∧ (getPort warm.dev 7).withdrawn = false ∧ warm.dev.mp.wait = [] ∧ (getPort warm.dev 7).sendq = []) ∧
    ((getPort sending.dev 7).withdrawn = false ∧ sending.dev.mp.wait = [] ∧ (getPort sending.dev 7).sendq = [{ flits := [{}] }] ∧
      (getPort sending.dev 7).credits = 0) ∧
    ((getPort gone.dev 7).withdrawn = true ∧ (getPort gone.dev 7).sendq = [] ∧ gone.dev.mp.wait = []) ∧
    (reqOf (asked { beats := 2 }).dev 0 3 0 = some { beats := 2, purp := 9 } ∧ ({ beats := 2, purp := 9 } : Req).inj = false ∧ 0 + 1 < 2) ∧
    (reqOf (asked { beats := 2, nextBeat := 1 }).dev 0 3 0 = some { beats := 2, nextBeat := 1, purp := 9 } ∧ 1 + 1 = 2) ∧
    (reqOf (asked {} .capsule).dev 0 3 0 = some { purp := 9 } ∧ getPurp (asked {} .capsule).dev 9 = some { kind := .capsule, reqs := 1 }) ∧
    (reqOf (asked {}).dev (0 + 4) 5 0 = some { write := true, purp := 9 }) ∧
    (reqOf (asked {} (.restore 0)).dev (0 + 4) 5 0 = some { write := true, purp := 9 } ∧
      getPurp (asked {} (.restore 0)).dev 9 = some { kind := .restore 0, reqs := 1 }) ∧
    (reqOf (asked {}).dev 0 3 1 = none) := by decide

/-- A purpose that has failed and has no request left; and port 7 under PDREQ. -/
def failed (k : PurpKind) : State := st { dev .warm with mp := { purps := [(1, { kind := k, failed := true })] } }
def drawn (ack : Bool) : State := st { dev .warm with mp := { ports := [(7, { pdreq := true, pdack := ack })] } }

theorem wit_MemoryPortFailuresAndWithdrawal :
    (running (asked {}).dev = true ∧ reqOf (asked {}).dev 0 3 0 = some { purp := 9 } ∧ 1 ≠ ({ purp := 9 } : Req).nextBeat) ∧
    (nfind (getPort (asked {}).dev 0).out 3 = some { purp := 9 } ∧ ({ purp := 9 } : Req).again = false ∧ ({ purp := 9 } : Req).cls ≠ 0 ∧
      ({ purp := 9 } : Req).reissues < getF (asked {}).dev F.glbMpCfg_RETRY_MAX) ∧
    (nfind (getPort (asked { again := true }).dev 0).out 3 = some { again := true, purp := 9 } ∧ (getPort (asked { again := true }).dev 0).pdreq = false ∧
      (getPort (asked { again := true }).dev 0).withdrawn = false) ∧
    (getPurp (failed .work).dev 1 = some { kind := .work, failed := true } ∧ running (failed .work).dev = true) ∧
    (getPurp (failed .capsule).dev 1 = some { kind := .capsule, failed := true } ∧ running (failed .capsule).dev = true) ∧
    ((getPort warm.dev 7).pdreq = false) ∧
    ((getPort (drawn false).dev 7).pdreq = true ∧ (getPort (drawn false).dev 7).pdack = false ∧ (getPort (drawn false).dev 7).out = [] ∧
      (getPort (drawn false).dev 7).sendq = []) ∧
    ((getPort (drawn true).dev 7).pdreq = true ∧ (getPort (drawn true).dev 7).pdack = true ∧ (drawn true).dev.mp.wait = []) := by decide

/-- Context 63 a paced STREAM context that is enabled, with n requests pending. -/
def paced (n : Nat) : State := st { setF (setF (setF (dev .warm) F.dmaCtxcfg_EN 1 63) F.dmaCtxcfg_KIND 1 63) F.dmaCtxcfg_PACE 1 63 with dma := { ctxs := [(63, { pend := n })] } }
/-- HOLDUP with the spindle braking and its status fresh. -/
def braking (v : Bool) : State := st { dev .holdup with hup := { running := true }, spl := { braking := true, valid := v, lastAt := some 0 } }

theorem wit_RequestLinesAndSpindleLink :
    (∀ n ∈ [254, 255], running (paced n).dev = true ∧ (paced n).dev.pins.pfail = false ∧ (paced n).dev.mode.mode ≠ .dormant ∧
      ctxEn (paced n).dev 63 = true ∧ ctxStream (paced n).dev 63 = true ∧ ctxPaced (paced n).dev 63 = true ∧
      fijActive (paced n).dev = false ∧ (getCtx (paced n).dev 63).pend = n) ∧
    (socUp warm.dev = true ∧ nbits (0x83901D74#32).toNat 31 28 = 8 ∧ nbit (0x83901D74#32).toNat 21 = false ∧ warm.dev.spl.braking = false ∧
      warm.dev.spl.next = none) ∧
    (socUp warm.dev = true ∧ warm.dev.hup.running = false) ∧
    (∀ v ∈ [false, true], (braking v).dev.hup.running = true ∧ (braking v).dev.spl.braking = true ∧ splLost (braking v).dev = false ∧
      (braking v).dev.spl.valid = v) := by decide
/-! ### Witnesses: the hatch -/

/-- Link 0's stream k holds these unacknowledged messages; its receiver expects SEQ e. -/
def held (k e : Nat) (ms : List Msg) (r : Option (Bool × Nat) := none) : State :=
  st { dev .warm with links := [(0, { streams := [(k, { nextSeq := ms.length, unacked := ms, expect := e, reply := r })] })] }

/-- One message with SEQ 0 and body b on stream k, which its receiver expects. -/
def carries (k : Nat) (b : MsgBody) : State := held k 0 [{ seq := 0, sends := 1, body := b }]

theorem wit_HatchAnswersAndResets :
    (linkUp (held 0 1 [{ seq := 0, sends := 1, body := .fault true }]).dev 0 = true ∧
      seqEarlier (getStream (held 0 1 [{ seq := 0, sends := 1, body := .fault true }]).dev 0 0).expect 0 = true ∧
      (getStream (held 0 1 [{ seq := 0, sends := 1, body := .fault true }]).dev 0 0).waiting = []) ∧
    ((getStream (held 0 0 [{ seq := 0, sends := 1, body := .fault true }] (some (true, 0))).dev 0 0).reply = some (true, 0) ∧
      (getStream (held 0 0 [{ seq := 0, sends := 1, body := .fault true }] (some (true, 0))).dev 0 0).waiting = []) ∧
    (((getStream (held 0 0 [{ seq := 0, sends := 9, body := .fault true }]).dev 0 0).unacked.any fun m => decide (9 ≤ m.sends)) = true ∧
      ((nget {} (held 0 0 [{ seq := 0, sends := 9, body := .fault true }]).dev.links 0).resetTimes.filter
        fun u => decide ((held 0 0 [{ seq := 0, sends := 9, body := .fault true }]).dev.now < u + ms 1000)).length < 2) := by decide

/-- A stream that holds 64 messages unacknowledged. -/
theorem wit_HandingAMessageOver :
    (getStream (held 0 0 ((List.range 64).map fun q => { seq := q, sends := 1, body := .fault true })).dev 0 0).unacked.length ≤ 64 := by
  decide

/-- SEQ 1 arrives while SEQ 0 is expected; SEQ 0 arrives with a CRC that injection has spoilt, or with one that is not its own. -/
theorem wit_MessagesOutOfOrderTakeNoEffect :
    let s := held 0 0 [{ seq := 0, sends := 1, body := .opReq {}, bad := true }, { seq := 1, sends := 1, body := .opReq {} }]
    linkUp s.dev 0 = true ∧
    (getStream s.dev 0 0).unacked.find? (fun x => decide (x.seq = 1)) = some { seq := 1, sends := 1, body := .opReq {} } ∧
    1 ≠ (getStream s.dev 0 0).expect ∧ seqEarlier (getStream s.dev 0 0).expect 1 = false ∧
    (getStream s.dev 0 0).unacked.find? (fun x => decide (x.seq = 0)) = some { seq := 0, sends := 1, body := .opReq {}, bad := true } ∧
    ∃ crc, crc ≠ msgCrc 0 { seq := 1, sends := 1, body := .opReq {} } := by
  refine ⟨by decide, by decide, by decide, by decide, by decide, msgCrc 0 { seq := 1, sends := 1, body := .opReq {} } + 1#16, by simp⟩

/-- Each message of Table ARC-2 arrives in order on its stream. -/
theorem wit_AcceptedMessages :
    (∀ b ∈ ([.opReq {}, .ctrlReq (.isolate 0), .ctrlReq (.chanRead 0 1#2), .patch 0 [0] [0], .quiesce false, .holdup 0 3, .credit 2 1, .fault true,
        .fault false] : List MsgBody), Arrives (carries 0 b).dev 0 0 { seq := 0, sends := 1, body := b }) ∧
    (∀ b ∈ ([.opResult {}, .fifoState 0 1 64 (some true) true, .release 1 true, .event (.lunTimeout 0), .event (.memError 2 0 0 3), .ctrlResp 0 0,
        .quiesce true, .holdup 1 0, .stats 0 7 0 1 1] : List MsgBody), Arrives (carries 1 b).dev 0 1 { seq := 0, sends := 1, body := b }) ∧
    Arrives (carries 2 (.wdata 0 0 0 64 [])).dev 0 2 { seq := 0, sends := 1, body := .wdata 0 0 0 64 [] } ∧
    Arrives (carries 3 (.rdata {})).dev 0 3 { seq := 0, sends := 1, body := .rdata {} } := by
  unfold Arrives; decide

/-- Group 0's link is up; the rest of the device is as `f` makes it, with one message on stream k of link 0. -/
def carried (k : Nat) (b : MsgBody) (f : Dev → Dev) : Dev := f (carries k b).dev

/-- What the clauses on concrete messages ask beside that: a LUN that is busy; AWAIT-PATCH; a calm rail and an operation of no command; a
unit that waits for its release; a register access that waits; a group whose handshake is quiet. -/
theorem wit_AcceptedMessagesStates :
    (let d := carried 0 (.opReq { cls := 1, cop := 4 }) fun d => { d with scheds := [(0, { chosen := some {} })] }
     isReadCop 4 = false ∧ d.mode.mode ≠ .holdup ∧ lunIsol d 0 = false ∧ (getSched d 0).suspended = false ∧ lunFree d 0 = false ∧
      (schedQ (getSched d 0) (opQueue { cls := 1, cop := 4 })).length < 16) ∧
    (let d := carried 0 (.patch 0 [0] [0]) fun d => { d with mode := { mode := .awaitPatch } }
     d.mode.mode = .awaitPatch ∧ d.cfg.pInst = false ∧ warm.dev.mode.mode ≠ .awaitPatch ∧ 0 ∈ groupChans d 0) ∧
    ((getCtx warm.dev 0).cmd = none ∧ warm.dev.ord.cmds = [] ∧ (nget {} warm.dev.links 0).failed = false) ∧
    (let d := carried 1 (.opResult { tag := 7 }) fun d => { d with ord := { ops := [(7, { use := .chan })] } }
     nfind d.ord.ops 7 = some { use := .chan } ∧ Calm d) ∧
    (let d := carried 1 (.release 1 true) fun d => { d with pgm := { units := [(1, { use := .fifo 0, st := .done })] } }
     d.pgm.units = [(1, { use := .fifo 0, st := .done })] ∧ Calm { d with pgm := { d.pgm with units := [] } } ∧ lunIsol d 0 = false) ∧
    (Calm warm.dev ∧ 0 < warm.dev.build.luns ∧ warm.dev.ord.eq.length < 64) ∧
    (let d := carried 1 (.ctrlResp 0 0) fun d => { d with rp := { wait := some { write := false, left := 1, data := 0 } } }
     d.rp.wait = some { write := false, left := 1, data := 0 } ∧ (0 : Nat) < 2 ^ 21) ∧
    (let d := carried 1 (.quiesce true) fun d => { d with groups := [(0, { stage := .handshake, quiesced := true })] }
     (getGroup d 0).stage = .handshake ∧ (getGroup d 0).quiesced = true ∧ groupBusy d 0 = false ∧ linkUp d 0 = true) ∧
    regAt 0 = some (.glbId, 0) := by
  unfold Calm; decide

/-! ### Witnesses: modes, loading, gating -/

/-- WARM at PL0 with STRAP[3] high. -/
def strapped : State := st { dev .warm with pins := { straps := 0x08#6 } }

theorem wit_ModeRequestsGranted :
    (running strapped.dev = true ∧ strapped.dev.mode.mode = .warm ∧ strapped.dev.mode.trans = none ∧ strapped.dev.mode.onward = none ∧
      strapped.dev.mode.restored = true ∧ level strapped.dev = 0 ∧ strapped.dev.pins.straps.getLsbD 3 = true ∧
      burstWarn strapped.dev = false ∧ dormantMay strapped.dev = true ∧ 6 ≤ (0x6#4).toNat ∧ (0x6#4).toNat ≤ 9) ∧
    (running standby.dev = true ∧ standby.dev.mode.mode = .standby ∧ standby.dev.mode.trans = none ∧ standby.dev.mode.onward = none ∧
      dormantMay standby.dev = true) ∧
    (running serve.dev = true ∧ serve.dev.mode.mode.run = true ∧ serve.dev.mode.trans = none ∧ serve.dev.mode.onward = none) := by decide

/-- WARM with BURST_WARN asserted; SERVE during a drain; above PL0. -/
def warned : State := st { dev .warm with inputs := [(2, { asserted := true })] }
def draining : State := st { dev .serve with mode := { mode := .serve, trans := some { kind := .drain, target := .warm, cause := 1 } } }
def level1 : State := st { dev .warm with otp := { log := [(false, 1)] } }

theorem wit_ModeRequestsRefused :
    (∀ m ∈ [Mode.loading, .awaitPatch, .holdup, .sanitize], running (st (dev m)).dev = true) ∧
    (running warned.dev = true ∧ warned.dev.mode.mode = .warm ∧ warned.dev.mode.trans = none ∧ warned.dev.mode.onward = none ∧
      modeMay warned.dev .standby = false ∧ burstWarn warned.dev = true) ∧
    (running draining.dev = true ∧ draining.dev.mode.mode.run = true ∧ Mode.warm ≠ draining.dev.mode.mode ∧ draining.dev.mode.mode = .serve ∧
      draining.dev.mode.trans = some { kind := .drain, target := .warm, cause := 1 }) ∧
    (level level1.dev ≠ 0 ∧ warm.dev.pins.straps.getLsbD 3 = false) := by decide

/-- Idle times set, in mode m; a transition of kind k in progress in mode m, that a wake event has met or not; the mode to go on to. -/
def idle (m : Mode) : State := st (setF (setF (dev m) F.pwrIdle_WARM_IDLE 1) F.pwrIdle_STBY_IDLE 1)
def going (m : Mode) (k : TransKind) (w : Option (Nat × Mode × Nat) := none) (o : Option Mode := none) : State :=
  st { dev m with mode := { mode := m, restored := true, trans := some { kind := k, target := .standby, wake := w }, onward := o, onwardCause := 1 } }
/-- The same with a region of extended custody, so that DORMANT may not be entered. -/
def custody : State := st { (going .warm .toStandby none (some .dormant)).dev with cq := { regions := [(1, ⟨0, 0, 4096⟩)] } }
/-- The wake from STANDBY with every channel of group 0 up and the others failed. -/
def waking : State :=
  st { (going .standby .wakeStandby).dev with chans := (List.range 64).map fun c => (c, if c < 8 then { up := true } else { failed := true }) }
def restoring (n : Nat) : State := st { dev .warm with mode := { mode := .warm, restoring := true }, hup := { rstep := n } }

theorem wit_ModeEvents :
    (modeIdle (idle .warm).dev = true ∧ (idle .warm).dev.mode.restoring = false ∧ getF (idle .warm).dev F.pwrIdle_WARM_IDLE ≠ 0) ∧
    (modeIdle (idle .standby).dev = true ∧ getF (idle .standby).dev F.pwrIdle_STBY_IDLE ≠ 0 ∧ dormantMay (idle .standby).dev = true) ∧
    ((going .warm .toStandby).dev.mode.trans = some { kind := .toStandby, target := .standby } ∧ (going .warm .toStandby).dev.mode.onward = none) ∧
    (custody.dev.mode.trans = some { kind := .toStandby, target := .standby } ∧ custody.dev.mode.onward = some .dormant ∧
      dormantMay custody.dev = false ∧ custody.dev.mode.onwardCause = 1) ∧
    ((going .warm .toStandby (some (1, .warm, 0))).dev.mode.trans = some { kind := .toStandby, target := .standby, wake := some (1, .warm, 0) }) ∧
    ((going .standby .toDormant).dev.mode.trans = some { kind := .toDormant, target := .standby } ∧ (going .standby .toDormant).dev.mode.onward = none) ∧
    ((going .serve .drain).dev.mode.trans = some { kind := .drain, target := .standby } ∧ commandsOut (going .serve .drain).dev = false ∧
      pantryDurable (cmdSweep (going .serve .drain).dev) = true ∧ (going .serve .drain).dev.mode.mode.run = true ∧
      (going .serve .drain).dev.mode.onward = none) ∧
    (running waking.dev = true ∧ waking.dev.mode.trans = some { kind := .wakeStandby, target := .standby } ∧ waking.dev.mode.restored = true ∧
      waking.dev.mode.mode = .standby ∧ waking.dev.mode.onward = none ∧ waking.dev.cq.sqs = [] ∧ waking.dev.cq.cqs = [] ∧
      ∀ c < waking.dev.build.channels, (getChan waking.dev c).up = true ∨ (getChan waking.dev c).failed = true) ∧
    (running (restoring 1).dev = true ∧ (restoring 1).dev.mode.restoring = true ∧ (restoring 1).dev.mode.mode = .warm) := by decide

/-- A hold-up zone that covers the pantry bound, at a plan level that costs nothing. -/
def covered : Dev := { (restoring 5).dev with hup := { rstep := 5, zoneBytes := 2 ^ 40 }, cfg := { holdup := zeros 0x20 ++ natLe 2 1 } }

theorem wit_ModeEventsCover : coverFor covered (boundWith covered 0) = true ∧ covered.hup.rstep = 5 ∧ covered.mode.onward = none := by decide

/-- AWAIT-PATCH; the same with a capsule read. -/
def await : State := st (dev .awaitPatch)
def capsule : State := st { dev .awaitPatch with cfg := { pBusy := true, pRead := true, pBytes := some [] } }

/-- A capsule of 264 bytes for the housekeeper without a payload, at offset 0x40 of which its signature block stands. -/
def hkCapsule : List Byte :=
  [0x50, 0x52, 0x4D, 0x50] ++ natLe 2 1 ++ natLe 2 2 ++ natLe 4 264 ++ natLe 4 0 ++ natLe 2 0x4202 ++ zeros 246
def awaitLong : State := st { dev .awaitPatch with cfg := { pBusy := true, pRead := true, pBytes := some hkCapsule, pLen := 264 } }

/-- A configuration flash whose two slots hold no commit record. -/
theorem wit_LoadingAndPatching :
    (loading State.reset.dev = true ∧ State.reset.dev.cfg.wipForced = false) ∧ ((loadSlots (flashFacts {} State.reset.dev) {}).secs = none) ∧
    (loading warm.dev = false) ∧ (socUp await.dev = true ∧ await.dev.cfg.pBusy = false ∧ await.dev.mode.mode = .awaitPatch) ∧
    (socUp warm.dev = true ∧ warm.dev.cfg.pBusy = false ∧ warm.dev.mode.mode ≠ .awaitPatch) ∧
    (running capsule.dev = true ∧ capsule.dev.cfg.pBusy = true ∧ capsule.dev.cfg.pRead = true ∧ capsule.dev.mode.mode = .awaitPatch ∧
      capsule.dev.cfg.pBytes = some [] ∧ capsuleCheck capsule.dev [] = .inl 4 ∧ capsule.dev.cfg.pEnd = false ∧ capsule.dev.cfg.pMissing = false) ∧
    (patchMet await.dev = true ∧ getF await.dev F.pwrGate_REQ = 0 ∧ await.dev.mode.doorbellKept = false ∧ await.dev.cfg.autoWarm = false ∧
      sanPending await.dev = false) ∧
    (patchMet ({ cfg := { patchReq := true, patchTargets := 1 } } : Dev) = false) ∧
    (socUp capsule.dev = true ∧ capsule.dev.cfg.pInst = false) := by decide

/-- The hash and the decipherment are not fixed by the model, so a capsule and an image that pass are shown for any that agree. -/
theorem wit_CapsulePasses (v : List Byte) (h : Config.sha384 (slice (capsuleSig1 hkCapsule 0) 0 97) = Config.vendorRootKeyHash)
    (g : sigOk (capsuleSig1 hkCapsule 0) Config.vendorRootKeyHash (capsuleDigest hkCapsule 0) = true)
    (p : capsulePlain awaitLong.dev hkCapsule 0 = some v) : capsuleCheck awaitLong.dev hkCapsule = .inr (2, v) := by
  have a : leAt hkCapsule 0x0C 4 = 0 := by decide
  have b : leAt hkCapsule 6 2 = 2 := by decide
  have c : nbit (leAt hkCapsule 0x12 2) 0 = false := by decide
  have e : (slice hkCapsule 0 4 ≠ [0x50, 0x52, 0x4D, 0x50] ∨ leAt hkCapsule 4 2 ≠ 1 ∨ (!zeroAt hkCapsule 0x34 12) = true ∨
    2 ≤ leAt hkCapsule 0x12 2 ∨ (!zeroAt hkCapsule 0x16 2) = true) = False := by simp; decide
  have f : leAt hkCapsule 8 4 = 264 := by decide
  have i : leAt hkCapsule 0x10 2 = 0x4202 := by decide
  have k : keyHash awaitLong.dev = none := by decide
  simp only [capsuleCheck, a, b, c, e, f, i, k, h, g, p]
  simp [awaitLong, st, dev]

/-- Group g of eight at a stage. -/
def staged (g : Nat) (x : Group) : State := st { dev .warm with groups := [(g, x)] }

/-- Group 0 gated, asked to ungate by itself, with an operation held for LUN 0; and group 0 being ungated in STANDBY. -/
def heldGated : State :=
  st { setF (dev .warm) F.pwrGate_AUTO_UNGATE 1 with groups := [(0, { stage := .gated })], ord := { held := [(1, {})] } }
def ungatingEarly : State := st { mode := { mode := .standby }, groups := [(0, { stage := .ungating })] }

theorem wit_GroupGating :
    (socUp (staged 7 { stage := .on }).dev = true ∧ 7 < (staged 7 { stage := .on }).dev.build.groups ∧
      (staged 7 { stage := .on }).dev.mode.mode ∉ [Mode.holdup, .sanitize, .loading, .awaitPatch] ∧
      (getGroup (staged 7 { stage := .on }).dev 7).stage = .on) ∧
    ((getGroup (staged 7 { stage := .handshake, quiesced := true }).dev 7).stage = .handshake ∧
      (getGroup (staged 7 { stage := .handshake, quiesced := true }).dev 7).quiesced = true ∧
      groupBusy (staged 7 { stage := .handshake, quiesced := true }).dev 7 = false) ∧
    (socUp (staged 7 { stage := .gated }).dev = true ∧ (staged 7 { stage := .gated }).dev.mode.mode ≠ .holdup ∧
      (staged 7 { stage := .gated }).dev.mode.mode ≠ .sanitize ∧ (getGroup (staged 7 { stage := .gated }).dev 7).stage = .gated) ∧
    (socUp heldGated.dev = true ∧ heldGated.dev.mode.mode ≠ .holdup ∧ (getGroup heldGated.dev 0).stage = .gated ∧
      nbit (getF heldGated.dev F.pwrGate_AUTO_UNGATE) 0 = true ∧ (1, {}) ∈ heldGated.dev.ord.held ∧ inGroup 0 ({} : Op).lun = true) ∧
    (socUp (staged 0 { stage := .ungating }).dev = true ∧ (getGroup (staged 0 { stage := .ungating }).dev 0).stage = .ungating) ∧
    (socUp ungatingEarly.dev = true ∧ ungatingEarly.dev.mode.mode.flash = false ∧ ungatingEarly.dev.mode.restored = false ∧
      ungatingEarly.dev.ord.held = [] ∧ ungatingEarly.dev.cal.chans = [] ∧ ungatingEarly.dev.hk.thrAsk = none ∧
      nbit (getF ungatingEarly.dev F.pwrGate_REQ) 0 = false) := by decide
/-! ### Witnesses: the sequencer and the schedulers -/

/-- Channel 0 runs LUN 0's routine in record A, with record x, at word w of its patch RAM. -/
def runs (w : Nat) (x : Rec) (bus : List BusCycle := []) (phy : Option (Nat × Nat) := none) : State :=
  st { dev .serve with chans := [(0, { up := true, running := some 0, recs := [(0, x)], patchRam := nset 0#32 [] 0 (BitVec.ofNat 32 w),
                                       wordCount := 2, bus := bus, phy := phy })] }

/-- The record at the first word of the patch RAM. -/
def r0 : Rec := { pc := 0x1000 }

theorem wit_DataMicroOperationsAndFrame :
    r0.pc ≠ 0xFFF ∧ ∀ k ∈ [0x00, 0x09, 0x0A, 0x0B, 0x0C, 0x0D, 0x0F],
      pcLegal (getChan (runs (k * 2 ^ 27) r0).dev 0) (r0.pc + 1) = true ∧ Fetches (runs (k * 2 ^ 27) r0).dev 0 k 0 r0 (k * 2 ^ 27) := by
  unfold Fetches; decide

/-- CMD 0x70 and of slot 0; ADR of columns, rows, both, a register and its own byte; DOUT of a register and of the pantry; DIN of the pantry. -/
theorem wit_BusMicroOperations :
    (∀ w ∈ [0x0C000070, 0x08200000, 0x10000000, 0x11000000, 0x12000000, 0x13000000, 0x14000000, 0x1C000000, 0x18000000, 0x20000000],
      (getChan (runs w r0).dev 0).bus.length < 16 ∧ r0.pc ≠ 0xFFF ∧
        pcLegal (getChan (runs w r0).dev 0) (r0.pc + 1) = true ∧ Fetches (runs w r0).dev 0 (w / 2 ^ 27) 0 r0 w) ∧
    (nbit 0x0C000070 26 = true ∧ nbit 0x08200000 26 = false ∧ cmdOpcode (runs 0x08200000 r0).dev 0 (nbits 0x08200000 25 21) ≠ 0 ∧
      nbits 0x10000000 26 24 = 0 ∧ nbits 0x11000000 26 24 = 1 ∧ nbits 0x12000000 26 24 = 2 ∧ nbits 0x13000000 26 24 = 3 ∧
      nbits 0x14000000 26 24 = 4 ∧ nbit 0x1C000000 26 = true ∧ nbit 0x18000000 26 = false ∧ nbit 0x20000000 26 = false) := by
  unfold Fetches; decide

/-- The same with its bytes in the register. -/
def rIn : Rec := { r0 with waitIn := 2 }

/-- DIN to a register, POLL of slot 10 and of slot 11, before their cycle; the first two after it. -/
theorem wit_BusMicroOperationsThatWait :
    (∀ w ∈ [0x24000000, 0x30000000, 0x34000000], r0.waitIn = 0 ∧ (getChan (runs w r0).dev 0).bus.length < 16 ∧
      Fetches (runs w r0).dev 0 (w / 2 ^ 27) 0 r0 w) ∧
    (∀ w ∈ [0x24000000, 0x30000000], rIn.waitIn = 2 ∧ pcLegal (getChan (runs w rIn).dev 0) (rIn.pc + 1) = true ∧
      Fetches (runs w rIn).dev 0 (w / 2 ^ 27) 0 rIn w) := by
  unfold Fetches; refine ⟨?_, ?_⟩ <;> decide

/-- PHY of procedure 1 on an idle bus, and with the bus lent. -/
theorem wit_PhyMicroOperation :
    (Fetches (runs 0xA0000001 r0).dev 0 0x14 0 r0 0xA0000001 ∧ (getChan (runs 0xA0000001 r0).dev 0).bus = [] ∧
      (getChan (runs 0xA0000001 r0).dev 0).phy = none ∧
      procRuns (getChan (runs 0xA0000001 r0).dev 0).sig (getChan (runs 0xA0000001 r0).dev 0).ext (nbits 0xA0000001 7 0) = true) ∧
    (Fetches (runs 0xA0000001 r0 [] (some (1, 0))).dev 0 0x14 0 r0 0xA0000001 ∧ (getChan (runs 0xA0000001 r0 [] (some (1, 0))).dev 0).bus = [] ∧
      (getChan (runs 0xA0000001 r0 [] (some (1, 0))).dev 0).phy = some (1, 0) ∧
      pcLegal (getChan (runs 0xA0000001 r0 [] (some (1, 0))).dev 0) (r0.pc + 1) = true) := by
  unfold Fetches; refine ⟨?_, ?_⟩ <;> decide

/-- WAIT and BRC on the condition that always holds, BRC on Z, which does not; BR; SETF; EVT; COMMIT; END; YIELD for an interval. -/
theorem wit_ControlAndParking :
    (∀ w ∈ [0x2FC00000, 0x38001000, 0x47C01000, 0x40001000, 0x70000000, 0x80000000, 0x90000000, 0x98000000, 0x89000000],
      Fetches (runs w r0).dev 0 (w / 2 ^ 27) 0 r0 w ∧ pcLegal (getChan (runs w r0).dev 0) (patchTarget (getChan (runs w r0).dev 0) 0x1000) = true ∧
        pcLegal (getChan (runs w r0).dev 0) (r0.pc + 1) = true ∧ r0.pc ≠ 0xFFF) ∧
    (condLegal (nbits 0x2FC00000 26 22) = true ∧
      condHolds (cycleCount 0 (runs 0x2FC00000 r0).dev) 0 r0 (nbits 0x2FC00000 26 22) = !nbit 0x2FC00000 21) ∧
    (condLegal (nbits 0x47C01000 26 22) = true ∧ nbits 0x47C01000 12 0 = 0x1000 ∧
      condHolds (cycleCount 0 (runs 0x47C01000 r0).dev) 0 r0 (nbits 0x47C01000 26 22) = !nbit 0x47C01000 21) ∧
    (condLegal (nbits 0x40001000 26 22) = true ∧
      condHolds (cycleCount 0 (runs 0x40001000 r0).dev) 0 r0 (nbits 0x40001000 26 22) = nbit 0x40001000 21) ∧
    ((r0.f &&& ~~~BitVec.ofNat 8 (nbits 0x70000000 15 8)) ||| BitVec.ofNat 8 (nbits 0x70000000 23 16)).getLsbD 7 = r0.f.getLsbD 7 ∧
    (r0.committed = false ∧ Fetches (runs 0x90000000 { r0 with committed := true }).dev 0 0x12 0 { r0 with committed := true } 0x90000000) ∧
    (r0.abrq = false ∧ nbits 0x89000000 26 24 = 1 ∧ anyWoken (runs 0x89000000 r0).dev 0 = false) := by
  unfold Fetches; decide

/-- LUN 0's routine parked for its R/B_n line, which is high, with its bus free or taken by LUN 1's; running and never yielding. -/
def parked (b : Option Nat) : State :=
  let rs := [(0, { r0 with wake := 2, parkedAt := some 0 }), (2, r0)]
  st { dev .serve with now := 100000, chans := [(0, { up := true, rbHigh := 1#4, running := b, recs := rs })] }
def ignoring : State := st (setF (dev .serve) F.chnCfg_RB_IGN 8 0)
def endless : Rec := { r0 with words := 8192 }

theorem wit_ControlAndParking_2 :
    (∀ b ∈ [none, some 2], linkUp (parked b).dev (groupOf 0) = true ∧ getRec (parked b).dev 0 0 = some { r0 with wake := 2, parkedAt := some 0 } ∧
      wakeHolds (parked b).dev 0 { r0 with wake := 2, parkedAt := some 0 } = true ∧ (getChan (parked b).dev 0).running = b) ∧
    (calHolds (parked none).dev 0 = false ∧ anyWoken (parked none).dev 0 = false ∧ oldestC0 (c0New (parked none).dev 0) = none) ∧
    (nbit (getF ignoring.dev F.chnCfg_RB_IGN 0) 3 = true ∧ nbit (getF (parked none).dev F.chnCfg_RB_IGN 0) 0 = false) ∧
    (getRec (runs 0x30000000 r0).dev 0 0 = some r0 ∧ getRec (runs 0x30000000 r0).dev 0 1 = none ∧ r0.parkedAt = none) ∧
    ((getChan (runs 0x30000000 endless).dev 0).running = some 0 ∧ getRec (runs 0x30000000 endless).dev 0 0 = some endless ∧
      stallCounts (runs 0x30000000 endless).dev 0 endless = true ∧ 0 = 2 * (endless.op.lun % 32) ∧
      (runs 0x30000000 endless).dev.codec.slots = [] ∧ anyWoken (runs 0x30000000 endless).dev 0 = false) := by decide

/-- The head of channel 0's queue is b of record 0, whose COP is k, and the pantry holds a page at address 0. -/
def busy (b : BusEntry) (k : Nat := 0) : State :=
  let s := runs 0 { r0 with op := { cop := k } } [{ owner := 0, lun := 0, entry := b }]
  st { s.dev with codec := { slots := [(0, { prog := true, addr := 0 })] } }

theorem wit_BusTransfers :
    (∀ b ∈ ([.out 0 1, .inp 0 2, .cmd 0x70, .inReg 3 1, .status 0x70 []] : List BusEntry),
      linkUp (busy b).dev (groupOf 0) = true ∧ (getChan (busy b).dev 0).bus = [{ owner := 0, lun := 0, entry := b }] ∧
        getRec (busy b).dev 0 0 = some { r0 with op := { cop := 0 } } ∧ (getChan (busy b).dev 0).running.isSome = true) ∧
    (isReadCop 0 = true ∧ getRec (busy (.inp 0 2) 11).dev 0 0 = some { r0 with op := { cop := 11 } } ∧ isReadCop 11 = false) := by decide

/-- The bytes at the places named, zero elsewhere: n bytes. -/
def bytes (n : Nat) (l : List (Nat × Nat)) : List Byte :=
  (List.range n).map fun i => match l.find? (fun p => p.1 = i) with | some p => BitVec.ofNat 8 p.2 | none => 0

/-- A TLC profile with every feature: 4 planes, 12 pages, 64 blocks, one retry row. -/
def tlc : List Byte :=
  bytes 256 [(0x12, 4), (0x13, 3), (0x14, 12), (0x16, 64), (0x18, 2), (0x19, 3), (0x1A, 8), (0x1B, 16), (0x1D, 1), (0x24, 0xFF), (0x25, 0x0F)]

/-- FACTORY, where every COP of Table SEQ-3 may start: LUN 0's chosen operation is o, on channel 0. -/
def offers (o : Op) : State :=
  st { dev .factory with chans := [(0, { up := true })], scheds := [(0, { chosen := some o })], cfg := { profiles := [(0, tlc)] },
                         codec := { total := 4096 } }

set_option maxRecDepth 8000 in
theorem wit_OperationsStartOrAreRefused :
    (∀ k ∈ [0x00, 0x07, 0x12], let s := offers { cop := k }
      (getSched s.dev 0).chosen = some { cop := k } ∧ (∀ j n, ({ cop := k } : Op).use ≠ .ladder j n) ∧
        (getChan s.dev (chanOf 0)).running = none ∧ calHolds s.dev (chanOf 0) = false ∧ pickWoken s.dev (chanOf 0) = none ∧
        (getChan s.dev (chanOf 0)).up = true ∧ linkUp s.dev (groupOf (chanOf 0)) = true ∧ nextCop s.dev (chanOf 0) = some 0 ∧
        copSupported s.dev { cop := k } = true ∧ getRec s.dev (chanOf 0) (2 * (0 % 32)) = none) := by
  intro k hk
  simp only [List.mem_cons, List.not_mem_nil, or_false] at hk
  rcases hk with rfl | rfl | rfl <;> exact ⟨by decide, by simp, by decide, by decide, by decide, by decide, by decide, by decide, by decide, by decide⟩

theorem wit_OperationsRefused :
    (copSupported (modChan (modSched (dev .serve) 0 fun q => { q with chosen := none }) (chanOf 0) fun h => { h with rr := 1 }) { cop := 16 } = false) ∧
    (let x : Rec := { r0 with f := 0x80#8 }
     let d := (runs 0 x).dev
     copSupported (modChan (modSched d 0 fun q => { q with chosen := none }) (chanOf 0) fun h => { h with rr := 1 }) { cop := 4 } = true ∧
       getRec d (chanOf 0) (2 * (0 % 32)) = some x ∧ recSusp x = true ∧ isReadCop 4 = false ∧ isResetCop 4 = false) := by decide
/-! ### Witnesses: decoding, programs, timers, relocations -/

/-- The decoders hold codeword 1 and no other. -/
def decodes (w : Codeword) : State := st { dev .serve with codec := { cws := [(1, w)] } }

/-- A decode that converges, and one that does not. -/
def good : DecodeRes := { conv := true, info := zeros 4128 }
def bad : DecodeRes := { unsat := 9 }

theorem wit_DecodesAndRecovery_hard :
    (∀ w ∈ ([{ st := .hard }, { st := .hard, step := 1 }, { st := .hard, step := 2 }] : List Codeword),
      getCw (decodes w).dev 1 = some w ∧ w.st = .hard ∧ decodeFits w bad = true) ∧
    decodeFits { st := .hard, lim := 8 } { good with iters := 8 } = true ∧ decodeFits { st := .hard, step := 1, ext := 8, iters := 3 } { good with iters := 3 } = true ∧
    good.conv = true ∧ bad.conv = false := by decide +kernel

theorem wit_DecodesAndRecovery :
    (getCw (decodes { st := .soft, step := 100 }).dev 1 = some { st := .soft, step := 100 } ∧ decodeFits { st := .soft, step := 100 } bad = true ∧
      decodeFits { st := .soft, step := 100 } good = true) ∧
    (getF (decodes { st := .soft, step := 103 }).dev F.rrcCfg_SOFT_PASSES < 103 - 99 ∧ (100 : Nat) ≤ 103) ∧
    (softLoad (decodes { st := .softWait, cls := 0 }).dev < 64 ∧
      ((decodes { st := .softWait, cls := 0 }).dev.codec.cws.filter fun q => decide (q.2.st = .softWait)).find? (fun q => decide (q.2.cls = 0)) =
        some (1, { st := .softWait, cls := 0 })) ∧
    64 ≤ softLoad { codec := { cws := (List.range 64).map fun i => (i, { st := .softQ }) } } ∧
    (let w : Codeword := { st := .tableWait, cls := 0 }
     let s := st { dev .serve with codec := { cws := [(1, w)] }, cfg := { profiles := [(0, tlc)] } }
     (s.dev.codec.cws.filter fun q => decide (q.2.st = .tableWait) && tableRoom s.dev q.2.cls).find? (fun q => decide (q.2.cls = 0)) = some (1, w) ∧
      getCw s.dev 1 = some w ∧ w.verify = false ∧ isSweep (cwOp s.dev w) = false ∧ profFeat s.dev w.lun 5 = true ∧ lunIsol s.dev w.lun = false ∧
      w.rowsTried = [] ∧ 0 < prof s.dev w.lun 0x1D 1) ∧
    serve.dev.codec.cws = [] := by decide +kernel

/-- A ZONED namespace 0 and a RANDOM namespace 1 on eight LUNs, one in each group. -/
def zoned : NsSec := { present := true, width := 8, groups := [{ sg := 0, d := 256, f := 0, blo := 10, bhi := 13 }] }
def pool : NsSec := { present := true, random := true, lbaCount := 100, groups := [{ sg := 1, d := 256, f := 0, blo := 14, bhi := 17 }] }

/-- The block with that medium, in mode m. -/
def media (m : Mode) : Dev :=
  { dev m with
      cfg := { done := true, profiles := [(0, tlc)], chanMap := bytes 1024 ((List.range 8).map fun k => (128 * k, 8)), nss := [(0, zoned), (1, pool)] },
      chans := (List.range 8).map fun k => (8 * k, { up := true, present := 1 }), codec := { total := 4096 } }

/-- A block of one group with a LUN on each of two channels. -/
def small (m : Mode) : Dev :=
  { dev m with
      build := .premel8, chans := [(0, { up := true, present := 1 }), (1, { up := true, present := 1 })], codec := { total := 4096 },
      cfg := { profiles := [(0, tlc)], chanMap := [8, 0, 0, 0, 0, 0, 0, 0, 0, 0, 0, 0, 0, 0, 0, 0, 8], nss := [(1, pool)] } }

/-- The block holds unit 1 and no other. -/
def packs (x : Machine.PUnit) : State := st { media .serve with pgm := { units := [(1, x)] } }

/-- The encoder of channel 0 has the first page of unit 1 in hand. -/
def encodes : State := st { small .serve with pgm := { units := [(1, { use := .fifo 0 })] }, codec := { total := 4096, enc := [(0, 1)] } }

/-- Write 5 of namespace 1, half of it accepted, whose first sector, which a packet ends, waits in FIFO 0 for stream 1's filling unit 1. -/
def drawing : State :=
  let x : Machine.PUnit := { use := .fifo 0, st := .filling, ns := 1, cls := 3, sectors := [{}] }
  let c : Cmd := { ns := 1, cls := 3, need := 4096, accepted := 2048 }
  let o : Ord := { cmds := [(5, c)] }
  st { small .serve with pgm := { units := [(1, x)] }, ord := o, dma := { fifos := [(0, { words := [(0, { tag := 128 })], wr := 1, secs := [{ arr := some 5 }] })] } }

theorem wit_ProgramUnits_draw :
    progMay serve.dev = true ∧ progMay standby.dev = false ∧
    (let s := drawing
     let x : Machine.PUnit := { use := .fifo 0, st := .filling, ns := 1, cls := 3, sectors := [{}] }
     let c : Cmd := { ns := 1, cls := 3, need := 4096, accepted := 2048 }
     progMay s.dev = true ∧ drawNext s.dev (fun _ => true) (getFifo s.dev 0) = some ({ arr := some 5 }, 5, c) ∧
      (getNs s.dev c.ns).random = true ∧ c.accepted < c.need ∧
      s.dev.pgm.units.find? (fun p => decide (p.2.st = .filling ∧ p.2.ns = c.ns ∧ p.2.cls = c.cls ∧ p.2.use = .fifo 0)) = some (1, x) ∧
      nfind s.dev.pgm.units 1 = some x ∧ (undrawn (getFifo s.dev 0) 5).length + x.sectors.length < unitSecs s.dev x) := by decide +kernel

theorem wit_ProgramUnits_usable (l : Nat) : lunIsol drawing.dev l = false := by
  have : drawing.dev.rf = [] := rfl
  simp [lunIsol, getReg, this, nget, nfind, resetVal, Reg.resetConst, nbit]

theorem wit_ProgramUnits :
    (progMay encodes.dev = true ∧ nfind encodes.dev.codec.enc 0 = some 1 ∧ nfind encodes.dev.pgm.units 1 = some { use := .fifo 0 } ∧
      (0 + 1) % profPlanes encodes.dev 0 ≠ 0 ∧ 0 % profPlanes encodes.dev 0 + 1 ≠ profPlanes encodes.dev 0) ∧
    (let s := packs { use := .fifo 0, st := .waitBand }
     progMay s.dev = true ∧ nfind s.dev.pgm.units 1 = some { use := .fifo 0, st := .waitBand } ∧ isMove { use := .fifo 0, st := .waitBand } = false) ∧
    (let d := setF (packs { use := .gc 1, st := .waitBand }).dev F.pgmVcfg_ARCH_STALL 1
     (getUnit d 1).st = .waitBand ∧ isMove (getUnit d 1) = true ∧ getF d F.pgmVcfg_ARCH_STALL ≠ 0) ∧
    (let s := packs { use := .fifo 0, st := .waitBand }
     progMay s.dev = true ∧ profFeat s.dev 0 8 = true ∧ canPoll s.dev 0 = true ∧
      (s.dev.pgm.units.filter fun q => decide (q.2.lun = 0 ∧ q.2.st = .waitBand)) = [(1, { use := .fifo 0, st := .waitBand })] ∧
      nfind s.dev.pgm.units 1 = some { use := .fifo 0, st := .waitBand } ∧ inBand s.dev (128 * dieTemp s.dev 0 40#8) = true) := by decide +kernel

/-- The error queue holds these entries. -/
def errs (q : List EqEntry) : State := st { dev .warm with ord := { eq := q } }

theorem wit_ErrorQueue :
    (let s := errs [{ eseq := 1, lun := 5, fin := some 2 }]
     s.dev.ord.eq.find? (fun x => decide (x.eseq = 1)) = some { eseq := 1, lun := 5, fin := some 2 } ∧
      eqTurn s.dev { eseq := 1, lun := 5, fin := some 2 } = true ∧ s.dev.mode.mode ≠ .safe ∧
      (s.dev.ord.eq.filter fun x => !x.resolved && x.act.isSome && !x.started) = []) ∧
    (socUp (errs [{ eseq := 1, resolved := true }]).dev = true ∧
      ((errs [{ eseq := 1, resolved := true }]).dev.ord.eq.any fun e => decide (e.eseq % 2 ^ 32 = (1#32).toNat) && e.resolved) = true) ∧
    ((errs [{ eseq := 1 }]).dev.ord.eq.any fun e => decide (e.eseq % 2 ^ 32 = (1#32).toNat) && e.resolved) = false := by decide

/-- The journal buffer holds one entry, while a journal page is on its way or none is. -/
def journals (busy : Bool) : State :=
  st { small .serve with pgm := { buf := [{ jseq := 1 }], pages := if busy then [(1, { kind := .journal })] else [] } }

/-- Staged zone commands on the small medium; a checkpoint is waiting or none. -/
def stages (wait : Bool) : State :=
  let o : Ord := { cmds := [(1, { opc := 0x12, staged := true })] }
  st { small .serve with ord := o, pgm := { ckptPending := if wait then some 1 else none } }

/-- Superblock 10 is full, and its units of LUN 0 are programmed: every page of LUN 0's block 10 can be swept. -/
def sweeps : Dev :=
  setF (setF { media .maintain with pgm := { units := [(1, { use := .fifo 0, lun := 0, mpb := 10, st := .done })] } } F.rrcCfg_SWEEP_EN 1)
    F.rrcTiming_SWEEP_H 24

theorem wit_TimedWork_journal :
    (∀ b ∈ [true, false], (journals b).dev.pgm.buf.getLast? = some { jseq := 1 } ∧ sysMay (journals b).dev = true ∧ jBusy (journals b).dev = b) ∧
    (nextPair (journals false).dev).isSome = true ∧ (∀ x ∈ (journals false).dev.pgm.buf, x.jseq ≤ 1) := by decide +kernel

theorem wit_TimedWork :
    (warm.dev.pins.poHigh = true ∧ warm.dev.mode.mode ≠ .off ∧ socUp warm.dev = true ∧ warm.dev.mode.restored = true) ∧
    (let d := setF { dev .serve with ageMin := 60 } F.rrcTiming_SAVE_H 1
     thrDue d = true ∧ sysMay d = true ∧ d.mode.restored = true ∧ thrDue { d with ageMin := 59 } = false) ∧
    (let s := st { small .serve with xlt := { dirtySegs := [(1, 0)] } }
     (getNs s.dev 1).present = true ∧ (getNs s.dev 1).random = true ∧ sysMay s.dev = true ∧ (nextPair s.dev).isSome = true ∧
      (s.dev.xlt.dirtySegs.any fun q => decide (q.1 = 1)) = true) := by decide +kernel

theorem wit_TimedWork_checkpoint :
    (∀ b ∈ [true, false], ((stages b).dev.ord.cmds.any fun c => decide (c.2.opc = 0x11 ∨ c.2.opc = 0x12) && c.2.staged && !c.2.durable) = true ∧
      (stages b).dev.pgm.ckptPending.isSome = b) ∧
    (let s := stages false
     sysMay s.dev = true ∧ s.dev.pgm.ckptPending = none ∧ (nextPair s.dev).isSome = true ∧
      (s.dev.pgm.pages.any fun p => decide (p.2.kind = .checkpoint)) = false) := by decide +kernel

theorem wit_TimedWork_sweep :
    isSet sweeps F.rrcCfg_SWEEP_EN = true ∧ getF sweeps F.rrcTiming_SWEEP_H ≠ 0 ∧ sweepPage sweeps 0 (10 * 256 * 4) = true ∧ sweeps.hk.shed = 0 ∧
    sweeps.mode.mode = .maintain ∧ nfind sweeps.rrc.sweptAt (sweepKey sweeps 0 (10 * 256 * 4)) = none ∧ lunUsable sweeps 0 = true ∧
    profFeat sweeps 0 5 = true ∧ nfind sweeps.rrc.sweeps (sweepKey sweeps 0 (10 * 256 * 4)) = none := by decide +kernel

/-- A ring of three zones with its gap at the lowest and at the highest position. -/
theorem wit_RingPlacesZonesApart : (0 ≤ 3 ∧ 0 < 3 ∧ 2 < 3) ∧ (3 ≤ 3) := by decide

/-- A gap move of ring 0 is queued; the zone it moves, 2, is z. -/
def gapDue (z : Zone) : State :=
  st { media .serve with xlt := { rings := [(0, { moveQueued := 1 })] }, cq := { zones := nset {} [] (zkey 0 2) z } }

theorem wit_RelocationsAndMapCache_gapMove :
    ∀ x ∈ [ZState.empty, .open_, .full],
      sgFind (gapDue { st := x }).dev 0 = some (0, zoned, { sg := 0, d := 256, f := 0, blo := 10, bhi := 13 }) ∧ zoned.random = false ∧
      (getRing (gapDue { st := x }).dev 0).reloc = none ∧ (gapDue { st := x }).dev.hk.shed < 4 ∧
      0 < (getRing (gapDue { st := x }).dev 0).moveQueued ∧ relocMay (gapDue { st := x }).dev .gapMove 0 = true ∧
      (let r := getRing (gapDue { st := x }).dev 0
       let zl := ringZone r.w r.gap (ringS { blo := 10, bhi := 13 }) (gapPositions { blo := 10, bhi := 13 } r).1
       (getZone (gapDue { st := x }).dev 0 (ringZoneNo zoned 0 zl)).st = x) := by decide +kernel

/-- Superblocks of the pool of namespace 1, the fullest last, the second with v valid sectors. -/
def collects (v : Nat) : State :=
  st { media .serve with xlt := { sbs := [(65550, { pool := 2, valid := 4 }), (65551, { pool := 2, valid := v }), (65552, { pool := 1 }), (65553, { pool := 1 })] } }

theorem wit_RelocationsAndMapCache :
    (let s := st { media .serve with xlt := { rings := [(0, { reloc := some { phase := 1 } })] } }
     sgFind s.dev 0 = some (0, zoned, { sg := 0, d := 256, f := 0, blo := 10, bhi := 13 }) ∧ (getRing s.dev 0).reloc = some { phase := 1 } ∧
      relocMay s.dev .gapMove 0 = true ∧ ({ phase := 1 } : Reloc).kind = .gapMove ∧ ({ phase := 1 } : Reloc).units ≤ ({ phase := 1 } : Reloc).unit ∧
      ({ phase := 1 } : Reloc).cur = none ∧
      (s.dev.pgm.units.all fun u => decide (u.2.use ≠ .ring 0) || u.2.durable || decide (u.2.st = .abandoned)) = true) ∧
    (∀ v ∈ [0, 3], (getNs (collects v).dev 1).random = true ∧ (getNs (collects v).dev 1).present = true ∧ getGc (collects v).dev 1 = none ∧
      (collects v).dev.mode.mode.run = true ∧ (collects v).dev.mode.bgStop = false ∧ (collects v).dev.hk.shed < 4 ∧
      gcVictim (collects v).dev (getNs (collects v).dev 1) = some 65551 ∧ (getSb (collects v).dev 65551).valid = v) ∧
    0 < sbUnits (collects 3).dev (getNs (collects 3).dev 1) 65551 ∧ socUp warm.dev = true := by decide +kernel
/-! ### Witnesses: queues, completions, commands -/

/-- SQ 1 with four entries on CQ 2; CQ 2 with four entries. -/
def queues (d : Dev) (sqOn cqOn : Nat) : Dev :=
  setF (setF (setF (setF (setF d F.cqSqcfg_SIZE 3 1) F.cqSqcfg_CQID 2 1) F.cqSqcfg_EN sqOn 1) F.cqCqcfg_SIZE 3 2) F.cqCqcfg_EN cqOn 2

/-- The block with the queues, SQ 1 as given. -/
def sqIs (q : SubQ) (d : Dev := dev .serve) : State := st { queues d 1 1 with cq := { sqs := [(1, q)] } }

theorem wit_QueuesAreSetUpAndReset :
    (let s := st (queues (dev .serve) 0 1)
     socUp s.dev = true ∧ sqEn s.dev 1 = false ∧ getF s.dev F.cqSqcfg_SIZE 1 ≠ 0 ∧ cqEn s.dev (getF s.dev F.cqSqcfg_CQID 1) = true ∧
      (getSq s.dev 1).rst = false) ∧
    (sqEn serve.dev 63 = false ∧ getF serve.dev F.cqSqcfg_SIZE 63 = 0) ∧
    (let s := st (queues (dev .serve) 0 0); cqEn s.dev 2 = false ∧ getF s.dev F.cqCqcfg_SIZE 2 ≠ 0 ∧ cqNamed s.dev 2 = false) ∧
    ((getSq (sqIs {}).dev 1).rst = false ∧ sqEn (sqIs {}).dev 1 = true ∧
      (∀ p ∈ (sqIs {}).dev.ord.cmds, p.2.sq ≠ 1 ∧ isObserve p.2 = false)) ∧
    ((getSq (sqIs { rst := true, clearEn := true }).dev 1).rst = true ∧ (getSq (sqIs { rst := true, clearEn := true }).dev 1).clearEn = true ∧
      ((sqIs { rst := true }).dev.ord.cmds.any fun c => decide (c.2.sq = 1 ∧ c.2.st ≠ .released)) = false) ∧
    (let s := st (queues (dev .serve) 0 1); cqEn s.dev 2 = true ∧ cqNamed s.dev 2 = false) ∧
    (cqEn (sqIs {}).dev 2 = true ∧ cqNamed (sqIs {}).dev 2 = true) := by decide

/-- The quiesce of the queues is asked for. -/
def quiesced (d : Dev) : Dev := { d with ord := { quiesce := true } }

theorem wit_DoorbellsAndFetching :
    (∀ v ∈ [0, 3], let s := sqIs {}
      running s.dev = true ∧ s.dev.mode.mode ≠ .dormant ∧ s.dev.ord.quiesce = false ∧ sqEn s.dev 1 = true ∧ (getSq s.dev 1).rst = false ∧
        (BitVec.ofNat 32 v).toNat % 65536 < sqLen s.dev 1 ∧ s.dev.mode.mode.run = true ∧ s.dev.mode.trans = none) ∧
    (sqLen (sqIs {}).dev 1 ≤ (4#32).toNat % 65536 ∧ sqEn serve.dev 1 = false) ∧
    ((quiesced (dev .serve)).ord.quiesce = true ∧ (getSq (quiesced (dev .serve)) 1).rst = false) ∧
    (let s := st { queues (dev .serve) 1 1 with cq := { cqs := [(2, { tail := 3 })] } }
     running s.dev = true ∧ s.dev.mode.mode ≠ .dormant ∧ cqEn s.dev 2 = true ∧ (3#32).toNat % 65536 < cqLen s.dev 2 ∧
      ((3#32).toNat % 65536 + cqLen s.dev 2 - (getCqq s.dev 2).head) % cqLen s.dev 2 ≤ cqUnread s.dev 2 ∧
        (getCqq s.dev 2).waiting = []) ∧
    (let s := sqIs { tail := 2 } (setF (dev .serve) F.cqSqcfg_C0_EN 1 1)
     fetchMay s.dev = true ∧ fetchPick s.dev = some 1 ∧ isSet s.dev F.cqSqcfg_C0_EN 1 = true ∧ (getSq s.dev 1).ask < sqLen s.dev 1) ∧
    (let s := sqIs { tail := 2 } (setF (dev .serve) F.cqSqcfg_C0_EN 1 7)
     fetchMay s.dev = true ∧ fetchPick s.dev = some 1 ∧ isSet s.dev F.cqSqcfg_C0_EN 1 = false ∧ (getSq s.dev 1).ask < sqLen s.dev 1 ∧
       isSet s.dev F.cqSqcfg_C0_EN 7 = true) ∧
    fetchMay warm.dev = false := by decide

/-- Command 1 has finished on SQ 1, whose CQ 2 is c. -/
def finishedOn (c : ComplQ) : State :=
  st { queues (dev .serve) 1 1 with ord := { cmds := [(1, { sq := 1, st := .finished })] }, cq := { cqs := [(2, c)] } }

def finished : State := finishedOn {}

theorem wit_CompletionsAndQuiesce :
    (nfind (cmdSweep finished.dev).ord.cmds 1 = some { sq := 1, st := .finished } ∧ running finished.dev = true ∧
      running (cmdSweep finished.dev) = true ∧ (cmdSweep finished.dev).mode.mode ≠ .safe ∧
      releaseReady (cmdSweep finished.dev) 1 { sq := 1, st := .finished } = true ∧
      orderHeld (cmdSweep finished.dev) 1 { sq := 1, st := .finished } = false ∧
      (getCqq (cmdSweep finished.dev) (cmdCq (cmdSweep finished.dev) { sq := 1, st := .finished })).waiting.contains 1 = false ∧
      cqFull (cmdSweep finished.dev) 2 = false ∧ (getCqq (cmdSweep finished.dev) 2).stopped = false ∧ cqEn (cmdSweep finished.dev) 2 = true ∧
      (getCqq (cmdSweep finished.dev) 2).waiting = [] ∧ cmdCq (cmdSweep finished.dev) { sq := 1, st := .finished } = 2) ∧
    (let d := cmdSweep (finishedOn { tail := 3 }).dev
     nfind d.ord.cmds 1 = some { sq := 1, st := .finished } ∧ running d = true ∧ d.mode.mode ≠ .safe ∧
      releaseReady d 1 { sq := 1, st := .finished } = true ∧ orderHeld d 1 { sq := 1, st := .finished } = false ∧
      (getCqq d (cmdCq d { sq := 1, st := .finished })).waiting.contains 1 = false ∧ cqFull d 2 = true) ∧
    (((1, { sq := 1 }) ∈ [((1 : Nat), ({ sq := 1 } : Cmd))]) ∧ 1 < 2 ∧ ({ sq := 1 } : Cmd).st ≠ .released ∧
      nbit ({ sq := 1, flags := 1 } : Cmd).flags 0 = true) ∧
    (let s := st { setF (queues (dev .serve) 1 1) F.cqCqcfg_AGG_T 5 2 with cq := { cqs := [(2, { firstAt := some 0 })] } }
     (getCqq s.dev 2).firstAt.isSome = true ∧ getF s.dev F.cqCqcfg_AGG_T 2 ≠ 0 ∧ pendGet s.dev 2 = false) ∧
    (socUp serve.dev = true ∧ pendGet (setReg serve.dev .cqPendlo 0 2) 1 = true ∧ nbit (2#32).toNat 1 = true ∧ nbit (2#32).toNat 0 = false) ∧
    (socUp serve.dev = true ∧ serve.dev.ord.quiesce = false) ∧
    (socUp (quiesced (dev .serve)) = true ∧ (quiesced (dev .serve)).cq.sqs = [] ∧ (quiesced (dev .serve)).cq.cqs = []) ∧
    ((quiesced (dev .serve)).ord.quiesce = true ∧ commandsOut (quiesced (dev .serve)) = false ∧
      pantryDurable (cmdSweep (quiesced (dev .serve))) = true) ∧
    (socUp warm.dev = true ∧ warm.dev.mode.mode = .warm ∧ warm.dev.mode.runEntered = false ∧ warm.dev.mode.restored = true ∧
      ((0x7FFFFFFF#32).toNat + 2 ^ 32 - warm.dev.ord.epoch) % 2 ^ 32 < 2 ^ 31 ∧ serve.dev.mode.mode ≠ .warm) := by decide

/-- A command with this opcode, DMODE and namespace. -/
def cmd (opc dm ns : Nat) : Cmd := { opc := opc, dmode := dm, ns := ns, entry := [0, 0, 0, 0, 0, BitVec.ofNat 8 dm] }

/-- Command 1 is the next to check; namespace 0's zone 0 is z. -/
def asks (c : Cmd) (z : Zone := {}) : State :=
  st { small .serve with
         cfg := { (small .serve).cfg with nss := [(0, { zoned with width := 2 }), (1, pool)] },
         cq := { zones := nset {} [] (zkey 0 0) z }, ord := { cmds := [(1, c)] } }

/-- ARG0 of a READ must be zero. -/
theorem wit_CommandsAreCheckedInOrder :
    (nextCheck (asks { cmd 1 1 0 with arg0 := 1 }).dev = some (1, { cmd 1 1 0 with arg0 := 1 }) ∧ running (asks { cmd 1 1 0 with arg0 := 1 }).dev = true ∧
      cmdCheck (asks { cmd 1 1 0 with arg0 := 1 }).dev { cmd 1 1 0 with arg0 := 1 } ≠ 0 ∧
      nfind (asks { cmd 1 1 0 with arg0 := 1 }).dev.ord.cmds 1 = some { cmd 1 1 0 with arg0 := 1 }) ∧
    nextCheck serve.dev = none := by decide

/-- A command of each opcode and namespace that passes every check. -/
def passing : List Cmd :=
  [cmd 1 1 0, cmd 6 0 0, cmd 2 1 0, cmd 3 1 0, cmd 1 1 1, cmd 2 1 1, cmd 5 0 1, cmd 0x10 0 0, cmd 0x11 0 0, cmd 0x12 0 0, cmd 0x13 1 0]

/-- The map cache is off, and command 1 is the next to check. -/
def uncached (c : Cmd) : Dev := setF (asks c).dev F.xltMcctl_EN 0

/-- A VERIFY and a READ of the unmapped sector 0. -/
theorem wit_CommandsOnDataAndZones_unmapped :
    ∀ c ∈ [cmd 6 0 0, cmd 1 1 0],
      Passes (uncached c) 1 c.opc c ∧ mcOn (uncached c) = false ∧ c.ladled = false ∧ c.errs = [] ∧ c.chain = none ∧
      (∀ x ∈ (uncached c).dma.rdq, x.1 ≠ 1) ∧ (∀ i ≤ c.nlb, resolve (begun 1 c (uncached c)) 1 c.ns (c.lba + i) = .unmapped) ∧
      c.dmode ≠ 2 ∧ c.purpose = none ∧ (getNs (uncached c) c.ns).unwErr = false ∧ (uncached c).cfg.zeroUnwErr = false ∧
      readsMoving (uncached c) < 256 := by
  unfold Passes; decide +kernel

theorem wit_CommandsOnDataAndZones :
    (∀ c ∈ passing, Passes (asks c).dev 1 c.opc c ∧ c.errs = []) ∧
    (∀ x ∈ [ZState.open_, .empty], Passes (asks (cmd 0x10 0 0) { st := x }).dev 1 0x10 (cmd 0x10 0 0) ∧
      (getZone (asks (cmd 0x10 0 0) { st := x }).dev 0 (cmdZone (asks (cmd 0x10 0 0) { st := x }).dev (cmd 0x10 0 0))).st = x) ∧
    (∀ k ∈ [0x11, 0x12], Passes (asks (cmd k 0 0) { st := .open_ }).dev 1 k (cmd k 0 0) ∧
      (getZone (asks (cmd k 0 0) { st := .open_ }).dev 0 (cmdZone (asks (cmd k 0 0) { st := .open_ }).dev (cmd k 0 0))).st = .open_) ∧
    (∀ k ∈ [2, 3], Passes (asks (cmd k 1 0) { st := .open_, zcap := 2 }).dev 1 k (cmd k 1 0)) ∧
    (let d := (asks (cmd 2 1 0) { st := .open_, zcap := 2 }).dev
     (getNs d 0).random = false ∧ (getZone d 0 (cmdZone d (cmd 2 1 0))).st = .open_ ∧ pathPad d (cmd 2 1 0) (cmdZone d (cmd 2 1 0)) = 0 ∧
      nbit (cmd 2 1 0).flags 1 = false ∧
      (getZone d 0 (cmdZone d (cmd 2 1 0))).wp + ((cmd 2 1 0).nlb + 1) < (getZone d 0 (cmdZone d (cmd 2 1 0))).zcap) ∧
    (∀ x ∈ [ZState.full, .empty], let d := (asks (cmd 0x11 0 0) { st := x }).dev; (getZone d 0 (cmdZone d (cmd 0x11 0 0))).st = x) := by
  unfold Passes; decide +kernel

/-- A FLUSH with an earlier write that is not DURABLE. -/
def flushLate : Dev :=
  { (asks (cmd 4 0 0)).dev with ord := { cmds := [(1, { cmd 2 1 0 with st := .running, kind := 2, need := 1, len := 1 }), (2, cmd 4 0 0)] } }

theorem wit_FlushEpochAndCustody :
    (Passes (asks (cmd 4 0 0)).dev 1 4 (cmd 4 0 0) ∧ coverDurable (flushCover 0 1) (cmdSweep (begun 1 (cmd 4 0 0) (asks (cmd 4 0 0)).dev)) = true) ∧
    (Passes flushLate 2 4 (cmd 4 0 0) ∧ coverDurable (flushCover 0 2) (cmdSweep (begun 2 (cmd 4 0 0) flushLate)) = false ∧
      (begun 2 (cmd 4 0 0) flushLate).mode.mode ≠ .safe) ∧
    (Passes (asks (cmd 0x21 0 0)).dev 1 0x21 (cmd 0x21 0 0) ∧
      coverDurable (epochCover (cmd 0x21 0 0).arg0) (cmdSweep (begun 1 (cmd 0x21 0 0) (asks (cmd 0x21 0 0)).dev)) = true) ∧
    Passes (asks (cmd 0x20 0 0)).dev 1 0x20 (cmd 0x20 0 0) ∧
    (let c := cmd 0x31 0 0
     let d : Dev := { (asks c).dev with cq := { regions := [(0, ⟨4096, 4096, 0⟩)] } }
     Passes d 1 0x31 c) ∧
    (nfind serve.dev.cq.regions 0 = none ∧ ∀ j < 0, (nfind serve.dev.cq.regions j).isSome = true) := by
  unfold Passes; decide +kernel
/-! ### Witnesses: the ladle, energy and hold-up -/

/-- Custody of a region of 4 KiB with cover for it: CUSTODY_REGISTER passes its checks. -/
def regionCover : Dev :=
  let d := (asks { cmd 0x30 0 0 with arg0 := 4096 }).dev
  { d with cfg := { d.cfg with done := true, holdup := bytes 64 [(0x20, 1)] }, hup := { zoneBytes := 2 ^ 40 } }

theorem wit_FlushEpochAndCustody_register : Passes regionCover 1 0x30 { cmd 0x30 0 0 with arg0 := 4096 } := by unfold Passes; decide +kernel

/-- Every port is enabled; context 5, at level 0, is in this state with words to fill in FIFO 5. -/
def ladles (c : DmaCtx) (kind : Nat := 0) (d : Dev := dev .serve) (en : Nat := 1) : State :=
  let d := setF (setF (setF (setF (setF (setF d F.glbMpCfg_MPR_EN 15) F.glbMpCfg_MPW_EN 15) F.dmaCtxcfg_EN en 5) F.dmaCtxcfg_KIND kind 5)
    F.dmaCtxcfg_PRIO 0 5) F.fifoCfg_SIZE 4 5
  st { d with dma := { ctxs := [(5, c)] } }

/-- A context that moves a descriptor's 4,096 bytes. -/
def moving : DmaCtx := { state := 1, rem := 4096, desc := some {} }

theorem wit_LadleCommands_grants :
    (pickPort (ladles moving).dev false = some 0 ∧ pickPort (ladles moving).dev true = some 4 ∧ pickPort (ladles moving).dev (decide (4 ≤ 3)) ≠ some 3) ∧
    (let s := ladles { moving with cmd := some 1, cmdLeft := 4096 } 0 { dev .serve with ord := { cmds := [(1, { cls := 0 })] } }
     pickPort s.dev false = some 0 ∧ c0Ctx s.dev = some 5) ∧
    (c0Ctx (ladles moving).dev = none ∧ prioCtx (ladles moving).dev = some (0, 5, false) ∧ (getCtx (ladles moving).dev 5).desc = some {} ∧
      (getCtx (ladles moving).dev 5).skip = 0 ∧ ctxPaced (ladles moving).dev 5 = false) := by decide +kernel

theorem wit_LadleCommands :
    (∀ x ∈ [0, 1, 2], let s := ladles { state := x } 1
      socUp s.dev = true ∧ ctxEn s.dev ((5#32).toNat % 64) = true ∧ ctxStream s.dev ((5#32).toNat % 64) = true ∧
        (getCtx s.dev ((5#32).toNat % 64)).state = x ∧ (getCtx s.dev 5).reading = false ∧ (getCtx s.dev 5).hold = []) ∧
    ((getCtx (ladles { state := 3 }).dev 5).state = 3 ∧ (getCtx (ladles { state := 3 }).dev 5).bursts = [] ∧
      (getCtx (ladles { state := 3 }).dev 5).reading = false) ∧
    (getCtx (ladles { state := 3, bursts := [{}] }).dev 5).bursts ≠ [] ∧
    (let s := ladles { state := 4, before := 1 } 1
     socUp s.dev = true ∧ (getCtx s.dev 5).state = 4 ∧ (getCtx s.dev 5).before ≠ 2 ∧ ctxStream s.dev 5 = true) ∧
    (socUp (ladles { state := 2 }).dev = true ∧ ctxEn (ladles { state := 2 }).dev 5 = true ∧ ctxMayOff (ladles { state := 2 }).dev 5 = true ∧
      (getCtx (ladles { state := 2 }).dev 5).hold = []) ∧
    (let s := ladles {} 1 (dev .serve) 0
     socUp s.dev = true ∧ ctxEn s.dev 5 = false ∧ isSet s.dev F.dmaCtxctl_PAUSE 5 = false ∧ ctxStream s.dev 5 = true) := by decide +kernel

/-- A store at 0 V, which is full, with a HOLDUP section: hours between checks, and no level that covers. -/
def stored (m : Mode) (h : Hup) : Dev := { dev m with cfg := { done := true, holdup := bytes 64 [(0x1E, 1)] }, hup := h, ageMin := 60 }

theorem wit_EnergyAndHealth :
    (let d := setF (stored .serve {}) F.hupStat_COVER 1
     socUp d = true ∧ d.cfg.done = true ∧ d.mode.mode ≠ .holdup ∧ isSet d F.hupStat_COVER = true ∧ cover d = false ∧ d.mode.mode.run = true) ∧
    (socUp regionCover = true ∧ regionCover.cfg.done = true ∧ regionCover.mode.mode ≠ .holdup ∧ cover regionCover = true) ∧
    (healthMay (stored .serve { chargeEn := true }) = true ∧ healthDue (stored .serve { chargeEn := true }) = true ∧
      healthDue (stored .serve { checkMin := 1 }) = false ∧ healthMay (stored .standby {}) = false) ∧
    (∀ p ∈ [1, 2, 3], socUp (stored .serve { phase := p }) = true ∧ (stored .serve { phase := p }).hup.phase = p ∧
      huBattery (stored .serve { phase := p }) = false) := by decide +kernel

/-- The third phase measures the nominal capacitance of 100. -/
theorem wit_EnergyAndHealth_measured :
    let d := { stored .serve { phase := 3 } with cfg := { done := true, holdup := bytes 64 [(0x1E, 1), (6, 100)] } }
    (100 : Nat) = (divOpen (100 * 100 : Nat) 100).toNat ∧ socUp d = true ∧ d.hup.phase = 3 ∧ huCnom d ≤ 100 * 4 ∧ 100 * 2 ≤ 3 * huCnom d := by
  refine ⟨?_, by decide +kernel⟩
  simp [divOpen]

/-- HOLDUP is saving. -/
def saving (h : Hup) : Dev := { dev .holdup with hup := { h with saving := true, running := true } }

theorem wit_SavingAndRestoration_saving :
    (let d := saving { todo := [.region 0 0 4096] }
     d.hup.saving = true ∧ d.hup.ended = false ∧ d.hup.todo ≠ [] ∧ 0 ≤ 0 + huReserve d * 100000 ∧ 0 + huReserve d * 100000 < 1) ∧
    (let d := saving {}
     d.hup.saving = true ∧ d.hup.ended = false ∧ d.hup.units = [] ∧ manifestMay d = true ∧ d.hup.todo = [] ∧ d.hup.queue = [] ∧
      (d.ord.ops.any fun o => !hupKeeps o.2) = false ∧
      (saving { short := true }).hup.short = true ∧ (saving { units := [(0, {})] }).hup.units ≠ []) ∧
    (let d := saving { ended := true, doneJ := 1 }
     hupMayEnd { d with pgm := { written := 1 } } = true ∧ d.hup.empty = false ∧ d.spl.braking = false ∧ (getSlot d 2).st ≠ 1 ∧ hupMayEnd d = false) := by
  decide +kernel

theorem wit_SavingAndRestoration :
    (let d := { dev .warm with hup := { waiting := true, restore := some {} } }
     socUp d = true ∧ d.hup.waiting = true ∧ d.hup.restore = some {}) ∧ serve.dev.hup.waiting = false ∧
    (({ rstep := 1, restore := some {} } : Hup).restore = some {} ∧ unitsBack { serve.dev with pgm := { units := [(1, { use := .fifo 0 })] } } = false) ∧
    (({ rstep := 2, writesLeft := 1 } : Hup).writesLeft ≠ 0 ∧ ({ rstep := 2 } : Hup).writesLeft = 0) ∧
    (jWritten (saving { doneJ := 1 }) 1 = false ∧ jWritten (saving {}) 0 = true) ∧
    (({ rstep := 4, eraseLeft := 1 } : Hup).eraseLeft ≠ 0 ∧ ({ rstep := 4 } : Hup).eraseLeft = 0) ∧
    coverFor serve.dev (boundWith serve.dev 0) = false := by decide +kernel

/-! ### Witnesses: measurement, loops, calibration -/

/-- Input 7 is the second input of ADC0's table, with an open test due on input 8; a thermal section of one zone with a fan. -/
def measures : Dev :=
  { small .serve with
      adc := { started := true, table := [0, 7], sink := [8] }, loops := { duty := [(3, 100)] },
      cfg := { (small .serve).cfg with thermal := bytes 64 [(0, 1), (0x19, 3), (0x1A, 2), (0x1F, 10)] } }

theorem wit_MeasurementCommands :
    (socUp measures = true ∧ isSet measures F.adcStat_CAL_OK = false ∧ zones serve.dev = []) ∧
    (measures.adc.table[20 * 0 + 1]? = some 7 ∧ frameInput 7 = some 7 ∧ 7 ∉ measures.adc.sink) ∧
    (socUp measures = true ∧ 8 ∈ measures.adc.sink ∧ 8 ∉ measures.adc.tested) ∧ canPoll measures 0 = true ∧
    (let d := { measures with scheds := [(0, { suspended := true })] }
     canPoll d 0 = false ∧ lunUsable d 0 = true ∧ profFeat d 0 8 = true ∧ d.mode.mode.flash = true) ∧
    (0 ∈ zones measures ∧ zoneByte measures 0 0x19 ≠ 0xFF ∧ zoneByte measures 0 0x1A ≠ 0xFF ∧
      0 < nget 0 measures.loops.duty (zoneByte measures 0 0x19) ∧
      getF measures F.thmTach_RPM (zoneByte measures 0 0x1A) < 100 * zoneByte measures 0 0x1F) := by decide +kernel

/-- Slot 5, with a section of zeros, is in state x. -/
def looped (x : Nat) : Dev := { dev .serve with cfg := { done := true }, loops := { slots := [(5, { sect := true, st := x })], tripped := true } }

theorem wit_LoopCommands :
    (∀ x ∈ [0, 1, 5], loopsRun (looped x) = true ∧ loopHost (looped x) 5 = true ∧ (getSlot (looped x) 5).st = x) ∧
    (∀ n ∈ [6, 7], let d := setF (looped 1) F.loopOvr_CONSEC n 5; loopsRun d = true ∧ getF d F.loopOvr_CONSEC 5 = n ∧ (getSlot d 5).st = 1) ∧
    ((getSlot (looped 0) 5).sect = true ∧ lossCause (looped 0) 5 (getSlot (looped 0) 5) (q15Sat (sourceVal (looped 0) 5 (slotPv (getSlot (looped 0) 5)))).1 = none) ∧
    (looped 0).mode.mode ≠ .factory ∧
    (let d := setF (setF (looped 0) F.loopCsel_SLOT 5) F.loopCsel_W 47
     socUp d = true ∧ getF d F.loopCsel_W ≠ 12 ∧ coeffWritable (getSlot d (getF d F.loopCsel_SLOT)) (getF d F.loopCsel_SLOT) (getF d F.loopCsel_W) = true) ∧
    (let d := setF (setF (looped 1) F.loopCsel_SLOT 5) F.loopCsel_W 47
     socUp d = true ∧ coeffWritable (getSlot d (getF d F.loopCsel_SLOT)) (getF d F.loopCsel_SLOT) (getF d F.loopCsel_W) = false) ∧
    (let d := setF (looped 0) F.loopTrip_OV_CODE 5
     loopsRun d = true ∧ getF d F.loopTrip_OV_CODE ≠ 0x3FFF ∧ slotDst (getSlot d 0) < 24 ∧ d.loops.tripped = true) := by decide +kernel

theorem wit_LoopOutputsStayWithinLimits : slotOutMin {} ≤ slotOutMax {} ∧ slotOutMin (getSlot (looped 1) 5) ≤ slotOutMax (getSlot (looped 1) 5) := by
  decide

/-- Channel 0's calibration stands so, 24 hours after its last. -/
def cals (x : CalCh) (b : Build := .premel8) : Dev :=
  { small .serve with build := b, cfg := { (small .serve).cfg with calSec := bytes 16 [(4, 24), (6, 40), (7, 60), (8, 20)] }, ageMin := 1440,
                      cal := { chans := [(0, x)] }, now := 40000 }

/-- Legs of 800 Ω and of 1,200 Ω; a delay line of 80 cells, or of 40 good ones; and a centre at tap p. -/
def calMeas (p : Nat := 32) (cells : List (List Nat) := []) : CalMeas :=
  { lines := [{ rdCentre := p }], cells := cells, drvUp := List.replicate 24 800, drvDn := List.replicate 24 800,
    odtUp := List.replicate 24 1200, odtDn := List.replicate 24 1200 }

theorem wit_CalibrationCommands_triggers :
    (calIntervalH (cals {}) ≠ 0 ∧ calIntervalH (cals {}) * 60 ≤ (cals {}).ageMin - (getCal (cals {}) 0).lastMin ∧ (cals {}).hk.shed < 2 ∧
      chanMapped (cals {}) 0 = true ∧ linkUp (cals {}) (groupOf 0) = true ∧ linkUp { cals {} with groups := [] } (groupOf 0) = false ∧
      socUp (cals {}) = true ∧ chanMapped { cals {} with groups := [] } 0 = true) ∧
    ((getCal (cals {}) 0).running = 0 ∧ (getCal (cals {}) 0).pending = none ∧ calMayStart (cals {}) 0 = true ∧
      calMayStart { cals {} with mode := { mode := .standby } } 0 = false ∧ (getCal (cals { pending := some ({}, 0) }) 0).pending.isSome = true) ∧
    (refTol (cals {}) < (refPick [21, 30, 30, 30, 30, 30]).2.2 ∧ (refPick [20, 30, 30, 30, 30, 30]).2.2 ≤ refTol (cals {}) ∧
      -64 ≤ ({} : RefMeas).ofs0 ∧ ({} : RefMeas).ofs0 ≤ 64 ∧ 32768 * 95 ≤ ({} : RefMeas).gain0 * 100 ∧ ({} : RefMeas).gain0 * 100 ≤ 32768 * 105) := by
  decide +kernel

theorem wit_CalibrationCommands_runs :
    ((getCal (cals { running := 1 }) 0).running ≠ 0 ∧ linkUp (cals { running := 1 }) (groupOf 0) = true ∧
      cellsFail (calRunSet (cals { running := 1 }) 0 (calMeas 32 [[]])) = true ∧
      cellsFail (calRunSet (cals { running := 1 }) 0 (calMeas 3)) = false ∧ calPlausible (calRunSet (cals { running := 1 }) 0 (calMeas 3)) = false ∧
      cellsFail (calRunSet (cals { running := 1 }) 0 calMeas) = false ∧ calPlausible (calRunSet (cals { running := 1 }) 0 calMeas) = true ∧
      (cals { running := 1 }).build ≠ .premel64) ∧
    (calPlausible (calRunSet (cals { running := 3 }) 0 calMeas) = true ∧ (getCal (cals { running := 3 }) 0).running = 3) ∧
    (let d := cals { running := 1, run1 := some (calRunSet (cals { running := 1 }) 0 calMeas) } .premel64
     linkUp d (groupOf 0) = true ∧ (getCal d 0).run1 = some (calRunSet (cals { running := 1 }) 0 calMeas) ∧ calPlausible (calRunSet d 0 calMeas) = true ∧
      calAgree (calRunSet (cals { running := 1 }) 0 calMeas) (calRunSet d 0 calMeas) = true ∧
      calAgree (calRunSet (cals { running := 1 }) 0 calMeas) (calRunSet d 0 (calMeas 35)) = false ∧ calPlausible (calRunSet d 0 (calMeas 35)) = true) ∧
    (let d := cals { running := 1 } .premel64
     linkUp d (groupOf 0) = true ∧ (getCal d 0).run1 = none ∧ calPlausible (calRunSet d 0 calMeas) = true) := by decide +kernel

theorem wit_CalibrationCommands_gaps :
    (let d := cals { pending := some ({}, 0) }
     (getCal d 0).pending = some ({}, 0) ∧ linkUp d (groupOf 0) = true ∧ d.mode.mode.flash = true ∧ busIdle d 0 = true ∧
      (getCal d 0).forcing = false ∧ d.mode.mode ≠ .holdup ∧ (getCal d 0).pendingAt + Machine.ms (max 1 (getF d F.calCfg_FORCE_MS)) ≤ d.now ∧
      class0Present d 0 = false ∧ class0Present { d with scheds := [(0, { q0 := [{}] })] } 0 = true ∧
      (getChan { d with chans := [(0, { running := some 0 })] } 0).running.isSome = true) ∧
    (getCal (cals {}) 0).pending = none := by decide +kernel

/-! ### Witnesses: integrity, protection, the housekeeper -/

theorem wit_IntegrityAndDebug :
    (∀ m ∈ [0, 4], 0 < memInsts serve.dev m ∧ scrubRuns serve.dev m 0 = true ∧ nget 0 serve.dev.mem.scrubAt (64 * m + 0) + 1 < lapSteps m ∧
      0 < lineWords m ∧ serve.dev.mem.log = []) ∧
    (memMedia 4 = false ∧ (4 : Nat) ≠ 0xB) ∧
    (let d := { dev .serve with mem := { scrubAt := [(64 * 5, 255)], lapFrom := [(64 * 5, 0)] } }
     0 < memInsts d 5 ∧ scrubRuns d 5 0 = true ∧ lapSteps 5 ≤ nget 0 d.mem.scrubAt (64 * 5 + 0) + 1 ∧ memMedia 5 = false ∧
      (nfind d.mem.lapFrom (64 * 5 + 0)).isSome = true) ∧
    scrubRuns standby.dev 0 0 = false ∧ socUp serve.dev = true ∧
    (isSet serve.dev F.dbgTrcfg_EN = false ∧ nbit (0x80000000#32).toNat 31 = true ∧ isSet (setF serve.dev F.dbgTrcfg_EN 1) F.dbgTrcfg_EN = true) := by
  decide +kernel

/-- The command sequence stands so, in WARM at PL0 with namespace 2 protected. -/
def secures (x : Sec) (o : Otp := {}) : Dev := { dev .warm with sec := x, otp := o, cfg := { nss := [(2, { present := true, prot := true })] } }

theorem wit_SecuredOperationsAndTheirSequence_sequence :
    (∀ x ∈ [0, 1, 2, 3, 4, 5], socUp (secures { st := x }) = true ∧ (secures { st := x }).sec.st = x ∧ secLate (secures { st := x }) = false) ∧
    (1 ≤ nbits (1#32).toNat 7 0 ∧ nbits (0x0A#32).toNat 7 0 ≤ 0x0A ∧ nbits (0#32).toNat 7 0 = 0 ∧ 0x0A < nbits (0x0B#32).toNat 7 0) ∧
    (1#32 ≠ 0x53454B41#32 ∧ 1#32 ≠ 0x53454B42#32) ∧ (secures { st := 6 }).sec.st = 6 ∧
    (socUp { secures { st := 1 } with now := 5000 } = true ∧ secLate { secures { st := 1 } with now := 5000 } = true) := by decide +kernel

theorem wit_SecuredOperationsAndTheirSequence :
    secAllowed { secures { st := 5, op := 2 } with mode := { mode := .standby } } 2 = false ∧
    (∀ k ∈ [1, 2, 3, 4, 5, 6, 7, 8, 9, 10], secAllowed (secures { st := 5, op := k }) k = true ∧ (secures { st := 5, op := k }).sec.st = 5) ∧
    (∀ p ∈ [1, 3], let d := secures { st := 5, op := 1, addr := BitVec.ofNat 32 p }
      level d < d.sec.addr.toNat ∧ d.sec.addr.toNat ≤ 3 ∧ d.otp.log.length < 32 ∧ d.otp.pl3.length < 4) ∧
    (let d := secures { st := 5, op := 2, addr := 0 } { log := [(false, 2)] }
     d.sec.addr.toNat < level d ∧ level d < 3 ∧ d.otp.log.length ≤ 30 ∧ d.sec.lkLock = false ∧ d.mode.restored = true) ∧
    (secures { lkLock := true }).sec.lkLock = true ∧ (3 < (secures { addr := 4 }).sec.addr.toNat) ∧
    (nsProtected (secures { addr := 2 }) 2 = true ∧ nfind (secures {}).sec.creds 2 = none ∧ nget 0 (secures { badCred := [(2, 7)] }).sec.badCred 2 < 8 ∧
      (secures { addr := 0xFF }).sec.addr = 0xFF#32) ∧
    (otpWithheld (secures {}) = false ∧ nget 0 (secures { addr := 11 }).otp.keyHash 11 = 0 ∧ nget 0 (secures { addr := 7 }).otp.capKey 7 = 0 ∧
      (secures {}).otp.floor ≤ (0#32).toNat % 65536) ∧
    (∀ r i, regAt (secures { addr := 2 }).sec.addr.toNat = some (r, i) → r ≠ .secSancfg ∧ r ≠ .fijCtl) := by
  refine ⟨by decide, by decide, by decide, by decide, by decide, by decide, by decide, by decide, ?_⟩
  intro r i h
  have : regAt (secures { addr := 2 }).sec.addr.toNat = none := by decide
  exact absurd (this.symm.trans h) (by simp)

/-- The credential that is presented is the one that was set; PRM_SEC_SANCFG and PRM_FIJ_CTL have a place in the window. -/
theorem wit_SecuredOperationsAndTheirSequence_places :
    nfind (secures { creds := [(2, credHash (secures {}) 2 0 0)] }).sec.creds 2 = some (credHash (secures {}) 2 0 0) ∧
    (∃ a : Word, ∃ i, regAt a.toNat = some (Reg.secSancfg, i)) ∧ ∃ a : Word, ∃ i, regAt a.toNat = some (Reg.fijCtl, i) :=
  ⟨rfl, ⟨BitVec.ofNat 32 Reg.secSancfg.place.base, 0, by decide +kernel⟩, ⟨BitVec.ofNat 32 Reg.fijCtl.place.base, 0, by decide +kernel⟩⟩

/-- SANITIZE with every step done but the last. -/
def sanitizes (done : Nat) : Dev :=
  { dev .sanitize with sec := { sanitize := true, sanZeroed := true, sanCopied := true, sanTotal := 1, sanDone := done } }

theorem wit_OtpWritesAndSanitize :
    (∀ k ∈ [1, 2, 6, 7, 8, 9], (secures { busy := some k }).sec.busy = some k) ∧ 1 ≤ (secures { addr := 1 }).sec.addr.toNat ∧
    (serve.dev.sec.busy = none ∧ serve.dev.hup.saving = false) ∧
    (let d := secures { sanitize := true }
     d.sec.busy ≠ some 2 ∧ d.sec.sanitize = true ∧ d.mode.mode = .warm ∧ ((lowerStop d).ord.cmds.any fun c => decide (c.2.st = .running)) = false) ∧
    (let d := { secures { sanitize := true } with ord := { cmds := [(1, { st := .running })] } }
     ((lowerStop d).ord.cmds.any fun c => decide (c.2.st = .running)) = true) ∧
    (running (sanitizes 1) = true ∧ sanAllDone (sanitizes 1) = true ∧ sanAllDone (sanitizes 0) = false) := by decide +kernel

/-- Slot 3 holds a posted request for service k, of these words; two LUNs, a zone and a pool. -/
def posts (k : Nat) (ws : List (Nat × Nat) := []) (m : Mode := .serve) : Dev :=
  let c := { (small m).cfg with nss := [(0, { zoned with width := 2 }), (1, pool)], slotBytes := 1048576, user := [(0x8001, [1])] }
  let d := { small m with hk := { slots := [(3, 1)], order := [3] }, cfg := c, xlt := { remap := [(0, [(20, 21)])] } }
  setReg (ws.foldl (fun d p => setReg d .hkMbW (16 * 3 + p.1) p.2) d) .hkMbW (16 * 3) k

theorem wit_HousekeeperAndServices :
    (let d := fun l => ({ setF (setF (dev .serve) F.hkCfg_SHED_HI 80) F.hkCfg_SHED_LO 60 with hk := { load := l } } : Dev)
     running (d 0) = true ∧ (d 0).mode.mode ≠ .dormant ∧ getF (d 80) F.hkCfg_SHED_HI ≤ (d 80).hk.load ∧
      ((d 60).hk.load < getF (d 60) F.hkCfg_SHED_HI ∧ (d 60).hk.load ≤ shedLo (d 60)) ∧
      ((d 70).hk.load < getF (d 70) F.hkCfg_SHED_HI ∧ shedLo (d 70) < (d 70).hk.load)) ∧
    (serve.dev.ret.hkResets < 2 ∧ socUp serve.dev = true) ∧
    (mbState (posts 1) 3 = 1 ∧ mbState (posts 1) 4 ≠ 1 ∧ svcKnown (mbSvc (setReg (posts 1) .hkMbW (16 * 4) 1) 4) = true) ∧
    (let d := setF { posts 1 with hk := { slots := [(3, 2)] } } F.hkMbdone_DONE 8
     nbit (8#32).toNat 3 = true ∧ nbit (getF d F.hkMbdone_DONE) 3 = true ∧ mbState d 3 = 2) ∧
    (∀ n ∈ [1, 2], ({ serve.dev with hk := { spi := some (.erase 3 n) } } : Dev).hk.spi = some (.erase 3 n)) ∧ serve.dev.hk.spi = none := by
  decide +kernel

theorem wit_HousekeeperAndServices_turns :
    (∀ k ∈ [1, 2, 0x10, 0x11, 0x12, 0x13, 0x14, 0x20, 0x21, 0x22, 0x23, 0x24, 0x25, 0x30, 0x31, 0x40], Serves (posts k) k 3) ∧
    (running (posts 0x40 [] .holdup) = true ∧ mbTurn (posts 0x40 [] .holdup) 0x40 3 = true ∧ svcMode (posts 0x40 [] .holdup) 0x40 = false ∧
      mbTurn (posts 2) 1 3 = false) := by
  unfold Serves; decide +kernel

/-- An update of this length is under way. -/
def updates (k : Nat) (ws : List (Nat × Nat) := []) : Dev := { posts k ws with hk := { (posts k ws).hk with update := some { len := 4096 } } }

theorem wit_HousekeeperAndServices_update :
    (let d := posts 0x10 [(2, 4096)]
     Serves d 0x10 3 ∧ d.hk.update = none ∧ d.hk.spi = none ∧ leAt (mbBytes d 3) 8 4 ≠ 0 ∧ leAt (mbBytes d 3) 8 4 ≤ d.cfg.slotBytes - 4096) ∧
    (let d := updates 0x11 [(2, 8192), (4, 4096), (5, 0)]
     Serves d 0x11 3 ∧ d.hk.update = some { len := 4096 } ∧ leAt (mbBytes d 3) 0x14 4 % 256 = 0 ∧ leAt (mbBytes d 3) 0x10 4 ≠ 0 ∧
      leAt (mbBytes d 3) 0x14 4 + leAt (mbBytes d 3) 0x10 4 ≤ 4096 ∧ leAt (mbBytes d 3) 8 8 < 2 ^ 48) ∧
    (∀ k ∈ [0x11, 0x12, 0x13], (posts k).hk.update = none) ∧
    (let d := updates 0x12
     Serves d 0x12 3 ∧ d.hk.update = some { len := 4096 } ∧ d.hk.spi = none ∧ higherGen { d with cfg := { d.cfg with genA := some 7 } } = some 7) ∧
    (let d := updates 0x13; Serves d 0x13 3 ∧ d.hk.update = some { len := 4096 } ∧ d.hk.serving = none) := by
  unfold Serves; decide +kernel

theorem wit_HousekeeperAndServices_sections :
    (Serves (posts 0x14 [(5, 0x01)]) 0x14 3 ∧ userType (leAt (mbBytes (posts 0x14 [(5, 0x01)]) 3) 0x14 2) = false) ∧
    (∀ n ∈ [0, 1], let d := posts 0x14 [(4, n), (5, 0x8001)]
     Serves d 0x14 3 ∧ userType (leAt (mbBytes d 3) 0x14 2) = true ∧ leAt (mbBytes d 3) 8 8 < 2 ^ 48 ∧ leAt (mbBytes d 3) 0x10 4 = n ∧
      (d.cfg.user.filter fun x => decide (x.1 = leAt (mbBytes d 3) 0x14 2))[leAt (mbBytes d 3) 0x16 2]? = some (0x8001, [1])) ∧
    (∀ p ∈ [(0, 0), (4096, 65536)], let d := posts 0x20 [(4, p.1), (5, p.2)]
     Serves d 0x20 3 ∧ leAt (mbBytes d 3) 0x14 2 + leAt (mbBytes d 3) 0x16 2 ≤ d.build.luns ∧ leAt (mbBytes d 3) 0x10 4 = p.1 ∧
      leAt (mbBytes d 3) 8 8 < 2 ^ 48 ∧ ((rangeFrom (leAt (mbBytes d 3) 0x14 2) (leAt (mbBytes d 3) 0x16 2)).flatMap (eraseBytes d)).length ≤ p.1 ∧
      (p.1 = 4096 → ((rangeFrom (leAt (mbBytes d 3) 0x14 2) (leAt (mbBytes d 3) 0x16 2)).flatMap (eraseBytes d)) ≠ [])) ∧
    (let d := posts 0x20 [(5, 0x3FF0000)]; Serves d 0x20 3 ∧ d.build.luns < leAt (mbBytes d 3) 0x14 2 + leAt (mbBytes d 3) 0x16 2) := by
  unfold Serves; decide +kernel

theorem wit_HousekeeperAndServices_reports :
    (let d := posts 0x22 [(2, 0x100000)]; Serves d 0x22 3 ∧ 16 ≤ leAt (mbBytes d 3) 0xA 1) ∧
    (let d := posts 0x22 [(2, 0x3000000)]
     Serves d 0x22 3 ∧ leAt (mbBytes d 3) 0xA 1 < 16 ∧ leAt (mbBytes d 3) 0xB 1 < 4 ∧ lunMapped d (leAt (mbBytes d 3) 8 2) = true) ∧
    (let d := posts 0x23; Serves d 0x23 3 ∧ leAt (mbBytes d 3) 8 1 < d.build.channels) ∧
    (let d := posts 0x24
     Serves d 0x24 3 ∧ (getNs d (leAt (mbBytes d 3) 8 1)).present = true ∧ (getNs d (leAt (mbBytes d 3) 8 1)).random = false ∧
      leAt (mbBytes d 3) 0xC 4 < zoneCount (getNs d (leAt (mbBytes d 3) 8 1))) ∧
    (let d := posts 0x24 [(2, 16)]; Serves d 0x24 3 ∧ 16 ≤ leAt (mbBytes d 3) 8 1) := by
  unfold Serves; decide +kernel

theorem wit_HousekeeperAndServices_badBlocks :
    (let d := posts 0x30 [(4, 8)]
     Serves d 0x30 3 ∧ lunMapped d (leAt (mbBytes d 3) 0x14 2) = true ∧ leAt (mbBytes d 3) 8 8 < 2 ^ 48 ∧
      ((nget [] d.xlt.remap (leAt (mbBytes d 3) 0x14 2)).flatMap fun p => natLe 4 p.1 ++ natLe 4 p.2) ≠ [] ∧
      ((nget [] d.xlt.remap (leAt (mbBytes d 3) 0x14 2)).flatMap fun p => natLe 4 p.1 ++ natLe 4 p.2).length ≤ leAt (mbBytes d 3) 0x10 4) ∧
    (let d := posts 0x30 [(5, 32)]; Serves d 0x30 3 ∧ lunMapped d (leAt (mbBytes d 3) 0x14 2) = true ∧ nget [] d.xlt.remap (leAt (mbBytes d 3) 0x14 2) = []) := by
  unfold Serves; decide +kernel

theorem wit_HousekeeperAndServices_blocks :
    (let d := posts 0x31 [(2, 5)]; Serves d 0x31 3 ∧ lunUsable d (leAt (mbBytes d 3) 8 2) = false) ∧
    (let d := posts 0x31 [(3, 12)]
     Serves d 0x31 3 ∧ lunUsable d (leAt (mbBytes d 3) 8 2) = true ∧ leAt (mbBytes d 3) 0xC 4 < mpBlocks d (leAt (mbBytes d 3) 8 2) ∧
      (leAt (mbBytes d 3) 8 2, leAt (mbBytes d 3) 0xC 4) ∉ d.pgm.retired) ∧
    (∀ z ∈ [0, 9], ∀ v ∈ [1, 3], let d := posts 0x40 [(3, z), (4, v)]
     Serves d 0x40 3 ∧ leAt (mbBytes d 3) 8 1 = 0 ∧ leAt (mbBytes d 3) 0xC 4 = z ∧ leAt (mbBytes d 3) 0x10 1 = v ∧ (getNs d 0).present = true ∧
      (getNs d 0).random = false ∧ (z < zoneCount (getNs d 0) ↔ z = 0)) ∧
    (∀ z ∈ [65550, 9], let d := posts 0x40 [(2, 1), (3, z), (4, 1)]
     Serves d 0x40 3 ∧ leAt (mbBytes d 3) 8 1 = 1 ∧ leAt (mbBytes d 3) 0xC 4 = z ∧ (getNs d 1).random = true ∧ (z ∈ poolSbs (getNs d 1) ↔ z = 65550)) ∧
    (let d := posts 1; mbState d 3 = 1) := by
  unfold Serves; decide +kernel

/-- An erased slot is no image. -/
theorem wit_HousekeeperAndServices_commit :
    imageCheck (updates 0x12) 1048576 none [(List.range 4096).map fun j => nget 0xFF (([] : NMap Byte).foldl (fun m p => nput m p.1 p.2) []) j] = .inl 2 := by
  decide +kernel
/-! ### Witnesses: the step, the registers and the randomiser -/

theorem wit_StepRunsTheFrontCommand : ({ serve with pending := [Instr.pfailLatch] } : State).pending = Instr.pfailLatch :: [] ∧ serve.pending = [] := by
  decide

theorem wit_EveryStepKeepsTheInvariant : Safety.Inv .premel64 0 { State.reset with pending := [Instr.opReq 7 65535 0] } := by
  unfold Safety.Inv QueueWf; decide

theorem wit_InstancesReadAfterWrite : nwf 5#32 [(1, 3#32), (4, 0#32)] = true ∧ nwf 5#32 [(1, 5#32)] = false ∧ nwf 5#32 [(4, 0#32), (1, 3#32)] = false := by
  decide

theorem wit_RegistersDoNotOverlap :
    Reg.secStat ∈ Reg.all ∧ 0 < max 1 Reg.secStat.place.count ∧ regOff .secStat 0 = regOff .secStat 0 := by decide

theorem wit_RegistersReadAfterWrite : regOff .secStat 0 ≠ regOff .secSancfg 0 ∧ 0 ≤ 0 ∧ 31 < 32 ∧ 15 < 16 := by decide

theorem wit_TransfersAreCutAtTwoKiB : (2047, 1) ∈ pieces 3 2047 3 := by decide

theorem wit_RandomiserIsItsOwnInverse : (1#32 : BitVec 32) ≠ 0#32 := by decide

/-! ### Worked examples of the manual

Each value is one that a numbered example of spec/ prints. -/

/-- spec/05_channels.md, "one codeword read on a four-plane die": LUN 183's row address (R116). -/
def ch5 : Dev :=
  { dev .serve with cfg := { profiles := [(0, bytes 256 [(0x12, 4), (0x1A, 11), (0x1B, 24)])], chanMap := bytes 1024 [(91, 0x10)] } }

theorem test_rowAddress : rowAddr ch5 183 (913 * 4 + 2) 57 = 0x01723039 := by decide +kernel

theorem test_channelMapByte : mapByte ch5 183 = 0x10 ∧ lunMapped ch5 183 = true ∧ chanOf 183 = 5 := by decide +kernel

/-- spec/08_codec.md, "the first bytes of a stream" (R166, R167). -/
theorem test_randomiser :
    randomise [0, 0, 0, 0] (streamState 0x3C1FA925 0x01723039 2) = [0xFC, 0xF6, 0xD9, 0x78] ∧
    randomise [0xFF, 0xFF, 0xFF, 0xFF] (streamState 0x3C1FA925 0x01723039 2) = [0x03, 0x09, 0x26, 0x87] := by decide

/-- spec/08_codec.md, "entries of column block 5 at PARITY 2" (R170). -/
theorem test_ldpcEntries : (List.range 4).map (ldpcEntry 14 4 5) = [(5, 40), (8, 49), (11, 198), (0, 179)] ∧ ldpcShape 2 = (14, 4) := by decide

/-- spec/11_translation.md, "one ring of a 26 TB namespace" (R230): q = 1,312, p = 1,313, m = 1,329. -/
theorem test_ringPosition : ringPos 412 1203 1799 900 = 1313 ∧ sbnOf 4 (1313 + 16) = 0x00040531 ∧ ringZone 412 1203 1799 1313 = 900 := by decide

/-- spec/16_loops.md, "one sample of a heater zone" (R356, R357, R360): the output, and the state that is stored. -/
def heater : Slot :=
  { img := (List.range 48).map fun w =>
      if w = 1 then 1 else if w = 4 then 0x3F28 else if w = 5 then 0x3F else if w = 9 then 0 else if w = 10 then 0x7FFF
      else if w = 15 then 0x500 else if w = 16 then 0x4000 else if w = 17 then 0x0200 else if w = 20 then 0x7FFF else if w = 22 then 4 else 0,
    stages := [(0, { e := 6, m0 := 0x6800, m1 := 0x0500 })] }

theorem test_heaterSample :
    let o := pidStage heater 0 { e := 6, m0 := 0x6800, m1 := 0x0500 } (640 * 65536) none false false
    o.st = { e := 6, m0 := 0x6940, m1 := 0x0500 } ∧ (o.mul || o.add || o.sto) = false ∧ (outStep heater o.y 0 0).1 = 0x48A0 := by decide +kernel

/-- spec/15_holdup.md, "a 64 GB custody with spindle support" (R334): 24.00 V, 940 mF and 90 % give 182.7 J (182.736 J unrounded). -/
def kettle : Dev :=
  let d := { dev .serve with cfg := { holdup := bytes 64 [(2, 0x60), (3, 0x09), (4, 0xB0), (5, 0x04), (6, 0xE8), (7, 0x03), (8, 90), (0xA, 1), (0xC, 0x60), (0xD, 0x09)] },
                             hup := { cMeas := 940 } }
  setF d F.adcData_FILT 0x7FFF 1

theorem test_kettleEnergy : eKtlNow kettle / 100000 = 1827 := by decide

/-- spec/02_ports.md, "braking command for 300 W" (R37, Table PRT-8): the command word of SEQ 3, and the status words. -/
theorem test_brakeWord : (splSend 1 400 { serve.dev with spl := { seq := 2 } }).spl.lastCmd = 0x13000190#32 := by decide

theorem test_splStatusWord :
    (splStatusDev 0x83901D74#32 { serve.dev with spl := { seq := 3 } }).spl.omega = 7540 ∧
    (splStatusDev 0x83901D74#32 { serve.dev with spl := { seq := 3 } }).spl.ackSeen = true ∧
    (splStatusDev 0x83801D74#32 { serve.dev with spl := { seq := 3 } }).spl.ackSeen = false := by decide

/-- The two CRCs over "123456789": 0xE3069283 is the published check value of CRC-32C, 0x29B1 of the CRC-16 of R14's form. -/
theorem test_crc : crc32c [0x31, 0x32, 0x33, 0x34, 0x35, 0x36, 0x37, 0x38, 0x39] = 0xE3069283#32 ∧
    crc16 [0x31, 0x32, 0x33, 0x34, 0x35, 0x36, 0x37, 0x38, 0x39] = 0x29B1#16 := by decide +kernel

/-- Offsets of the address map (Table MAP-1 and the register tables): 0x20_1014 + 0x8000·37 is PRM_SEQ_RECSEL37, 0x0F_0404 PRM_LOOP_CDATA. -/
theorem test_offsets : regAt (0x201014 + 0x8000 * 37) = some (Reg.seqRecsel, 37) ∧ regAt 0x0F0404 = some (Reg.loopCdata, 0) := by decide +kernel

/-- Microwords of Table SEQ-9 at 0x0200 to 0x020B, 0x0215, 0x0218, 0x021C, 0x0224 and 0x022B. -/
theorem test_microwords :
    [selW 4, ldpW 9 0x36, ldpB 12 0x1A, ldiW 13 1, shlR 13 13 12, andI 14 5 7, cmdW 5, adrW 2 0, doutW 2 3, waitW 9 0, addI 14 14 0xFFF,
     brcW 0 0 0x214] = [0x78400000, 0x54800036, 0x5600011A, 0x4E800001, 0x6EEB8000, 0x672C0007, 0x08A00000, 0x12000000, 0x18230000, 0x2A400000,
     0x5F740FFF, 0x40000214] ∧
    [commitW 2, yieldW 3 15 3, brcW 13 0 0x22B, setfW 0x80 0, endW 11 2] = [0x90000002, 0x8BF00003, 0x4340022B, 0x70800000, 0x98B00002] := by decide

/-- The suspend loop that the other routines share is that of PROGRAM. -/
theorem test_busyLoop : (programRoutine.drop 25).take 20 = romBusy 0x219 0x230 ∧ romDefer 0x231 = programRoutine.drop 49 := by decide

/-- The routines' entries: 0x0080·k (Table SEQ-1), and no routine runs into the next. -/
theorem test_romEntries : (∀ k < 19, romWord (128 * k) = selW 4) ∧ ∀ k < 19, (romRoutine k).length ≤ 128 := by decide +kernel

/-! ### WellFormed refuses an operand outside its range -/

theorem test_wf_refuses_queue : (Instr.packerDraw 64).wf = false ∧ (Instr.sqDoorbell 64 0).wf = false ∧ (Instr.packerDraw 63).wf = true := by decide
theorem test_wf_refuses_channel : (Instr.uEnd 64).wf = false ∧ (Instr.calApplyGap 64).wf = false ∧ (Instr.uEnd 63).wf = true := by decide
theorem test_wf_refuses_lun : (Instr.archBandPoll 2048 0).wf = false ∧ (Instr.archBandPoll 2047 0).wf = true := by decide
theorem test_wf_refuses_operation : (Instr.copErase 1 0).wf = false ∧ (Instr.copErase 64 2048).wf = false ∧ (Instr.copErase 63 2047).wf = true := by decide
theorem test_wf_refuses_group : (Instr.gateRequest 8).wf = false ∧ (Instr.gateRequest 7).wf = true := by decide
theorem test_wf_refuses_stream : (Instr.linkReset 0 4).wf = false ∧ (Instr.linkReset 0 3).wf = true := by decide
theorem test_wf_refuses_link : (Instr.link 0 0 3 0).wf = false ∧ (Instr.link 0 0 2 0).wf = true := by decide
theorem test_wf_refuses_seq : (Instr.opReq 0 65536 0).wf = false ∧ (Instr.credit 0 true 65536 0).wf = false ∧ (Instr.opReq 7 65535 0).wf = true := by decide
theorem test_wf_refuses_port : (Instr.mpPdreqRise 8).wf = false ∧ (Instr.dmaBurstIssue 8).wf = false ∧ (Instr.mpPdreqRise 7).wf = true := by decide
theorem test_wf_refuses_tag : (Instr.mpResponseTimeout 0 256).wf = false ∧ (Instr.mpReissue 0 255).wf = true := by decide
theorem test_wf_refuses_generation : (Instr.mpWriteAck 0 0 4 0).wf = false ∧ (Instr.mpWriteAck 0 0 3 0).wf = true := by decide
theorem test_wf_refuses_status : (Instr.mpWriteAck 0 0 0 4).wf = false ∧ (Instr.mpWriteAck 4 0 0 0).wf = false := by decide
theorem test_wf_refuses_beat : (Instr.mpReadResponse 4 0 0 0 0 0 0).wf = false ∧ (Instr.mpReadResponse 0 0 0 32 0 0 0).wf = false ∧
    (Instr.mpReadResponse 3 0 0 31 0 0 0).wf = true := by decide
theorem test_wf_refuses_slot : (Instr.echo 16).wf = false ∧ (Instr.loopOpen 16).wf = false ∧ (Instr.loopOpen 15).wf = true := by decide
theorem test_wf_refuses_input : (Instr.inputStuckTimeout 13).wf = false ∧ (Instr.tachEdge 8).wf = false ∧ (Instr.tachEdge 7).wf = true := by decide
theorem test_wf_refuses_pair : (Instr.registerRead (2 ^ 21) 3).wf = false ∧ (Instr.registerRead (2 ^ 21 - 1) 3).wf = true := by decide
theorem test_wf_refuses_namespace : (Instr.gcStart 16).wf = false ∧ (Instr.mapCheckpoint 15).wf = true := by decide
theorem test_wf_refuses_chip_enable : (Instr.rbRise 0 4).wf = false ∧ (Instr.rbRise 0 3).wf = true := by decide
theorem test_wf_refuses_ring : (Instr.relocationStart 256).wf = false ∧ (Instr.relocationStart 255).wf = true := by decide
theorem test_wf_refuses_conversion : (Instr.adcConversionEnd 2 0 0).wf = false ∧ (Instr.adcConversionEnd 0 20 0).wf = false ∧
    (Instr.adcConversionEnd 0 0 16384).wf = false ∧ (Instr.adcConversionEnd 1 19 16383).wf = true := by decide
theorem test_wf_refuses_open_test : (Instr.adcOpenTest 40 0).wf = false ∧ (Instr.adcOpenTest 0 16384).wf = false := by decide
theorem test_wf_refuses_zone : (Instr.fanFail 12).wf = false ∧ (Instr.fanFail 11).wf = true := by decide
theorem test_wf_refuses_memory : (Instr.scrubRead 12 0 0 0).wf = false ∧ (Instr.scrubRead 0 64 0 0).wf = false ∧ (Instr.scrubRead 11 63 0 0).wf = true := by decide
theorem test_wf_refuses_operand : (Instr.secOperandWrite 3 0).wf = false ∧ (Instr.secOperandWrite 2 0).wf = true := by decide
theorem test_wf_refuses_load : (Instr.hkLoadUpdate 101).wf = false ∧ (Instr.hkLoadUpdate 100).wf = true := by decide
theorem test_wf_refuses_density : (Instr.cfgLoadComplete (some { density := 1048575 })).wf = false ∧
    (Instr.cfgLoadComplete (some { density := 67108865 })).wf = false ∧ (Instr.cfgLoadComplete (some {})).wf = true := by decide

end Sys2Proof.Tests
end

section
/-! Proofs/Resets.lean: what the reset pins and the deferred reset do to the state, case by case, and the proof of R44. -/

namespace Sys2Proof.Machine

open Sys2Proof Sys2Proof.Safety

/-! ### The reset commands as changes of the state -/

theorem exec_sysRstAssert (s : State) : exec .sysRstAssert s = onDev sysAssertDev s := rfl

theorem exec_sysRstDeferredEffect (s : State) : exec .sysRstDeferredEffect s = onDev sysDeferredDev s := rfl

theorem exec_poRstAssert (s : State) : exec .poRstAssert s = onDev poAssertDev s := rfl

/-- `after` names the state that a command's change leaves. -/
theorem onDev_eq_next_after (f : Dev → Dev) (s : State) : onDev f s = .next (after s f) := rfl

/-! ### SYS_RST_n takes effect (R43, R437) -/

/-- SYS_RST_n in effect clears the PFAIL latch and the note of a pending reset; the pin itself and the others stay (R41, R44). -/
@[simp] theorem sysEffect_pins (d : Dev) : (sysEffect d).pins = { d.pins with pfail := false, sysPending := false } := rfl

/-- The HOLDUP sequencer and ordering lie outside the AO domain and start afresh. -/
@[simp] theorem sysEffect_resets (d : Dev) : (sysEffect d).hup = {} ∧ (sysEffect d).ord = {} := ⟨rfl, rfl⟩

/-- The retained register file and the one-time-programmable state outlast SYS_RST_n. -/
@[simp] theorem sysEffect_keeps (d : Dev) : (sysEffect d).ret = d.ret ∧ (sysEffect d).otp = d.otp := ⟨rfl, rfl⟩

/-! ### The cases of R44 -/

/-- While a HOLDUP sequence runs, an assertion of SYS_RST_n is noted and nothing else changes. -/
theorem sysAssertDev_of_holdup {d : Dev} (hsys : d.pins.sysHigh = true) (hpo : d.pins.poHigh = true)
    (hrun : d.hup.running = true) :
    sysAssertDev d = modPins d fun p => { p with sysHigh := false, sysPending := true } := by
  simp [sysAssertDev, modPins, hsys, hpo, hrun]

/-- The noted reset does not take effect before the HOLDUP sequence has ended. -/
theorem sysDeferredDev_of_holdup {d : Dev} (hrun : d.hup.running = true) : sysDeferredDev d = d :=
  if_pos (.inr (.inr hrun))

/-- Once no HOLDUP sequence runs, the noted reset takes effect; SYS_RST_n still low, no release follows. -/
theorem sysDeferredDev_of_pending {d : Dev} (hpo : d.pins.poHigh = true) (hpend : d.pins.sysPending = true)
    (hrun : d.hup.running = false) (hsys : d.pins.sysHigh = false) : sysDeferredDev d = sysEffect d := by
  simp [sysDeferredDev, hpo, hpend, hrun, hsys]

/-- PO_RST_n turns the block off and ends a HOLDUP sequence, whether or not one runs. -/
theorem poAssertDev_off {d : Dev} (hpo : d.pins.poHigh = true) :
    (poAssertDev d).mode.mode = .off ∧ (poAssertDev d).hup = {} := by
  simp [poAssertDev, hpo]

end Sys2Proof.Machine

namespace Sys2Proof.Proofs

open Sys2Proof.Machine Sys2Proof.Safety

/-- Settles O12: SYS_RST_n is noted while HOLDUP runs and takes effect once it has ended, by the cases of SYS_RST_ASSERT and
SYS_RST_DEFERRED_EFFECT; PO_RST_n never looks at the HOLDUP sequence. -/
theorem sysResetIsHeldPendingInHoldup : Obligations.SysResetIsHeldPendingInHoldup := by
  unfold Obligations.SysResetIsHeldPendingInHoldup
  refine ⟨fun s hsys hpo hrun => ?noted, fun s hpo hpend hrun hsys => ?takesEffect, fun s hrun => ?notBefore,
    fun s hpo _ => ?poActs⟩
  case noted =>
    rw [exec_sysRstAssert, ← onDev_eq_next_after]
    exact onDev_congr _ _ s (sysAssertDev_of_holdup hsys hpo hrun)
  case takesEffect =>
    rw [exec_sysRstDeferredEffect]
    obtain ⟨t, hexec, hpending, hdev⟩ := onDev_next sysDeferredDev s
    refine ⟨t, hexec, hpending, ?_⟩
    simp [hdev, sysDeferredDev_of_pending hpo hpend hrun hsys]
  case notBefore =>
    rw [exec_sysRstDeferredEffect]
    exact onDev_id _ s (sysDeferredDev_of_holdup hrun)
  case poActs =>
    rw [exec_poRstAssert]
    obtain ⟨t, hexec, -, hdev⟩ := onDev_next poAssertDev s
    refine ⟨t, hexec, ?_⟩
    simp [hdev, poAssertDev_off hpo]

end Sys2Proof.Proofs
end

section
/-! Proofs/Inputs.lean: what an edge of EPOCH_SYNC and an assertion of a level input do to the state, case by case, and the proofs
of R96 and R97. -/

namespace Sys2Proof.Machine

open Sys2Proof Sys2Proof.Safety

/-! ### The commands of the inputs as changes of the state -/

theorem exec_epochSyncEdge (s : State) : exec .epochSyncEdge s = onDev epochEdgeDev s := rfl

theorem exec_burstWarnAssert (s : State) :
    exec .burstWarnAssert s = onDev (levelAssert 2 fun d => if running d then wakeEvent 3 d else d) s := rfl

theorem exec_stageFaultAssert (s : State) : exec .stageFaultAssert s = onDev (levelAssert 4 chargeUpdate) s := rfl

/-- A meaning leaves what any change leaves that agrees with it on the state. -/
theorem onDev_eq_next_after_of_eq {f g : Dev → Dev} {s : State} (h : f s.dev = g s.dev) : onDev f s = .next (after s g) :=
  (onDev_congr f g s h).trans (onDev_eq_next_after g s)

@[simp] theorem after_dev (s : State) (f : Dev → Dev) : (after s f).dev = commandFrame f s.dev := rfl

/-! ### What reads the inputs and what leaves them -/

theorem getInput_congr {d e : Dev} (h : d.inputs = e.inputs) (i : Nat) : getInput d i = getInput e i := by
  simp only [getInput, h]

@[simp] theorem getInput_commandFrame (f : Dev → Dev) (d : Dev) (i : Nat) : getInput (commandFrame f d) i = getInput (f d) i := rfl

@[simp] theorem edgesLive_modInput (d : Dev) (i : Nat) (f : InputSt → InputSt) : edgesLive (modInput d i f) = edgesLive d := rfl

@[simp] theorem getInput_bump (d : Dev) (r : FRef) (i j n : Nat) : getInput (bump d r j n) i = getInput d i :=
  getInput_congr (by simp) i

@[simp] theorem getInput_modRet (d : Dev) (f : Retained → Retained) (i : Nat) : getInput (modRet d f) i = getInput d i := rfl

/-- A count in a register does not depend on the inputs' state. -/
@[simp] theorem bump_modInput_rf (d : Dev) (i j : Nat) (f : InputSt → InputSt) (r : FRef) (n : Nat) :
    (bump (modInput d i f) r j n).rf = (bump d r j n).rf := rfl

/-! ### The epoch number advances (R304) -/

/-- What holds of the state whatever one application does to it holds after them all. -/
theorem each_keeps {α β : Type} (P : Dev → β) {f : Dev → α → Dev} (h : ∀ d a, P (f d a) = P d) (l : List α) (d : Dev) :
    P (each l f d) = P d := by
  induction l generalizing d with
  | nil => rfl
  | cons a l ih => exact (ih (f d a)).trans (h d a)

/-- A change of a command's record leaves the epoch number. -/
@[simp] theorem modCmd_epoch (a : Nat) (f : Cmd → Cmd) (d : Dev) : (modCmd a f d).ord.epoch = d.ord.epoch := by
  simp only [modCmd, modOrd_ord]
  split <;> rfl

/-- The epoch number advances by one, and so does its retained copy. -/
theorem epochEdge_epoch (d : Dev) :
    (epochEdge d).ord.epoch = (d.ord.epoch + 1) % 2 ^ 32 ∧ (epochEdge d).ret.epoch = (d.ord.epoch + 1) % 2 ^ 32 := by
  simp [epochEdge, epochStep, each_keeps fun d => d.ord.epoch]

/-- The inputs and the registers are no part of what an epoch edge changes. -/
@[simp] theorem epochEdge_frame (d : Dev) : (epochEdge d).inputs = d.inputs ∧ (epochEdge d).rf = d.rf := by
  simp [epochEdge, epochStep, modCmd, each_keeps fun d => d.inputs, each_keeps fun d => d.rf]

/-! ### An edge of EPOCH_SYNC (R96, R98) -/

/-- EPOCH_SYNC has risen, and its filter counts from now. -/
def edgeArrived (d : Dev) : Dev :=
  modInput d 3 fun y => { y with asserted := true, since := d.now, filterFrom := d.now }

/-- The edge counts: REARM runs from now. -/
def edgeCounted (d : Dev) : Dev := modInput (edgeArrived d) 3 fun y => { y with lastAct := some d.now }

@[simp] theorem edgeCounted_lastAct (d : Dev) : (getInput (edgeCounted d) 3).lastAct = some d.now := by
  simp [edgeCounted]

@[simp] theorem edgeCounted_frame (d : Dev) :
    (edgeCounted d).ord = d.ord ∧ (edgeCounted d).ret = d.ret ∧ (edgeCounted d).rf = d.rf := ⟨rfl, rfl, rfl⟩

/-- An edge that has not passed the filter does nothing (R40). -/
theorem epochEdgeDev_of_unfiltered {d : Dev} (hfilter : filterMay d 3 = false) : epochEdgeDev d = d := by
  simp [epochEdgeDev, hfilter]

/-- An edge of the unmasked input counts once REARM has elapsed since the last that counted: it advances the epoch number, or
is counted in the AO domain while the SoC side applies none. -/
theorem epochEdgeDev_counts {d : Dev} (hpo : d.pins.poHigh = true) (hfilter : filterMay d 3 = true)
    (hmask : (getInput d 3).masked = false) (hrearm : ∀ t, (getInput d 3).lastAct = some t → t + rearm d 3 ≤ d.now) :
    epochEdgeDev d = if edgesLive d then epochEdge (edgeCounted d)
      else modRet (edgeCounted d) fun r => { r with epochEdges := r.epochEdges + 1 } := by
  cases hlast : (getInput d 3).lastAct with
  | none => simp [epochEdgeDev, edgeCounted, edgeArrived, hpo, hfilter, hmask, hlast]
  | some t =>
    have hlate : ¬ d.now < t + rearm d 3 := Nat.not_lt.mpr (hrearm t hlast)
    simp [epochEdgeDev, edgeCounted, edgeArrived, hpo, hfilter, hmask, hlast, hlate]

/-- An edge of a masked input, or one within REARM of the last that counted, is dropped. -/
theorem epochEdgeDev_drops {d : Dev} (hpo : d.pins.poHigh = true) (hfilter : filterMay d 3 = true)
    (hdrop : (getInput d 3).masked = true ∨ ∃ t, (getInput d 3).lastAct = some t ∧ d.now < t + rearm d 3) :
    epochEdgeDev d = inputDrop 3 (edgeArrived d) := by
  rcases hdrop with hmask | ⟨t, hlast, hearly⟩
  · simp [epochEdgeDev, edgeArrived, hpo, hfilter, hmask]
  · simp [epochEdgeDev, edgeArrived, hpo, hfilter, hlast, hearly]

/-! ### An assertion of a level input (R97, R98) -/

/-- A level input takes a filtered assertion, which acts or is ignored; either way REARM is judged from it. -/
def levelTake (i : Nat) (ignored : Bool) (d : Dev) : Dev :=
  modInput d i fun y => { y with asserted := true, ignored := ignored, lastAct := some d.now, since := d.now, filterFrom := d.now }

/-- The first assertion of an unmasked input, or one after REARM deasserted, acts. -/
theorem levelAssert_acts {i : Nat} {act : Dev → Dev} {d : Dev} (hpo : d.pins.poHigh = true) (hfilter : filterMay d i = true)
    (hoff : (getInput d i).asserted = false) (hmask : (getInput d i).masked = false)
    (hrearm : (getInput d i).lastAct = none ∨ (getInput d i).since + rearm d i ≤ d.now) :
    levelAssert i act d = act (levelTake i false d) := by
  have hok : (!(getInput d i).masked && ((getInput d i).lastAct.isNone || decide ((getInput d i).since + rearm d i ≤ d.now))) = true := by
    simpa [hmask] using hrearm
  simp [levelAssert, levelTake, hpo, hfilter, hoff, hok]

/-- An assertion that comes too soon after the one before is dropped, and ignored while it lasts. -/
theorem levelAssert_drops {i u : Nat} {act : Dev → Dev} {d : Dev} (hpo : d.pins.poHigh = true) (hfilter : filterMay d i = true)
    (hoff : (getInput d i).asserted = false) (hlast : (getInput d i).lastAct = some u)
    (hearly : d.now < (getInput d i).since + rearm d i) :
    levelAssert i act d = inputDrop i (levelTake i true d) := by
  simp [levelAssert, levelTake, hpo, hfilter, hoff, hlast, Nat.not_le.mpr hearly]

@[simp] theorem levelTake_lastAct (i : Nat) (b : Bool) (d : Dev) : (getInput (levelTake i b d) i).lastAct = some d.now := by
  simp [levelTake]

@[simp] theorem levelTake_frame (i : Nat) (b : Bool) (d : Dev) :
    (levelTake i b d).pins = d.pins ∧ (levelTake i b d).mode = d.mode := ⟨rfl, rfl⟩

/-- An unmasked input counts as asserted from an assertion that is not ignored. -/
theorem inputOn_levelTake {d : Dev} {i : Nat} (hmask : (getInput d i).masked = false) : inputOn (levelTake i false d) i = true := by
  simp [inputOn, levelTake, hmask]

/-- An assertion that is ignored does not count. -/
theorem inputOn_of_ignored {d : Dev} {i : Nat} (h : (getInput d i).ignored = true) : inputOn d i = false := by
  simp [inputOn, h]

theorem inputOn_congr {d e : Dev} (h : d.inputs = e.inputs) (i : Nat) : inputOn d i = inputOn e i := by
  simp only [inputOn, getInput_congr h]

@[simp] theorem inputOn_commandFrame (f : Dev → Dev) (d : Dev) (i : Nat) : inputOn (commandFrame f d) i = inputOn (f d) i := rfl

/-! ### BURST_WARN acts: a wake event (R85) -/

/-- From DORMANT or STANDBY the way to WARM is one transition, which begins at once. -/
theorem modeTo_warm_begins (c : Nat) {d : Dev} (htrans : d.mode.trans = none)
    (hmode : d.mode.mode = .dormant ∨ d.mode.mode = .standby) :
    ∃ k, modeTo .warm c d = modMode d fun s => { s with
      onward := some .warm, onwardCause := c, trans := some { kind := k, target := .warm, cause := c, since := d.now } } := by
  rcases hmode with hmode | hmode
  · exact ⟨.wakeDormant, by simp [modeTo, modeStep, transBegin, modMode, htrans, hmode]⟩
  · exact ⟨.wakeStandby, by simp [modeTo, modeStep, transBegin, modMode, htrans, hmode]⟩

/-- A wake event changes the mode's state and no other part. -/
theorem wakeEvent_eq_modMode (c : Nat) (d : Dev) : ∃ f, wakeEvent c d = modMode d f := by
  unfold wakeEvent
  split
  · exact ⟨_, rfl⟩
  · split
    · next h =>
      obtain ⟨k, hk⟩ := modeTo_warm_begins c (Option.isNone_iff_eq_none.mp h.1) h.2
      exact ⟨_, hk⟩
    · exact ⟨_, rfl⟩

@[simp] theorem wakeEvent_frame (c : Nat) (d : Dev) : (wakeEvent c d).inputs = d.inputs ∧ (wakeEvent c d).pins = d.pins := by
  obtain ⟨f, hf⟩ := wakeEvent_eq_modMode c d
  simp [hf]

/-- BURST_WARN, acting while the block runs, is a wake event with cause 3. -/
theorem exec_burstWarnAssert_acts {s : State} (hpo : s.dev.pins.poHigh = true) (hrun : running s.dev = true)
    (hfilter : filterMay s.dev 2 = true) (hoff : (getInput s.dev 2).asserted = false) (hmask : (getInput s.dev 2).masked = false)
    (hrearm : (getInput s.dev 2).lastAct = none ∨ (getInput s.dev 2).since + rearm s.dev 2 ≤ s.dev.now) :
    exec .burstWarnAssert s = .next (after s fun d => wakeEvent 3 (levelTake 2 false d)) := by
  rw [exec_burstWarnAssert]
  refine onDev_eq_next_after_of_eq ?_
  rw [levelAssert_acts hpo hfilter hoff hmask hrearm]
  exact if_pos hrun

/-! ### STAGE_FAULT_n acts: the charger follows it (R336) -/

/-! Opening or closing a loop slot writes the loops' state and registers; the inputs, the mode and the hold-up state stay. -/

@[simp] theorem modSlot_frame (d : Dev) (n : Nat) (f : Slot → Slot) :
    (modSlot d n f).inputs = d.inputs ∧ (modSlot d n f).mode = d.mode ∧ (modSlot d n f).hup = d.hup := by
  simp [modSlot]

@[simp] theorem setDuty_frame (d : Dev) (n : Nat) (v : Int) :
    (setDuty d n v).inputs = d.inputs ∧ (setDuty d n v).mode = d.mode ∧ (setDuty d n v).hup = d.hup := by
  simp [setDuty]

@[simp] theorem driveZone_frame (d : Dev) (z : Nat) (v : Int) :
    (driveZone d z v).inputs = d.inputs ∧ (driveZone d z v).mode = d.mode ∧ (driveZone d z v).hup = d.hup := by
  simp only [driveZone]
  split_ifs <;> simp

@[simp] theorem drive_frame (d : Dev) (n : Nat) :
    (drive d n).inputs = d.inputs ∧ (drive d n).mode = d.mode ∧ (drive d n).hup = d.hup := by
  simp only [drive]
  split
  · simp
  · split <;> simp

@[simp] theorem slotOpen_frame (n : Nat) (d : Dev) :
    (slotOpen n d).inputs = d.inputs ∧ (slotOpen n d).mode = d.mode ∧ (slotOpen n d).hup = d.hup := by
  simp [slotOpen, putOut, setLoopSt]

@[simp] theorem slotClose_frame (n : Nat) (d : Dev) :
    (slotClose n d).inputs = d.inputs ∧ (slotClose n d).mode = d.mode ∧ (slotClose n d).hup = d.hup := by
  simp [slotClose, setLoopSt]

/-- After the charger's update KTL_CHG_EN is as its conditions say; neither the inputs nor the mode has changed. -/
theorem chargeUpdate_spec (d : Dev) :
    (chargeUpdate d).inputs = d.inputs ∧ (chargeUpdate d).mode = d.mode ∧ (chargeUpdate d).hup.chargeEn = chargeWanted d := by
  simp only [chargeUpdate]
  split
  · next h => exact ⟨rfl, rfl, h.symm⟩
  · split
    · simp
    · split <;> simp

/-- The charger is off while STAGE_FAULT_n is asserted. -/
theorem chargeWanted_of_stageFault {d : Dev} (h : inputOn d 4 = true) : chargeWanted d = false := by
  simp [chargeWanted, h]

end Sys2Proof.Machine

namespace Sys2Proof.Proofs

open Sys2Proof.Machine Sys2Proof.Safety

/-- Settles O13, by the three answers to an edge: it has not passed the filter, it counts, or it is dropped. -/
theorem epochEdgesCountAfterRearm : Obligations.EpochEdgesCountAfterRearm := by
  unfold Obligations.EpochEdgesCountAfterRearm
  refine ⟨fun s hpo hfilter hmask hlive hrearm => ?advances, fun s hpo hfilter hmask hlive hrearm => ?held,
    fun s hpo hfilter hdrop => ?dropped, fun s hfilter => ?unfiltered⟩
  all_goals rw [exec_epochSyncEdge]
  case advances =>
    have hdev : epochEdgeDev s.dev = epochEdge (edgeCounted s.dev) := by
      rw [epochEdgeDev_counts hpo hfilter hmask hrearm, if_pos hlive]
    refine ⟨_, onDev_eq_next_after _ s, rfl, ?_⟩
    simp [hdev, epochEdge_epoch, getInput_congr (epochEdge_frame _).1]
  case held =>
    have hdev : epochEdgeDev s.dev = modRet (edgeCounted s.dev) fun r => { r with epochEdges := r.epochEdges + 1 } := by
      rw [epochEdgeDev_counts hpo hfilter hmask hrearm, if_neg (by simp [hlive])]
    refine ⟨_, onDev_eq_next_after _ s, ?_⟩
    simp [hdev]
  case dropped =>
    refine ⟨_, onDev_eq_next_after _ s, ?_⟩
    simp [epochEdgeDev_drops hpo hfilter hdrop, inputDrop, edgeArrived]
  case unfiltered => exact onDev_id _ s (epochEdgeDev_of_unfiltered hfilter)

/-- Settles O14: an assertion that acts does so on the state that has taken it, and a wake event or the charger's update leaves the
inputs; one that comes too soon is counted in DROPPED. -/
theorem levelInputsActAfterRearm : Obligations.LevelInputsActAfterRearm := by
  unfold Obligations.LevelInputsActAfterRearm
  refine ⟨fun s hpo hrun hfilter hoff hmask hrearm => ?burstActs, fun s hpo hfilter hoff hmask hrearm => ?stageActs,
    fun s u hpo hfilter hoff hlast hearly => ?burstDropped, fun s u hpo hfilter hoff hlast hearly => ?stageDropped,
    fun d hignored => inputOn_of_ignored hignored⟩
  case burstActs =>
    have hexec := exec_burstWarnAssert_acts hpo hrun hfilter hoff hmask hrearm
    have hinputs := (wakeEvent_frame 3 (levelTake 2 false s.dev)).1
    refine ⟨⟨_, hexec, rfl, ?_⟩, hexec⟩
    simp [burstWarn, inputOn_congr hinputs, inputOn_levelTake hmask, getInput_congr hinputs]
  case stageActs =>
    have hexec : exec .stageFaultAssert s = .next (after s fun d => chargeUpdate (levelTake 4 false d)) :=
      onDev_eq_next_after_of_eq (levelAssert_acts hpo hfilter hoff hmask hrearm)
    have hon := inputOn_levelTake hmask
    obtain ⟨hinputs, hmode, hcharge⟩ := chargeUpdate_spec (levelTake 4 false s.dev)
    refine ⟨⟨_, hexec, rfl, ?_⟩, hexec⟩
    simp [inputOn_congr hinputs, hon, hcharge, chargeWanted_of_stageFault hon, hmode]
  case burstDropped => exact onDev_eq_next_after_of_eq (levelAssert_drops hpo hfilter hoff hlast hearly)
  case stageDropped => exact onDev_eq_next_after_of_eq (levelAssert_drops hpo hfilter hoff hlast hearly)

end Sys2Proof.Proofs
end
